-- ==== Sys2Proof/Word.lean ====
section
/-!
DEFINITION. The word types of the part: 32-bit register words, bytes and byte strings.
-/
namespace Sys2Proof

/-- A 32-bit register word (R6: every register access is 32 bits wide). -/
abbrev Word := BitVec 32

/-- One byte of memory or of a frame. -/
abbrev Byte := BitVec 8

/-- A byte string, first byte first. -/
abbrev Bytes := List Byte

end Sys2Proof
end

