-- ==== Sys2Proof/Machine/Sparse.lean ====
section
/-!
DEFINITION. Sparse maps from addresses to bit vectors, held as lists in rising address order: the register file's map
(RegMap, an entry may hold any value) and memory's canonical form (Cells: no entry equal to what an unlisted address reads as).
-/
namespace Sys2Proof.Machine

/-- The register words that have been written, by rising address. -/
abbrev RegMap := List (Nat × Word)

/-- The word at address a: its entry, or what the reset table gives. -/
def RegMap.get (dflt : Nat → Word) : RegMap → Nat → Word
  | [], a => dflt a
  | (k, v) :: t, a => if a < k then dflt a else if a = k then v else RegMap.get dflt t a

/-- Store a word at address a. -/
def RegMap.put : RegMap → Nat → Word → RegMap
  | [], a, v => [(a, v)]
  | (k, u) :: t, a, v =>
    if a < k then (a, v) :: (k, u) :: t
    else if a = k then (a, v) :: t
    else (k, u) :: RegMap.put t a v

/-- Forget the entries whose address meets p: those words read as their reset value again. -/
def RegMap.forget (p : Nat → Bool) (m : RegMap) : RegMap := m.filter fun e => !p e.1

/-- Keys strictly rising. -/
def RegMap.rising : RegMap → Bool
  | [] => true
  | [_] => true
  | (k, _) :: (k2, v2) :: t => decide (k < k2) && RegMap.rising ((k2, v2) :: t)

/-- A sparse table of entries by number, in rising order. -/
abbrev Assoc (α : Type) := List (Nat × α)

/-- The entry of number k, or a default. -/
def Assoc.get {α : Type} (dflt : α) : Assoc α → Nat → α
  | [], _ => dflt
  | (j, v) :: t, k => if k < j then dflt else if k = j then v else Assoc.get dflt t k

/-- Store the entry of number k. -/
def Assoc.put {α : Type} : Assoc α → Nat → α → Assoc α
  | [], k, v => [(k, v)]
  | (j, u) :: t, k, v =>
    if k < j then (k, v) :: (j, u) :: t
    else if k = j then (k, v) :: t
    else (j, u) :: Assoc.put t k v

/-- Drop the entry of number k. -/
def Assoc.del {α : Type} (m : Assoc α) (k : Nat) : Assoc α := m.filter fun e => e.1 != k

/-- Memory cells that differ from their unlisted value, by rising address. -/
abbrev Cells := List Host.Cell

/-- The byte at address a. -/
def Cells.get (dflt : Nat → Byte) : Cells → Nat → Byte
  | [], a => dflt a
  | (k, v) :: t, a => if a < k then dflt a else if a = k then v else Cells.get dflt t a

/-- Store a byte at address a; storing what an unlisted address reads as removes the entry. -/
def Cells.put (dflt : Nat → Byte) : Cells → Nat → Byte → Cells
  | [], a, v => if v = dflt a then [] else [(a, v)]
  | (k, u) :: t, a, v =>
    if a < k then (if v = dflt a then (k, u) :: t else (a, v) :: (k, u) :: t)
    else if a = k then (if v = dflt a then t else (a, v) :: t)
    else (k, u) :: Cells.put dflt t a v

/-- The canonical form: addresses strictly rising, no entry equal to its unlisted value. -/
def Cells.wf (dflt : Nat → Byte) : Cells → Bool
  | [] => true
  | (k, v) :: t =>
    (v != dflt k) && (match t with | [] => true | (k2, _) :: _ => decide (k < k2)) && Cells.wf dflt t

/-- Drop the cells whose address meets p: those bytes read as unlisted again. -/
def Cells.forget (p : Nat → Bool) (m : Cells) : Cells := m.filter fun e => !p e.1

end Sys2Proof.Machine
end

