-- ==== Sys2Proof/Machine/StateData.lean ====
section
/-!
DEFINITION. The state of the data engines ING, EPC, TRF, BAL, OBJ and DST beyond their registers and beyond what lies in DRAM
(R55 to R157). Readings, entries and headers are held as the bytes the manual lays out.
-/
namespace Sys2Proof.Machine

/-! ## ING -/

/-- A record that waits for a batch: whether the field journal holds it, and since which tick it waits (R20, R68). -/
structure Waiting where
  body : Bytes
  journalled : Bool
  tick : Nat
  deriving DecidableEq, Repr

/-- A batch sent and not yet acknowledged (R68, R69). -/
structure Batch where
  seq : Nat
  bytes : Bytes
  count : Nat
  /-- How many of its records the field journal holds. -/
  journalled : Nat
  deriving DecidableEq, Repr

/-- An acknowledgement that the head-end owes a station: the last sequence in order, the mirror sequence that must be
acknowledged first (R293) and the journal write that must have completed (R19). -/
structure AckDue where
  station : Nat
  seq : Nat
  mirror : Nat
  write : Nat
  deriving DecidableEq, Repr

/-- The ingestion engine. -/
structure IngSt where
  /-- The registry command in progress, 0 none (R57). -/
  cmd : Nat := 0
  /-- Indexes whose RESEQ stands (R57, R61). -/
  reseq : List Nat := []
  /-- Exceptions that wait for room on the exception ring (R67), and the tick the stall began. -/
  exc : List Bytes := []
  stallTick : Option Nat := none
  /-- Extended time of the module's last event 57 since start-up (R62). -/
  tamperExt : Option Nat := none
  /-- ING_RATE: start of the second being counted, its count, and the last full second's. -/
  secTick : Nat := 0
  secCount : Nat := 0
  rate : Nat := 0
  /-- Field journal and batches (R20, R68 to R70): records not yet in a batch, oldest first, and batches outstanding. -/
  unsent : List Waiting := []
  outstanding : List Batch := []
  nextSeq : Nat := 0
  ackedSeq : Nat := 0
  /-- Tick of the last acknowledgement or of the first batch sent with none outstanding; and of the last sending. -/
  ackTick : Nat := 0
  sendTick : Nat := 0
  islanded : Bool := false
  replaying : Bool := false
  /-- Earliest tick of the next replay batch (R70). -/
  replayTick : Nat := 0
  /-- Head-end: the next expected BATCH_SEQ of each station, and acknowledgements owed (R69). -/
  stations : Assoc Nat := []
  acks : List AckDue := []
  /-- Head-end: readings journalled on the drive, in order; a field module's NOR journal is unsent and outstanding. -/
  journalled : Nat := 0
  /-- EXP of each endpoint's NEWEST (R114), as the reading gave it. -/
  exps : Assoc Nat := []
  deriving DecidableEq, Repr

/-! ## EPC -/

/-- A reading that EPC holds for an endpoint (R77). -/
structure Point where
  t : Nat
  tUnc : Nat
  flags : Nat
  raw : Int
  seq : Nat
  cls : Nat
  /-- ING applied it; otherwise it is a BACKFILL and its cumulative values are derived. -/
  applied : Bool
  usable : Bool
  inverted : Bool
  cumF : Int
  cumR : Int
  deriving DecidableEq, Repr

/-- An epoch that has begun or ended (R74, R85). -/
structure EpochRec where
  no : Nat
  tStart : Nat
  tEnd : Nat
  /-- Its length in ns, and the LEN code. -/
  length : Nat
  len : Nat
  slot : Nat
  seals : Bool
  worst : Nat
  stepped : Bool
  gen : Nat
  deriving DecidableEq, Repr

/-- An ashlar (R85): header is empty until the signed header stands. -/
structure Ashlar where
  /-- 0 EPOCH, 1 AMENDMENT, 2 CLOSING. -/
  typ : Nat
  epoch : EpochRec
  amendNo : Nat
  amendsRoot : Bytes
  leaves : List Bytes
  root : Bytes
  digest : Bytes
  header : Bytes := []
  sealSeq : Nat := 0
  /-- DRAM addresses of its leaves and nodes, 0 where only the archive holds them. -/
  leafAddr : Nat := 0
  nodeAddr : Nat := 0
  /-- Its retained set, and its number on the export ring. -/
  setNo : Option Nat := none
  exportNo : Option Nat := none
  deriving DecidableEq, Repr

/-- EPC_SEAL_STATE (R81). -/
inductive SealState where
  | idle | leave | finalise | waitBal | hash | waitSign | exporting
  deriving DecidableEq, Repr

/-- An export descriptor that waits for its slot: the ashlar's sequence, and the mirror sequence that must be acknowledged
first (R92, R293). -/
structure DescDue where
  sealSeq : Nat
  mirror : Nat
  bytes : Bytes
  deriving DecidableEq, Repr

/-- A late change: an endpoint's boundary that a reading has marked for amendment (R88). -/
structure Mark where
  idx : Nat
  tEnd : Nat
  late : Bool
  deriving DecidableEq, Repr

/-- The epoch engine. -/
structure EpcSt where
  /-- Extended time of the newest boundary that counts as fired, and its number. -/
  lastFired : Option Nat := none
  /-- Boundaries up to here count as fired: the time at which EPC was enabled (R378). -/
  since : Nat := 0
  /-- The open epoch: its worst class and whether event 11 fell in it. -/
  worst : Nat := 0
  stepped : Bool := false
  /-- The last forward step: from and to (R75). -/
  stepFrom : Nat := 0
  stepTo : Nat := 0
  /-- Epochs whose boundary has fired and which are not sealed, ascending. -/
  unsealed : List EpochRec := []
  state : SealState := .idle
  /-- The ashlar in sealing: empty root until HASH has completed. -/
  job : Option Ashlar := none
  /-- Extended time of its seal instant. -/
  instant : Nat := 0
  /-- BAL has reported for the epoch in sealing. -/
  balDone : Bool := false
  zones : List Bytes := []
  /-- The archive: every ashlar sealed, oldest first. -/
  ashlars : List Ashlar := []
  /-- Export descriptors that wait for a slot, oldest first. -/
  descs : List DescDue := []
  /-- The leaves of the CLOSING ashlar that follows the epoch in sealing (R84, R107). -/
  closing : Option (EpochRec × List Bytes) := none
  /-- The set that the next EPOCH ashlar takes, and the bytes used in each. -/
  nextSet : Nat := 0
  fill0 : Nat := 0
  fill1 : Nat := 0
  /-- Sets pinned by an OBJ group. -/
  pinned : List Nat := []
  marks : List Mark := []
  /-- Readings by endpoint index, by rising time. -/
  points : Assoc (List Point) := []
  /-- The live fence (R90): held since a tick. -/
  fence : Option Nat := none
  expired : Bool := false
  deriving DecidableEq, Repr

/-! ## TRF -/

/-- What the closing work area holds for one endpoint (R106): the tariff snapshot and whether it stands, the old demand
registers once they have moved, and what the demand registers did in the period. -/
structure CloseRec where
  snap : Option (List Int) := none
  oldDemand : Option (List (Nat × Nat)) := none
  /-- Part of the period went to DEFAULT_TRF by rule, and bit k: MDk saturated; for the period open now. -/
  defaultUsed : Bool := false
  satMask : Nat := 0
  /-- The same of the closed period. -/
  oldDefault : Bool := false
  oldSat : Nat := 0
  deriving DecidableEq, Repr

/-- The tariff engine. -/
structure TrfSt where
  /-- A validation in progress: the address (R97). -/
  job : Option Nat := none
  /-- Extended times up to which period ends and evaluation points have raised their events (R109). -/
  switchDone : Nat := 0
  demandDone : Nat := 0
  /-- The class is INVALID and event 32 is not to be raised again for this stay (R99); so it is at start-up. -/
  invalidRaised : Bool := true
  /-- Schemes of the pending closing, and of closings deferred behind it (R105). -/
  closing : List Nat := []
  deferred : List Nat := []
  close : Assoc CloseRec := []
  /-- The fire of the last change of a scheme's demand grid: endpoints that still reset their ring (R103). -/
  regrid : List Nat := []
  deriving DecidableEq, Repr

/-! ## BAL -/

/-- A retained inventory sample (R130). -/
structure Sample where
  value : Int
  t : Nat
  tUnc : Nat
  deriving DecidableEq, Repr

/-- The inventory of an item at a boundary (R131): both inputs, in 10^-6 of their units, and whether one was held. -/
structure Inventory where
  t : Nat
  a : Int
  temp : Int
  held : Bool
  deriving DecidableEq, Repr

/-- One side of a CUSUM (R138); s in 16.16. -/
structure Side where
  s : Nat := 0
  onset : Nat := 0
  steps : Nat := 0
  high : Nat := 0
  span : Nat := 0
  latch : Bool := false
  /-- Acknowledged: reset at the zone's next balance of the cadence (R141). -/
  reset : Bool := false
  deriving DecidableEq, Repr

/-- A zone entry that BAL has given (R142): its span, how many items had no value, and its bytes. -/
structure ZoneEntry where
  b1 : Nat
  b0 : Nat
  itemsMissing : Nat
  bytes : Bytes
  deriving DecidableEq, Repr

/-- A complete fast balance: its instant, its z in 16.16 and the drift K_FAST it was compared with (R138). -/
structure FastZ where
  f : Nat
  z : Int
  k : Nat
  deriving DecidableEq, Repr

/-- What BAL keeps for a zone (R137, R138). -/
structure ZoneSt where
  /-- Last complete boundary, none before the first rebase, and the descriptor bytes it was taken under (R129). -/
  base : Option Nat := none
  shape : Bytes := []
  epochHi : Side := {}
  epochLo : Side := {}
  fastHi : Side := {}
  fastLo : Side := {}
  /-- The newest fast result, and the zone was incomplete at the fast cadence. -/
  fast : Option Bytes := none
  fastMissing : Bool := false
  /-- The complete fast balances since the last complete boundary. -/
  fastLog : List FastZ := []
  /-- The zone entries given, oldest first. -/
  entries : List ZoneEntry := []
  deriving DecidableEq, Repr

/-- The balance engine. -/
structure BalSt where
  /-- A validation in progress: the address and the cap (R129). -/
  job : Option (Nat × Nat) := none
  /-- Retained samples by 2 x item + input, by rising time. -/
  samples : Assoc (List Sample) := []
  /-- Fixed boundary inventories by item, oldest first; none in an entry: fixed without a value. -/
  inventory : Assoc (List (Nat × Option Inventory)) := []
  zones : Assoc ZoneSt := []
  /-- The last fast instant that ran or was skipped. -/
  fastDone : Nat := 0
  mapBusy : Bool := false
  /-- Suspicion records that wait for room (R139). -/
  susp : List Bytes := []
  deriving DecidableEq, Repr

/-! ## OBJ -/

/-- A group of requests being served (R116). -/
structure Group where
  no : Nat
  count : Nat
  view : Nat
  viewSeq : Nat
  /-- The sequence to which SEALED resolved. -/
  seq : Nat
  /-- OBJ itself holds the live fence; the fence has expired during the group; every request gives RANGE. -/
  fenced : Bool
  expired : Bool
  range : Bool
  deriving DecidableEq, Repr

/-- The object engine. -/
structure ObjSt where
  /-- A validation in progress: the address (R118). -/
  job : Option Nat := none
  group : Option Group := none
  /-- Extended times at which the waiting requests arrived, oldest first (R118). -/
  arrivals : List Nat := []
  deriving DecidableEq, Repr

/-! ## DST -/

/-- A contact with a target (R153): the blocks it has been sent for a slot. -/
structure BlockRun where
  target : Nat
  blocks : List Nat
  deriving DecidableEq, Repr

/-- A campaign slot (R149 to R151) beyond its registers and its target array. -/
structure DstSlot where
  /-- 0 IDLE, 1 DELIVER, 2 READY, 3 ACTIVATING, 4 HALTED, 5 DONE, 6 ABORTED, 7 SUPERSEDED, 8 ROLLING_BACK. -/
  st : Nat := 0
  result : Nat := 0
  /-- The header as START read it. -/
  header : Bytes := []
  /-- The queued control message of a target, by its TYPE: 1 ANNOUNCE, 4 ACTIVATE, 5 CANCEL, 6 ROLLBACK. -/
  ctl : Assoc Nat := []
  /-- Extended time at which a target was sent its ACTIVATE or ROLLBACK. -/
  asked : Assoc Nat := []
  /-- The T_ACT that ACTIVATE announces. -/
  tact : Nat := 0
  /-- Targets that have been sent a CANCEL, and those that a ROLLBACK was queued to. -/
  cancelled : List Nat := []
  rolled : List Nat := []
  /-- Multicast blocks sent by link: 0 radio, 1 power line. -/
  sent0 : Nat := 0
  sent1 : Nat := 0
  runs : List BlockRun := []
  deriving DecidableEq, Repr

/-- A slot command that waits for the mirror acknowledgement (R384). -/
structure DstDue where
  slot : Nat
  cmd : Nat
  value : Nat
  mirror : Nat
  deriving DecidableEq, Repr

/-- A meter in contact: its address, its link and the tick at which the contact began (R153). -/
structure Contact where
  addr : Nat
  link : Nat
  tick : Nat
  deriving DecidableEq, Repr

/-- The distribution engine. -/
structure DstSt where
  slots : Assoc DstSlot := []
  /-- Earliest tick of the next message by link (R153). -/
  next0 : Nat := 0
  next1 : Nat := 0
  /-- A message waits for leave. -/
  leaveWait : Bool := false
  contacts : List Contact := []
  due : List DstDue := []
  deriving DecidableEq, Repr

end Sys2Proof.Machine
end

