-- ==== Sys2Proof/Syntax.lean ====
section
/-!
DEFINITION. The commands the block takes (one constructor of Instr for each row of spec/opcode_table.json) and the
types of their operands. A command of software names the requester that gives it; a command of the environment carries
what the environment decides (a level, a frame, a latency).
-/
namespace Sys2Proof

/-- The requester roles of R26, in the order of PG_FAULT_INFO.ROLE. -/
inductive ReqRole where
  | sec | sys | app | ext | dbg
  deriving DecidableEq, Repr

/-- Who makes an access: its role, and its hart number or EXT session number (R31). -/
structure Requester where
  role : ReqRole
  id : Fin 16
  deriving DecidableEq, Repr

/-- One access of a requester to the address map of R15: width in bytes; a read ignores the value. -/
structure BusAccess where
  req : Requester
  addr : Nat
  width : Nat
  write : Bool
  value : Nat
  deriving DecidableEq, Repr

/-- The medium boundaries of R41: of a page's medium, or of one lane's next connection event. -/
inductive Boundary where
  | page (p : Fin 32)
  | lane (n : Fin 512)
  deriving DecidableEq, Repr


/-- The items of the armature stream (R292), each with what the standby needs to do the same work. -/
inductive ArmItem where
  | record (ring : Nat) (rec : Bytes)
  | regCmd (cmd attr0 attr1 addr : Nat)
  | balAck (value : Word)
  | dstCmd (slot value : Nat) (regs : List Nat)
  | sample (rec : Bytes)
  | batchSeq (station seq : Nat)
  | header (bytes digest : Bytes)
  | balState (zones : Machine.Assoc Machine.ZoneSt)
  | dstState (slot : Nat) (state : Machine.DstSlot) (addr : Nat) (bytes : Bytes)
  | region (r base : Nat) (bytes : Bytes)
  deriving DecidableEq, Repr

/-- A heartbeat as it arrives (R287), without the constant and check octets. -/
structure Heartbeat where
  state : Fin 4
  armValid : Bool
  yield : Bool
  claiming : Bool
  pref : Bool
  seq : BitVec 16
  eui : BitVec 64
  sealLo : Word
  role : Byte
  deriving DecidableEq, Repr

/-- What path A's sealed frame carries beside the heartbeat (R288, R297): the partner's time at sending and at the arrival of our
last heartbeat, its EPC_SIGN_SLOT, its configuration digest, its ring station, and the station it takes for its partner. -/
structure PairView where
  sent : Nat
  arrival : Option Nat
  signSlot : Fin 256
  digest : Bytes
  stn : Fin 1024
  partnerStn : Fin 1024
  deriving DecidableEq, Repr

/-- A root and a digest as the partner reports them (R294). -/
structure PartnerRoot where
  epoch : Nat
  typ : Fin 3
  amend : Nat
  root : Bytes
  digest : Bytes
  deriving DecidableEq, Repr

/-- What a resynchronisation copies to the joiner (R298): runs of DRAM, registers of the data-engine pages that the hardware
keeps, the engines' areas, the stations' BATCH_SEQ, and the first SEAL_SEQ that the partner issued after a takeover. -/
structure PairCopy where
  dram : List (Nat × Bytes)
  regs : List (Nat × Word)
  epc : Machine.EpcSt
  trf : Machine.TrfSt
  bal : Machine.BalSt
  dst : Machine.DstSt
  stations : Machine.Assoc Nat
  reseq : List Nat
  exps : Machine.Assoc Nat
  firstSeq : Option Nat
  deriving DecidableEq, Repr

/-- Where a capture edge comes from (R243). -/
inductive CapEdge where
  | gpio (land : Fin 32) (rising : Bool)
  | ppsIn (rising : Bool)
  | zcIn (rising : Bool)
  | radio | plc
  deriving DecidableEq, Repr

/-- A frame as the radio receives it (R177, R180, R182): its PHR is valid, the FCS length it announces, its PSDU, the channel,
the strength in dBm and above sensitivity in dB, whether the second antenna has the stronger preamble, and the ns since the detection of its first PHR bit. -/
structure RadioRx where
  phrOk : Bool
  fcs32 : Bool
  psdu : Bytes
  channel : Fin 128
  rssi : BitVec 8
  margin : BitVec 8
  ant : Bool
  ago : Nat
  deriving DecidableEq, Repr

/-- A frame as the power line brings it (R202, R203): HCRC passed, MOD, GMASK and ZCO of its header, RS decoding passed in every
block, its PSDU, the mean SNR of each group in dB, its noise symbols, and the ns since the detection of its first SYNC_N. -/
structure PlcRx where
  hdrOk : Bool
  modu : Fin 4
  gmask : BitVec 17
  zco : BitVec 16
  rsOk : Bool
  psdu : Bytes
  snr : List (BitVec 8)
  noise : Nat
  ago : Nat
  deriving DecidableEq, Repr

/-- A token as a port receives it (R217, R219). -/
structure RingToken where
  secondary : Bool
  src : Fin 1024
  gen : BitVec 16
  hops : Fin 2048
  rot : Word
  unwrap : Bool
  join : BitVec 16
  deriving DecidableEq, Repr

/-- A CLAIM as a port receives it (R217, R220): MEMBERS by station number, rising. -/
structure RingClaim where
  secondary : Bool
  src : Fin 1024
  gen : BitVec 16
  hops : Fin 2048
  unwrap : Bool
  members : List (Fin 1024)
  deriving DecidableEq, Repr


/-- The commands of the block: one constructor for each row of the table of operations and events, in the order of the table, those
with operands first: compiled code can number no more than 244 constructors that carry data. -/
inductive Instr where
  /-- REG_WRITE (R5): A write to a register that has no row of its own is checked against class, role and width and stored or refused. -/
  | regWrite (a : BusAccess)
  /-- LO_HALF_WRITE (R7): A write of the _LO half of a 64-bit register is held until the _HI write. -/
  | loHalfWrite (r : Requester) (addr : Nat) (value : Word)
  /-- HI_HALF_WRITE (R7): A write of the _HI half applies both halves together, or the high half with the current low half. -/
  | hiHalfWrite (r : Requester) (addr : Nat) (value : Word)
  /-- LO_HALF_READ (R7): A read of the _LO half latches the _HI half of the same instant. -/
  | loHalfRead (r : Requester) (addr : Nat)
  /-- COUNTER_CLEAR (R5): Any write to a C register clears its count to zero. -/
  | counterClear (r : Requester) (addr : Nat)
  /-- W1C_WRITE (R5): A write to a W1C register clears each bit written as 1. -/
  | w1cWrite (r : Requester) (addr : Nat) (value : Word)
  /-- FAULT_LOG_CLEAR (R28): Writing 1 to PG_EVT_PEND bit 31 clears the fault address, fault info and FAULT together. -/
  | faultLogClear (r : Requester) (page : Fin 32)
  /-- EVT_PEND_CLEAR (R29): Clearing pending bits in the EVT page clears them in the owning pages, in all four FB pages for events 22 and 60, and in every page for event 55. -/
  | evtPendClear (r : Requester) (high : Bool) (value : Word)
  /-- SYS_SOFT (R29): Writing 1 to EVT_SOFT bit 0 raises event 63. -/
  | sysSoft (r : Requester)
  /-- PG_CTRL_EN_WRITE (R25): A write of PG_CTRL.EN enables or idles a block, unless the role, the staged set or the page forbids it. -/
  | pgCtrlEnWrite (r : Requester) (page : Fin 32) (en : Bool) (freeze : Bool)
  /-- SOFT_RST (R24): Writing PG_CTRL.SOFT_RST returns a block's live registers and state to reset within 1 µs, with page-specific exceptions. -/
  | softRst (r : Requester) (page : Fin 32)
  /-- DBG_FREEZE_HALT (R24): While a debugger holds an application core halted, blocks with DBG_FREEZE = 1 halt. -/
  | dbgFreezeHalt (halted : Bool)
  /-- SHADOW_WRITE (R31): A write to a shadow offset stages a value, sets its dirty flag and makes the writer owner, or is refused with COMMIT_LOCK. -/
  | shadowWrite (r : Requester) (addr : Nat) (value : Word)
  /-- CHECK (R36): CMT_CTRL.CHECK locks the shadows, puts the pages in the set and starts the check. -/
  | cmtCheck (r : Requester)
  /-- CMT_ABORT (R33): CMT_CTRL.ABORT aborts an armed or quiescing keystone with cause COMMAND and raises event 7. -/
  | cmtAbort (r : Requester)
  /-- DISCARD (R30): CMT_CTRL.DISCARD reloads every shadow from live, clears dirty flags and releases the owner. -/
  | cmtDiscard (r : Requester)
  /-- CLAIM (R31): CMT_CTRL.CLAIM makes the requester owner of the staged set. -/
  | cmtClaim (r : Requester)
  /-- CMT_RELEASE (R31): CMT_CTRL.RELEASE on an empty set releases the owner and returns the keystone to IDLE. -/
  | cmtRelease (r : Requester)
  /-- CMT_FIRE_TARGET_WRITE (R32): A write of CMT_FIRE_NS or CMT_FIRE_WRAP stores the target and returns a checked or checking set to STAGING. -/
  | cmtFireTargetWrite (r : Requester) (wrap : Bool) (value : Word)
  /-- GO (R37): CMT_ARM with GO arms a checked set in the mode of AT and QUIESCE, or is refused. -/
  | cmtGo (r : Requester) (at' : Bool) (quiesce : Bool)
  /-- FIRE_COMPLETE (R33): All tick-class blocks acknowledge, the generation increments, event 6 is raised and the owner is released. -/
  | fireComplete (latency : Fin 2501)
  /-- BOUNDARY_APPLY (R41): A block reaches its medium boundary and boundary-class registers take effect, clearing BOUNDARY_PEND. -/
  | boundaryApply (b : Boundary)
  /-- GPIO_EDGE (R49): An enabled edge that stands for 20 ns on a GPIO land sets its PIN_EDGE_PEND bit and event 58. -/
  | gpioEdge (land : Fin 32) (level : Option Bool)
  /-- ADD (R57): Registry command ADD allocates an index, writes a LIVE hash entry and initialises the record. -/
  | regAdd (r : Requester)
  /-- REMOVE (R57): Registry command REMOVE makes the hash entry TOMBSTONE and keeps the index allocated. -/
  | regRemove (r : Requester)
  /-- SUSPEND (R57): Registry command SUSPEND turns a LIVE entry SUSPENDED. -/
  | regSuspend (r : Requester)
  /-- RESUME (R57): Registry command RESUME turns a SUSPENDED entry LIVE. -/
  | regResume (r : Requester)
  /-- RESEQ (R57): Registry command RESEQ makes the next reading a new baseline. -/
  | regReseq (r : Requester)
  /-- LOOKUP (R57): Registry command LOOKUP returns the index and state of an address. -/
  | regLookup (r : Requester)
  /-- FREE (R387): Registry command FREE puts a removed index on the free list unless it is still in use. -/
  | regFree (r : Requester)
  /-- READING_INTAKE (R60): ING takes a reading record from an input ring through lookup, sequence check, validation, conversion, apply and forward. -/
  | readingIntake (ring : Fin 8) (native : Option (Fin 512 × List Bytes))
  /-- EXC_CONS_WRITE (R67): Firmware advances ING_EXC_CONS and a stalled ING resumes input. -/
  | excConsWrite (r : Requester) (value : Word)
  /-- EXP_CONS_WRITE (R91): Firmware advances EPC_EXP_CONS, freeing export slots and retained sets that seals wait for. -/
  | expConsWrite (r : Requester) (value : Word)
  /-- FENCE_HOLD (R90): EPC_LIVE_FENCE.HOLD = 1 holds ING's apply stage and freezes EPC_LIVE_SEQ. -/
  | fenceHold (r : Requester)
  /-- FENCE_RELEASE (R90): EPC_LIVE_FENCE.HOLD = 0 releases the apply stage. -/
  | fenceRelease (r : Requester)
  /-- TBL_VALIDATE (R97): TRF_TBL_CMD.VALIDATE checks a scheme table within 20 ms. -/
  | tblValidate (r : Requester)
  /-- OBJ_TBL_VALIDATE (R118): OBJ_TBL_CMD.VALIDATE checks a rights table within 1 ms. -/
  | objTblValidate (r : Requester)
  /-- RSP_CONS_WRITE (R120): Firmware advances OBJ_RSP_CONS and a blocked OBJ resumes taking requests. -/
  | rspConsWrite (r : Requester) (value : Word)
  /-- INVENTORY_FIX (R131): The boundary inventory of an item is fixed when all inputs have a later sample or at b + STALE_MAX. -/
  | inventoryFix (item : Fin 16384)
  /-- BAL_EPOCH_PASS (R135): With leave granted, BAL balances every epoch-enabled zone, updates CUSUM and writes zone entries. -/
  | balEpochPass (us : Word)
  /-- SUSP_CONS_WRITE (R139): Firmware advances BAL_SUSP_CONS and a pass held on a full suspicion ring resumes. -/
  | suspConsWrite (r : Requester) (value : Word)
  /-- BAL_ACK (R141): A write to BAL_ACK names zone sides to be unlatched and reset at the next balance. -/
  | balAck (r : Requester) (value : Word)
  /-- BAL_TBL_VALIDATE (R129): BAL_TBL_CMD.VALIDATE checks a table block and its member cap. -/
  | balTblValidate (r : Requester)
  /-- DST_START (R152): Slot command START checks and verifies the image, sets bitmaps, queues ANNOUNCEs and enters DELIVER. -/
  | dstStart (r : Requester) (slot : Fin 8) (links : Fin 4)
  /-- DST_ACTIVATE (R151): Slot command ACTIVATE queues ACTIVATE to every COMPLETE target of a READY firmware campaign. -/
  | dstActivate (r : Requester) (slot : Fin 8)
  /-- DST_ABORT (R151): Slot command ABORT queues CANCEL to receiving and complete targets and enters ABORTED with event 36. -/
  | dstAbort (r : Requester) (slot : Fin 8)
  /-- DST_ROLLBACK (R151): Slot command ROLLBACK queues ROLLBACK to every ACTIVE target. -/
  | dstRollback (r : Requester) (slot : Fin 8)
  /-- DST_RELEASE (R151): Slot command RELEASE clears a finished slot once no CANCEL is due. -/
  | dstRelease (r : Requester) (slot : Fin 8)
  /-- DST_SEND (R153): DST sends its next paced control, multicast or repair message on a link when leave and quota allow. -/
  | dstSend (link : Fin 2)
  /-- DST_REPORT (R150): A REPORT from a meter updates the target bitmap and state and may complete the campaign with event 36. -/
  | dstReport (meter : BitVec 64) (message : Bytes)
  /-- CAMPAIGN_DEADLINE (R151): DST_C_DEADLINE is reached and targets not COMPLETE become UNREACHABLE. -/
  | campaignDeadline (slot : Fin 8)
  /-- ACT_WAIT_EXPIRE (R150): An activated target stays silent for DST_ACT_WAIT and becomes UNREACHABLE. -/
  | actWaitExpire (slot : Fin 8)
  /-- Q_WR (R162): A write to QRY_Q_WR appends four bytes to the open frame, opening one or marking it refused or oversized. -/
  | qWr (r : Requester) (q : Fin 1024) (value : Word)
  /-- COMMIT (R162): Queue command COMMIT ends the open frame, writes the descriptor and makes it visible. -/
  | qCommit (r : Requester) (q : Fin 1024) (tag : Fin 32)
  /-- ABANDON (R162): Queue command ABANDON frees the open frame's cells. -/
  | qAbandon (r : Requester) (q : Fin 1024)
  /-- ADVANCE (R164): Queue command ADVANCE moves RD to the next frame. -/
  | qAdvance (r : Requester) (q : Fin 1024)
  /-- MARK (R164): Queue command MARK sets MARK to RD. -/
  | qMark (r : Requester) (q : Fin 1024)
  /-- REWIND (R164): Queue command REWIND sets RD to MARK. -/
  | qRewind (r : Requester) (q : Fin 1024)
  /-- Q_RELEASE (R164): Queue command RELEASE frees the frames from HEAD up to MARK. -/
  | qRelease (r : Requester) (q : Fin 1024)
  /-- SEEK (R164): Queue command SEEK sets the aperture word index. -/
  | qSeek (r : Requester) (q : Fin 1024) (word : Fin 1024)
  /-- FORWARD (R166): Queue command FORWARD appends the frame at RD to an even queue without copying. -/
  | qForward (r : Requester) (q : Fin 1024) (dest : Fin 1024)
  /-- RENEW (R170): Queue command RENEW takes or renews a lane's lease. -/
  | qRenew (r : Requester) (q : Fin 1024)
  /-- CLR_CORR (R175): Queue command CLR_CORR clears the queue's CORR count. -/
  | qClrCorr (r : Requester) (q : Fin 1024)
  /-- APERTURE_READ (R165): A read of aperture offset 0x20 latches the whole word of the frame at RD. -/
  | apertureRead (r : Requester) (q : Fin 1024) (j : Fin 8) (ecc : Fin 3)
  /-- Q_COUNT_READ (R169): A read of QRY_Q_COUNT latches QRY_Q_BYTES. -/
  | qCountRead (r : Requester) (q : Fin 1024)
  /-- LEASE_EXPIRE (R170): LEASE_T × 10 ms pass without renewal and the lane is fenced. -/
  | leaseExpire (lane : Fin 512)
  /-- FENCE (R171): QRY_FENCE with FENCE = 1 fences a lane and queues it for sweep. -/
  | qFence (r : Requester) (lane : Fin 512)
  /-- UNFENCE (R171): QRY_FENCE with UNFENCE = 1 empties and unfences a swept lane. -/
  | qUnfence (r : Requester) (lane : Fin 512)
  /-- SUPERFRAME_START (R181): A superframe starts and RMC sends its beacon or counts a missed one with event 12. -/
  | superframeStart (locked : Bool)
  /-- RAD_FRAME_RX (R182): RAD receives a frame, stamps it, checks FCS, security and replay window and writes it to a queue. -/
  | radFrameRx (f : RadioRx)
  /-- ACK_WAIT_TIMEOUT (R185): No ACK preamble arrives in the window and the frame is retried or counted as failed. -/
  | ackWaitTimeout (plc : Bool)
  /-- CSMA_SEND (R184): A frame waiting for the contention period starts CSMA/CA backoff. -/
  | csmaSend (lane : Fin 512)
  /-- CSMA_BACKOFF_END (R184): A backoff ends, leave and CCA are checked and the frame is sent, deferred or backed off again. -/
  | csmaBackoffEnd (plc : Bool) (busy : Bool)
  /-- CONNECTION_EVENT (R189): A lane's connection event slot arrives and the exchange runs or the event is skipped. -/
  | connectionEvent (lane : Fin 512)
  /-- LISTEN (R190): LN_CMD LISTEN puts a lane into LISTEN. -/
  | laneListen (r : Requester) (lane : Fin 512)
  /-- DISCONNECT (R190): LN_CMD DISCONNECT returns a lane to IDLE. -/
  | laneDisconnect (r : Requester) (lane : Fin 512)
  /-- CONNECT_RSP_TX (R190): A CONNECT_RSP follows the ACK of a matching CONNECT_REQ and the lane becomes CONNECTED. -/
  | connectRspTx (lane : Fin 512)
  /-- SUPERVISION_TIMEOUT (R191): The supervision timer reaches SUP_TO and the lane becomes LOST with event 13. -/
  | supervisionTimeout (lane : Fin 512)
  /-- SCAN_START (R195): RAD_SCAN_CMD.START begins a channel scan, or is refused while RMC is enabled. -/
  | scanStart (r : Requester) (dwell : BitVec 8)
  /-- RAD_SCAN_DONE (R195): The scan ends, stores peak RSSI per channel and raises event 61. -/
  | radScanDone (peaks : List (BitVec 8))
  /-- PLC_FRAME_RX (R202): PLC receives a frame, checks header, RS, FCS and security, classifies phase and writes it to a queue. -/
  | plcFrameRx (f : PlcRx)
  /-- PLC_CSMA_SEND (R206): A PLC frame starts CSMA/CA with PLC units and end-of-period rule. -/
  | plcCsmaSend (lane : Fin 512)
  /-- TONEMAP_TX (R207): The device sends a TONEMAP frame to a peer whose chosen map differs from the last reported one. -/
  | tonemapTx (lane : Fin 512)
  /-- TRK_FRAME_RX (R218): A ring frame is forwarded cut-through and, when copied, written to the quarry after its FCS passes. -/
  | trkFrameRx (port : Fin 2) (frame : Bytes) (code : Bool) (ago : Nat) (residence : Nat)
  /-- TOKEN_RX (R219): A station acts on the token on its primary visit, sending data for up to TRK_THT. -/
  | tokenRx (port : Fin 2) (token : RingToken)
  /-- TOKEN_RETURN (R220): The token returns to the master, which increments ROT, handles joins and unwrap requests. -/
  | tokenReturn (port : Fin 2) (token : RingToken)
  /-- CLAIM_RETURN (R220): The master's own CLAIM returns, fixing the admitted set and sending a new TOKEN. -/
  | claimReturn (port : Fin 2) (claim : RingClaim)
  /-- CLAIM_RX (R220): A station receiving a CLAIM of newer generation adopts it, marks itself and raises event 20. -/
  | claimRx (port : Fin 2) (claim : RingClaim)
  /-- ADMIT (R221): A station receives an ADMIT answering its join request. -/
  | admitRx (port : Fin 2) (result : Fin 3)
  /-- HELLO_TX (R222): Each port sends a HELLO every HELLO_MS. -/
  | helloTx (port : Fin 2)
  /-- HELLO (R222): A port receives a HELLO from its neighbour. -/
  | helloRx (port : Fin 2) (ready : Bool)
  /-- HELLO_TIMEOUT (R222): No HELLO for HELLO_TO takes the port down and the station wraps with event 21. -/
  | helloTimeout (port : Fin 2)
  /-- PCS_SYNC_LOSS (R222): A port's PCS loses synchronisation and the station wraps with event 21. -/
  | pcsSyncLoss (port : Fin 2)
  /-- UNWRAP_HOLD_END (R222): A down port runs clean for TRK_UNWRAP_HOLD and sets READY in its HELLO. -/
  | unwrapHoldEnd (port : Fin 2)
  /-- UPL_FRAME_RX (R225): The uplink receives a frame, filters it by address and delivers it with checksum flags. -/
  | uplFrameRx (frame : Bytes) (ago : Nat)
  /-- UPL_FRAME_TX (R226): The uplink sends a frame from its queue with inserted checksums and optional time-stamp. -/
  | uplFrameTx (lane : Fin 512)
  /-- UPL_LINK (R225): UPL_STAT.LINK changes and event 23 is raised. -/
  | uplLink (link : Bool) (speed : Fin 3) (done : Bool)
  /-- UPL_SES_CTRL_WRITE (R227): A write of UPL_SES_CTRL enables a session, clearing its sequence and cache, or disables it. -/
  | uplSesCtrlWrite (r : Requester) (session : Fin 16) (value : Word)
  /-- SESSION_IDLE (R227): A session idle for UPL_SES_IDLE is disabled. -/
  | sessionIdle (session : Fin 16)
  /-- POLL_DUE (R230): A poll entry falls due, or is counted in FB_SKIP when still waiting. -/
  | pollDue (bus : Fin 4) (entry : Fin 1024)
  /-- FB_TRANSACTION_START (R231): An idle port starts the next transaction from its transmit queue or due entries and sends the request. -/
  | fbTransactionStart (bus : Fin 4)
  /-- FB_RESPONSE (R232): A response frame ends and is judged, delivered, or retried. -/
  | fbResponse (bus : Fin 4) (frame : Bytes) (framing : Bool) (ago : Nat)
  /-- FBS_POLL_TIMEOUT (R232): No start bit arrives within the response timeout and the try is retried or event 22 raised. -/
  | fbsPollTimeout (bus : Fin 4)
  /-- FB_TURN_END (R231): FB_TURN passes after a broadcast and the transaction finishes. -/
  | fbTurnEnd (bus : Fin 4)
  /-- TIM_NS_READ (R236): A read of TIM_NS latches TIM_WRAP. -/
  | timNsRead (r : Requester)
  /-- TIM_INC_WRITE (R237): A write of TIM_INC_HI in MANUAL sets the rate, clamped, from the next tick. -/
  | timIncWrite (r : Requester) (value : Word)
  /-- TIM_STEP (R239): A write of TIM_STEP_HI steps the extended time and raises event 11, or is refused. -/
  | timStep (r : Requester) (value : Word)
  /-- CMP_ARM (R240): TIM_CMP_CTRL.ARM arms a compare channel, matching late at once if its target is passed. -/
  | cmpArm (r : Requester) (ch : Fin 16)
  /-- CMP_DISARM (R240): TIM_CMP_CTRL.DISARM stops a compare channel without a match. -/
  | cmpDisarm (r : Requester) (ch : Fin 16)
  /-- TIM_CMP (R240): A compare channel matches, sets pending, raises event 9, pulses outputs and rearms or disarms. -/
  | timCmp (ch : Fin 16)
  /-- CAPTURE_EDGE (R243): A capture channel stores the time of an edge or frame reference instant. -/
  | captureEdge (e : CapEdge)
  /-- CAP_NS_READ (R243): A read of TIM_CAP_NS latches TIM_CAP_WRAP and TIM_CAP_SEQ. -/
  | capNsRead (r : Requester) (ch : Fin 8)
  /-- TXTS_NS_READ (R245): A read of TIM_TXTS_NS latches the head entry's wrap and info. -/
  | txtsNsRead (r : Requester)
  /-- POP (R245): TIM_TXTS_POP.POP removes the head entry of the FIFO. -/
  | txtsPop (r : Requester)
  /-- OFFSET_SAMPLE_WRITE (R248): A write of TIM_OFFSET_HI delivers a FIRMWARE offset sample. -/
  | offsetSampleWrite (r : Requester) (value : Word)
  /-- CLASS_SET (R251): A write of TIM_CLASS_SET in MANUAL sets the clock validity class, or is ignored. -/
  | classSet (r : Requester) (cls : Fin 4)
  /-- GENERATE (R268): Job GENERATE makes a random key or key pair in a slot. -/
  | generateJob (ring : Fin 2)
  /-- DERIVE (R260): Job DERIVE derives a key into a slot by the counter-mode KDF. -/
  | deriveJob (ring : Fin 2)
  /-- IMPORT (R261): Job IMPORT opens a key package into a slot. -/
  | importKey (ring : Fin 2)
  /-- INVALIDATE (R271): Job INVALIDATE wipes a slot, orphans its descendants and evicts its cache entries. -/
  | invalidateJob (ring : Fin 2)
  /-- SAVE (R262): Job SAVE writes a slot blob under slot 0. -/
  | saveJob (ring : Fin 2)
  /-- KEY_LOAD (R262): Job LOAD restores a slot blob into its slot. -/
  | keyLoad (ring : Fin 2)
  /-- ATTEST (R273): Job ATTEST writes the mason's mark of a slot. -/
  | attestJob (ring : Fin 2)
  /-- PUBKEY (R268): Job PUBKEY returns a public key, with the manufacturing record for slot 1. -/
  | pubkeyJob (ring : Fin 2)
  /-- SIGN (R268): Job SIGN makes an ECDSA signature over a digest. -/
  | signJob (ring : Fin 2)
  /-- VERIFY (R268): Job VERIFY checks an ECDSA signature. -/
  | verifyJob (ring : Fin 2)
  /-- AEAD_SEAL (R268): Job AEAD_SEAL encrypts with GCM. -/
  | aeadSeal (ring : Fin 2)
  /-- AEAD_OPEN (R268): Job AEAD_OPEN decrypts and checks with GCM. -/
  | aeadOpen (ring : Fin 2)
  /-- MAC_GEN (R268): Job MAC_GEN computes CMAC or HMAC. -/
  | macGen (ring : Fin 2)
  /-- MAC_CHECK (R268): Job MAC_CHECK compares a MAC. -/
  | macCheck (ring : Fin 2)
  /-- HASH (R268): Job HASH computes SHA-256. -/
  | hashJob (ring : Fin 2)
  /-- ECDH_DERIVE (R268): Job ECDH_DERIVE derives a key into a slot from ECDH with a peer key. -/
  | ecdhDerive (ring : Fin 2)
  /-- DERIVE_BLOB (R260): Job DERIVE_BLOB derives a meter key and writes its blob under BLOB_KEK. -/
  | deriveBlob (ring : Fin 2)
  /-- REWRAP (R268): Job REWRAP rewraps a run of blobs under BLOB_KEK, updating cached entries. -/
  | rewrap (ring : Fin 2)
  /-- EP_REKEY (R265): Job EP_REKEY writes a new KEY_REF and clears the record's frame counters. -/
  | epRekey (ring : Fin 2)
  /-- RANDOM (R268): Job RANDOM writes random bytes. -/
  | randomJob (ring : Fin 2)
  /-- L0_GO (R272): KEY_L0_CMD.GO asks the boot ROM for the level-0 attestation response, or is refused. -/
  | l0Go (r : Requester)
  /-- HIST_SAMPLE (R278): A histogram channel takes a sample into its bins and extremes. -/
  | histSample (ch : Fin 16) (value : BitVec 32)
  /-- REC_FW_SAMPLE_WRITE (R278): A write of REC_FW_SAMPLE gives channel 12 to 15 one sample. -/
  | recFwSampleWrite (r : Requester) (ch : Fin 4) (value : Word)
  /-- REC_FW_CODE_WRITE (R280): A write of REC_FW_CODE submits a firmware condition. -/
  | recFwCodeWrite (r : Requester) (value : Word)
  /-- REC_STARTUP_SCAN (R282): At start-up the recorder finds its oldest and newest records and writes a MARK START_UP. -/
  | recStartupScan (erase : Option (Fin 1024)) (decayed : List (Fin 524288 × Bytes))
  /-- REC_LOAD (R283): REC_WIN_CMD.LOAD loads the record at the cursor and the next into the window. -/
  | recLoad (r : Requester) (decayed : List (Fin 524288 × Bytes))
  /-- REC_NEXT (R283): REC_WIN_CMD.NEXT advances the cursor past the second record and loads again. -/
  | recNext (r : Requester) (decayed : List (Fin 524288 × Bytes))
  /-- CLEAR (R284): REC_CLEAR.CLEAR erases every sector and writes a MARK CLEARED. -/
  | recClear (r : Requester)
  /-- HB_RX (R287): A heartbeat arrives, is validated and updates the partner view. -/
  | hbRx (pathB : Bool) (crcOk : Bool) (h : Heartbeat) (view : Option PairView)
  /-- HB_PATH_LOSS (R287): No valid heartbeat on a path for LOSS raises event 43 or 44. -/
  | hbPathLoss (pathB : Bool)
  /-- PAIR_FRAME_RX (R288): A sealed pair-link frame is opened, or discarded on failure. -/
  | pairFrameRx (opens : Bool)
  /-- KICK (R289): A write of RED_KICK restarts the kick timeout. -/
  | redKick (r : Requester)
  /-- YIELD (R289): RED_CMD YIELD hands activity to a STANDBY partner. -/
  | redYield (r : Requester)
  /-- FORCE (R289): RED_CMD FORCE by SEC makes a RESYNC module claim the fence. -/
  | redForce (r : Requester) (low : Bool)
  /-- RED_RESYNC_CMD (R300): RED_CMD RESYNC requests resynchronisation. -/
  | redResyncCmd (r : Requester)
  /-- REGION_SYNC (R292): RED_CMD REGION_SYNC mirrors a named DRAM region to the partner. -/
  | regionSync (r : Requester) (region : Fin 16)
  /-- REGION_SYNC_DONE (R300): A region copy ends, clearing BUSY and setting SYNCED. -/
  | regionSyncDone (region : Fin 16)
  /-- RESTORED (R289): RED_CMD RESTORED in SOLO sets ARM_VALID. -/
  | redRestored (r : Requester)
  /-- JOIN_WAIT_EXPIRE (R289): RED_JOIN_WAIT passes in RESYNC without heartbeats and a module with ARM_VALID claims. -/
  | joinWaitExpire (low : Bool)
  /-- FENCE_CLAIM_WAIT_END (R290): The claim's preference wait ends and the module drives ACTIVE_N if still high. -/
  | fenceClaimWaitEnd (low : Bool)
  /-- TAKEOVER_EVAL (R290): Each ms a STANDBY evaluates the takeover rule and starts a claim or sets ISOLATED. -/
  | takeoverEval (low : Bool)
  /-- ARMATURE_ITEM (R292): The standby journals an armature item, acknowledges it and feeds it to its engines. -/
  | armatureItem (seq : Nat) (item : ArmItem)
  /-- MIRROR_ACK (R293): A mirror acknowledgement releases waiting batch acknowledgements and archive writes. -/
  | mirrorAck (seq : Nat)
  /-- MIRROR_LAG_EXPIRE (R293): The oldest item waits RED_LAG_MAX or the window fills and the armature is unfit. -/
  | mirrorLagExpire (full : Bool)
  /-- ROOT_COMPARE (R294): When both roots or digests are available RED compares them and raises event 46 on a difference. -/
  | rootCompare (partner : Option PartnerRoot)
  /-- RESYNC_PASS (R298): The active copies one pass of state pages, or the final pass with ING held. -/
  | resyncPass (left : Nat) (us : Nat) (copy : Option PairCopy)
  /-- PWR_FAIL_WARN (R305): VIN stays below THR for DEGLITCH, PFW_N goes low, event 0 is raised and the flush starts. -/
  | pwrFailWarn (vin : Nat)
  /-- PF_RESET (R305): VIN stays above THR + HYST for 100 ms after the flush and a power-fail reset follows. -/
  | pfReset (vin : Nat)
  /-- VBAT_LOSS (R301): VBAT below 2.0 V with VIN absent clears the plinth. -/
  | vbatLoss (mv : Nat)
  /-- THERM_HIGH (R310): Die temperature above HIGH raises event 3 and derates the ceiling. -/
  | thermHigh (temp : Int)
  /-- THERM_CLEAR (R310): Temperature falls 5 K below HIGH and derating ends. -/
  | thermClear (temp : Int)
  /-- LEAVE_RETURN (R312): A grant ends or a request is withdrawn and the queue is served in order. -/
  | leaveReturn (cls : Fin 16) (page : Fin 32) (tag : Nat)
  /-- POWER_OVER (R313): Measured input power exceeds the ceiling for OVER_MS and no new leave is granted. -/
  | powerOver (mean : Nat)
  /-- POWER_OVER_END (R313): The mean falls 5 % below the ceiling and granting resumes. -/
  | powerOverEnd (mean : Nat)
  /-- FW_REQUEST (R314): PWR_FW_CMD REQUEST submits a class-15 leave request. -/
  | fwRequest (r : Requester)
  /-- FW_RETURN (R314): PWR_FW_CMD RETURN ends the firmware grant or withdraws its request. -/
  | fwReturn (r : Requester)
  /-- POWER_UP_STEP (R303): A rail reaches regulation in the power-up sequence, or a timeout restarts it after 100 ms. -/
  | powerUpStep (ok : Bool)
  /-- POR (R320): VIN rises through the start-up threshold and a FULL reset starts power-up. -/
  | por (vin : Nat)
  /-- RST_CORE (R319): SYS_RST_CMD CORE restarts the application cores. -/
  | rstCore (r : Requester)
  /-- RST_WARM (R319): SYS_RST_CMD WARM resets with DRAM kept in self-refresh. -/
  | rstWarm (r : Requester)
  /-- RST_FULL (R319): SYS_RST_CMD FULL resets everything but the plinth, fuses and storage. -/
  | rstFull (r : Requester)
  /-- BOOT (R323): At reset release the boot ROM completes fuses, derives keys, inits DRAM and boots an acceptable bank. -/
  | bootRun (sel : Fin 4) (rtc : Nat)
  /-- MEM_ECC_CORR_SUMMARY (R334): Each MEM_SUMMARY_S with grown count raises event 50. -/
  | memEccCorrSummary (corrected : Nat)
  /-- MEM_ECC_UNCORR (R334): An uncorrectable DRAM word raises event 51 and records its address. -/
  | memEccUncorr (addr : Nat) (reader : Option (Fin 32))
  /-- WDT_KICK (R333): A write of 0xC3A5 to SYS_WDT_KICK restarts the watchdog. -/
  | wdtKick (r : Requester) (value : Word)
  /-- TAMPER_CLR (R328): RST_TAMPER_CLR clears the latch while TAMPER_N is high. -/
  | tamperClr (r : Requester) (pinHigh : Bool)
  /-- LC_AUTH_GO (R326): RST_LC_AUTH_CMD.GO verifies a life-cycle authorisation within 2 ms and draws a new nonce. -/
  | lcAuthGo (r : Requester) (target : Fin 8)
  /-- OWNER_PROGRAM (R325): RST_OWNER_CMD PROGRAM programs an owner hash. -/
  | ownerProgram (r : Requester) (index : Fin 4)
  /-- OWNER_REVOKE (R325): RST_OWNER_CMD REVOKE revokes an owner key, except the last. -/
  | ownerRevoke (r : Requester) (index : Fin 4)
  /-- SVN_GO (R330): RST_SVN_CMD.GO raises the fused SVN within limits. -/
  | svnGo (r : Requester) (svn : Fin 64)
  /-- ERASE (R329): SYS_NOR_CMD ERASE erases a 64 KiB sector unless refused. -/
  | norErase (r : Requester)
  /-- PROGRAM (R329): SYS_NOR_CMD PROGRAM writes and reads back 256 bytes unless refused. -/
  | norProgram (r : Requester)
  /-- IMG_VERIFY (R330): SYS_IMG_CMD.VERIFY checks a bank's image. -/
  | imgVerify (r : Requester) (bank : Bool)
  /-- UC_LOAD (R331): SYS_UC_CMD.LOAD verifies a microcode package and writes it into the non-live store. -/
  | ucLoad (r : Requester)
  /-- RESTORE_FACTORY (R332): SYS_CAL_CMD.RESTORE_FACTORY stages the fused calibration values and OVERLAY_EN = 0. -/
  | restoreFactory (r : Requester)
  /-- SYS_MAILBOX (R336): A write of SYS_MBOX_TO_APP raises event 59. -/
  | sysMailbox (r : Requester) (value : Word)
  /-- MBOX_TO_SEC_WRITE (R336): A write of SYS_MBOX_TO_SEC interrupts the security core. -/
  | mboxToSecWrite (r : Requester) (value : Word)
  /-- APP_RUN_WRITE (R323): A write of SYS_APP_RUN releases application cores from reset. -/
  | appRunWrite (r : Requester) (value : Word)
  /-- NVS_COMPLETION (R335): An NVMe completion arrives, or an error status raises event 53 and stops NVS. -/
  | nvsCompletion (status : Nat)
  /-- PCI_LINK (R335): PCI LINK_UP changes and event 54 is raised. -/
  | pciLink (up : Bool) (rate : Fin 4) (width : Fin 4) (gb : Nat)
  /-- DSP_RAIL_FAULT (R347): A rail leaves its setpoint for 50 µs, event 49 is raised and the panel goes to FAULT. -/
  | dspRailFault (rail : Fin 4)
  /-- RESTART (R347): DSP_CMD.RESTART in FAULT switches the panel on again. -/
  | dspRestart (r : Requester)
  /-- SAMPLE_PRELOAD (R368): JTAG instruction SAMPLE/PRELOAD samples and preloads the boundary register. -/
  | jtagSamplePreload (lands : BitVec 58) (data : BitVec 174)
  /-- EXTEST (R368): JTAG instruction EXTEST drives the lands from the boundary register and holds the logic. -/
  | jtagExtest (data : Option (BitVec 174))
  /-- TEST_HOLD_EXIT (R368): Leaving EXTEST, CLAMP or HIGHZ releases the hold and causes a FULL reset of cause JTAG. -/
  | testHoldExit (code : Fin 32)
  /-- PCS_SYNC_ACQUIRE (R222): A trunk port that was down regains PCS synchronisation, which together with HELLO starts its unwrap hold and brings PORT_UP back. -/
  | pcsSyncAcquire (port : Fin 2)
  /-- THERMAL_RESET (R320): The junction rises above 125 °C and a FULL reset follows with cause bits THERMAL and BOR. -/
  | thermalReset (temp : Int)
  /-- CMP_OUT_PULSE_END (R240): The 1 µs pulse on a CMP_OUT land ends and the land returns to its inactive level. -/
  | cmpOutPulseEnd (ch : Fin 16)
  /-- CHECK_DONE (R36): The check ends within 200 µs, stores its result and raises event 5, entering CHECKED or STAGING. -/
  | checkDone
  /-- CLAIM_TIMEOUT (R33): CMT_CLAIM_TIMEOUT passes without access from the owner and the set is discarded with event 7. -/
  | claimTimeout
  /-- DRAIN_START (R37): At target minus the quiesce bound the named pages start to drain and the keystone enters QUIESCING. -/
  | drainStart
  /-- DRAIN_DONE (R44): All named pages report drained and the keystone returns to ARMED to wait for the fire tick. -/
  | drainDone
  /-- QUIESCE_TIMEOUT (R37): The drain is not done within the bound or by the target and the keystone aborts with QUIESCE_TIMEOUT. -/
  | quiesceTimeout
  /-- RECHECK (R38): 1 µs before the fire tick, steps 7 to 9 are evaluated again and a failure aborts with RECHECK. -/
  | recheck
  /-- KEYSTONE_FIRE (R40): At the fire tick the fire strobe makes each block copy its dirty shadows to live. -/
  | keystoneFire
  /-- REG_CMD_DONE (R57): A registry command completes within 50 µs, clears BUSY and stores its result. -/
  | regCmdDone
  /-- BATCH_HOLD_EXPIRE (R68): The first record of an open batch has waited HOLD_MS and the batch closes and is sent. -/
  | batchHoldExpire
  /-- BATCH_RECEIVE (R69): The head-end receives a batch and accepts, counts as duplicate, gap or busy, or discards it on tag failure. -/
  | batchReceive
  /-- BATCH_ACK_SEND (R293): Once journalled and mirror-acknowledged, the head-end sends the cumulative batch acknowledgement. -/
  | batchAckSend
  /-- BATCH_ACK_RECEIVE (R224): A field module opens a batch acknowledgement, frees acknowledged journal records and ends an island. -/
  | batchAckReceive
  /-- ACK_TIMEOUT (R69): ING_ACK_TIMEOUT passes without acknowledgement and the field module resends from the first unacknowledged batch. -/
  | ackTimeout
  /-- ISLAND_TIMEOUT (R70): ING_ISLAND_TIMEOUT passes with batches outstanding and the module becomes islanded. -/
  | islandTimeout
  /-- REPLAY_SEND (R70): A replaying module sends journal backlog batches with REPLAY = 1 at up to ING_REPLAY_RATE. -/
  | replaySend
  /-- EPOCH_BOUNDARY (R75): The time base reaches a boundary, raises event 28 and sets EPC_EPOCH_NO. -/
  | epochBoundary
  /-- SEAL_INSTANT (R81): The seal instant of an epoch is reached and EPC requests leave for the sealing class. -/
  | sealInstant
  /-- SEAL_LEAVE_GRANTED (R81): Leave is granted and EPC applies pending late changes as amendments before FINALISE. -/
  | sealLeaveGranted
  /-- SEAL_FINALISE (R81): Every endpoint has a value, pending values are computed at seal and DELTA is formed. -/
  | sealFinalise
  /-- BAL_EPOCH_REPORT (R81): BAL reports its epoch balance and EPC takes the zone entries into HASH. -/
  | balEpochReport
  /-- SEAL_HASH_DONE (R81): The Merkle tree is complete and the header is built. -/
  | sealHashDone
  /-- SEAL_SIGNED (R81): KEY returns the signature and the ashlar is written to the set and archive. -/
  | sealSigned
  /-- SEAL_EXPORT (R81): A free export slot receives the descriptor and event 29 is raised. -/
  | sealExport
  /-- FENCE_EXPIRE (R90): EPC_FENCE_MAX expires, the hold ends and FENCE_EXPIRED is set. -/
  | fenceExpire
  /-- TRF_TBL_VALIDATE_DONE (R97): The scheme table check ends, stores its result and on success TRF_TBL_OK. -/
  | trfTblValidateDone
  /-- TRF_SWITCH (R109): A tick ends a tariff period of a scheme in use, raising event 31 and setting the switch map. -/
  | trfSwitch
  /-- TRF_DEMAND_END (R102): A tick that is a demand evaluation point raises event 33. -/
  | trfDemandEnd
  /-- OBJ_GET (R119): A GET request is decided and served from the LIVE or SEALED view with a response. -/
  | objGet
  /-- OBJ_SET (R119): A SET request is decided, served and audited. -/
  | objSet
  /-- OBJ_SUSPEND (R114): ACTION method SUSPEND of an ENDPOINT object issues the registry SUSPEND. -/
  | objSuspend
  /-- OBJ_RESUME (R114): ACTION method RESUME of an ENDPOINT object issues the registry RESUME. -/
  | objResume
  /-- OBJ_RESEQ (R114): ACTION method RESEQ of an ENDPOINT object issues the registry RESEQ. -/
  | objReseq
  /-- ACK_SUSPECT (R141): ACTION method ACK_SUSPECT of a ZONE object acknowledges the named CUSUM sides. -/
  | ackSuspect
  /-- OBJ_TBL_VALIDATE_DONE (R118): The rights table check ends and stores its result and OBJ_TBL_OK. -/
  | objTblValidateDone
  /-- BAL_SAMPLE (R130): BAL takes an inventory sample from the sample ring and retains or drops it. -/
  | balSample
  /-- BAL_FAST_PASS (R136): At a fast instant plus BAL_FAST_LAG, BAL balances every fast-enabled zone or skips a late pass. -/
  | balFastPass
  /-- BAL_TBL_VALIDATE_DONE (R129): The table block check ends and stores its result, BAL_TBL_OK and BAL_TBL_OK_CAP. -/
  | balTblValidateDone
  /-- MAP_REWRITE_DONE (R129): BAL finishes rewriting the membership words after a table fire and clears MAP_BUSY. -/
  | mapRewriteDone
  /-- SWEEP_DONE (R172): The sweeper has accounted for a fenced lane's last cell, records it and raises event 25. -/
  | sweepDone
  /-- SYNTH_UNLOCK (R181): The radio synthesiser loses lock and is counted. -/
  | synthUnlock
  /-- ACK_TX (R185): An ACK goes out 1,000 µs after the end of a frame that requested it. -/
  | ackTx
  /-- INDIRECT_TX (R186): A pending indirect frame is sent 1 ms after the ACK to a polling meter. -/
  | indirectTx
  /-- INDIRECT_EXPIRE (R186): An indirect frame older than IND_TTL is dropped. -/
  | indirectExpire
  /-- PLC_BEACON_TX (R205): At a nominal beacon instant, or the next zero-crossing edge, PLC sends its beacon or counts a miss with event 16. -/
  | plcBeaconTx
  /-- PLC_ACK_TX (R206): A PLC ACK goes out 2,000 µs after the acknowledged frame. -/
  | plcAckTx
  /-- ZC_EDGE (R208): A zero-crossing capture edge is accepted, counted as glitch, or advances acquisition. -/
  | zcEdge
  /-- PLC_ZC_LOSS (R208): No edge is accepted for LOSS_MS, ZC_OK clears and event 18 is raised. -/
  | plcZcLoss
  /-- TOKEN_TIMEOUT (R220): The master's token timer reaches TRK_TOKEN_TO, raising event 20 and sending a CLAIM. -/
  | tokenTimeout
  /-- CLAIM_RETURN_TIMEOUT (R220): The master's CLAIM is not back within TRK_TOKEN_TO and a new CLAIM is sent. -/
  | claimReturnTimeout
  /-- BECOME_MASTER (R220): A station becomes master by enable, keystone or takeover and sends a CLAIM at once. -/
  | becomeMaster
  /-- JOIN_RETRY (R221): 10 s after a refusal a station may ask again to join. -/
  | joinRetry
  /-- MGMT_REQUEST (R228): A management request is authenticated, sequence-checked, executed as EXT accesses and replied to. -/
  | mgmtRequest
  /-- TIM_WRAP (R238): A tick carries into TIM_WRAP and raises event 8. -/
  | timWrap
  /-- PPS_PULSE_END (R242): The PPS_OUT pulse ends after WIDTH ms. -/
  | ppsPulseEnd
  /-- TIM_MASTER_LOSS (R250): No sample or manual write for TIM_MASTER_TO starts holdover and raises event 10. -/
  | timMasterLoss
  /-- HOLD_MAX_EXCEEDED (R251): TIM_UNC exceeds TIM_HOLD_MAX in HOLDOVER and the class becomes RTC_ONLY. -/
  | holdMaxExceeded
  /-- KEY_CACHE_MISS (R264): A frame's key is not cached and its blob is unwrapped into the cache or fails. -/
  | keyCacheMiss
  /-- RNG_HEALTH_FAIL (R270): The random generator's health test fails and operations needing random data stop. -/
  | rngHealthFail
  /-- L0_DONE (R272): The boot ROM stores the level-0 response within 50 µs. -/
  | l0Done
  /-- SPAN_END (R279): A histogram span ends, its record is written and the next span opens. -/
  | spanEnd
  /-- CONDITION (R280): A recorded event raising repeats the open condition record or closes it and opens a new one. -/
  | recCondition
  /-- COND_HOLD_EXPIRE (R280): REC_HOLD passes since the open record's first occurrence and it closes. -/
  | condHoldExpire
  /-- REC_NOR_WRITE (R281): With recorder leave, buffered records are programmed to NOR, erasing a victim sector when needed. -/
  | recNorWrite
  /-- HB_TX (R287): A paired module sends a heartbeat on each path every PERIOD while kicked. -/
  | hbTx
  /-- KICK_TIMEOUT (R289): RED_KICK_TO expires, heartbeats stop and ACTIVE_N is released. -/
  | kickTimeout
  /-- RED_TAKEOVER (R295): The claim watch ends unchallenged, the module becomes ACTIVE, raises event 45 and releases its blocks. -/
  | redTakeover
  /-- RED_PAIR_RESYNC_DONE (R289): Resynchronisation completes, ARM_VALID is set, event 47 is raised and the joiner is STANDBY. -/
  | redPairResyncDone
  /-- FENCE_FAULT (R291): ACTIVE_N reads high while driven low and event 46 is raised with cause 6. -/
  | fenceFault
  /-- FLUSH_DONE (R307): The flush ends, FLUSH_DONE is latched in the plinth and the device holds. -/
  | flushDone
  /-- BROWNOUT (R309): VIN below VBOR for 2 µs or a rail out of regulation causes a brownout reset. -/
  | brownout
  /-- PWR_LEAVE_OVERRUN (R313): A QUEUED grant outlives MAX_US, is throttled and raises event 2. -/
  | pwrLeaveOverrun
  /-- CLK_ROOT_LOSS (R318): The root is lost, clocks move to the fallback, time stops, class goes INVALID and event 4 is raised. -/
  | clkRootLoss
  /-- ROOT_RETURN (R318): The root stays valid for 1 ms and the clocks and blocks resume. -/
  | rootReturn
  /-- CLK_LOSS_TIMEOUT (R318): The root is not back within CLK_LOSS_TO and a FULL reset of cause CLOCK follows. -/
  | clkLossTimeout
  /-- DRAM_PLL_UNLOCK (R318): The DRAM PLL loses lock, DRAM enters self-refresh until relock. -/
  | dramPllUnlock
  /-- PIN_RESET (R320): RST_N low for 1 µs causes a FULL reset. -/
  | pinReset
  /-- BOOT_RETRY (R323): With no acceptable bank the boot ROM waits 60 s and boots again. -/
  | bootRetry
  /-- MEM_INIT_DONE (R334): DRAM initialisation to zero ends and scrubbing starts. -/
  | memInitDone
  /-- WDT_WARN (R333): WARN_MS passes without a kick and event 56 is raised. -/
  | wdtWarn
  /-- WDT_BITE (R333): BITE_MS passes after the warning and a reset of SCOPE follows. -/
  | wdtBite
  /-- TAMPER (R328): TAMPER_N low for 10 samples sets the tamper latch, stores the time, optionally zeroises and raises event 57. -/
  | tamperEdge
  /-- LC_FUSE_RESET (R327): After the fuse group is programmed a FULL reset of cause LIFECYCLE follows 1 ms later. -/
  | lcFuseReset
  /-- NOR_OP_DONE (R329): A NOR erase or program completes and stores its result. -/
  | norOpDone
  /-- IMG_VERIFY_DONE (R330): The image check ends and reports in SYS_IMG_STAT. -/
  | imgVerifyDone
  /-- NVS_TIMEOUT (R335): No completion within NVS_TMO raises event 53 and stops NVS. -/
  | nvsTimeout
  /-- PERST_RELEASE (R363): 100 ms after PCI is enabled with LINK_EN, PCIE_PERST_N goes high. -/
  | perstRelease
  /-- DSP_FRAME_START (R343): A panel frame starts and the selected buffer is copied to the frame store. -/
  | dspFrameStart
  /-- DSP_FRAME_DONE (R343): A panel frame ends, event 48 is raised and DSP_FRAME_NO increments. -/
  | dspFrameDone
  /-- PANEL_RAIL_UP (R344): A panel rail reaches regulation and the switch-on sequence advances to the first frame. -/
  | panelRailUp
  /-- PANEL_OFF (R345): A switch-off trigger runs the discharge and rail-off sequence. -/
  | panelOff
  /-- IDCODE (R368): JTAG instruction IDCODE selects the identification register. -/
  | jtagIdcode
  /-- CLAMP (R368): JTAG instruction CLAMP holds outputs from the boundary register with bypass selected. -/
  | jtagClamp
  /-- HIGHZ (R368): JTAG instruction HIGHZ sets the outputs to high impedance. -/
  | jtagHighz
  /-- JTAG_RESET (R368): JTAG instruction RESET causes a reset of cause JTAG. -/
  | jtagReset
  /-- DTMCS (R368): JTAG instruction DTMCS selects the RISC-V debug transport control register. -/
  | jtagDtmcs
  /-- DMI (R368): JTAG instruction DMI selects the RISC-V debug module interface. -/
  | jtagDmi
  /-- BYPASS (R368): JTAG instruction BYPASS, or a disallowed code, selects the bypass register. -/
  | jtagBypass
  /-- TAP_RESET (R368): TRST_N low or five TCK cycles with TMS high reset the TAP to IDCODE. -/
  | jtagTapReset
  /-- RNG_HEALTH_PASS (R270): The random generator's health test passes again, RNG_FAULT clears and a signature waiting in WAIT_SIGN can proceed. -/
  | rngHealthPass
  /-- DRAM_PLL_RELOCK (R318): The DRAM PLL relocks within 200 µs and the DRAM leaves self-refresh with held accesses released. -/
  | dramPllRelock
  /-- OFF_SEQUENCE_DONE (R345): The panel off sequence ends within 20 ms with every output clamped, PANEL_RST low and the state leaving RAMP_DOWN for OFF or FAULT. -/
  | offSequenceDone
  /-- UC_LOAD_DONE (R331): Microcode package verification and store write end, clearing SYS_UC_STAT.BUSY and storing the result. -/
  | ucLoadDone
  /-- LC_AUTH_DONE (R326): Verification of a life-cycle authorisation ends within 2 ms, clearing BUSY and setting AUTH_OK with its target on success. -/
  | lcAuthDone
  deriving DecidableEq, Repr

end Sys2Proof
end

