-- ==== Sys2Proof/Decode.lean ====
section
/-!
DEFINITION. The commands by the words of the table of operations.
-/
namespace Sys2Proof

/-- The command that a word of the table spells. No row of the table gives bits, so no word spells one. -/
def decodeTableWord (_nbits _w : Nat) : Option Instr := none

end Sys2Proof
end

