-- ==== Sys2Proof/Config.lean ====
section
/-!
DEFINITION. What an implementation fixes and the manual does not give, as constants without a body, and the few numbers of
the part that no register holds. No proof can see a value of an opaque constant.
-/
namespace Sys2Proof.Config

/-- FREE VALUE. The n-th fresh 32-bit value: random words, undefined land levels, values the manual leaves open. -/
opaque freeWord : Nat → BitVec 32

/-- The fused calibration page (R332): the word it holds for the register at an address (a dash in a Reset column). -/
opaque calWord : Nat → BitVec 32

/-- The contents of the boot ROM (R15), which the manual does not give. -/
opaque bootRomByte : Nat → BitVec 8

/-- Whether SYS grants page p to APP (R26). The manual names no register for that grant. -/
opaque appGrant : Nat → Bool

/-- The key the boot ROM derives from the fused root secret for slot 0 under a custody class, and for slot 3 (R256). The
manual gives neither the secret nor the label. -/
opaque rootKek : Nat → BitVec 256
opaque derivationRoot : BitVec 256

/-- The private scalar of the device identity key, generated once in FACTORY (R256). -/
opaque identityKey : BitVec 256

/-- The attestation secret (R256). -/
opaque attestSecret : BitVec 128

/-- The vendor's signature in the manufacturing record (R272). -/
opaque vendorSig : BitVec 512

/-- The Folhel factory key held in the boot ROM, X then Y (R322). -/
opaque factoryKey : BitVec 512

/-- The property functions of R65, of which the manual gives sources and deviations but no numbers. Pressures in µPa,
temperatures in 10^-6 mK; densities in 10^-12 kg/m³, enthalpies in 10^-12 kJ/kg, Z in 10^-12. IAPWS-IF97 saturation
pressure and temperature; density and enthalpy of superheated steam (region 2) and of dry saturated vapour (region 4); enthalpy
of water (region 1). -/
opaque pSat : Nat → Nat
opaque tSat : Nat → Nat
opaque steamRho : Nat → Nat → Nat
opaque steamH : Nat → Nat → Int
opaque vapourRho : Nat → Nat
opaque vapourH : Nat → Int
opaque waterH : Nat → Nat → Int

/-- The air Z table and the water ρ_w points (R65), under the user overlay in use; an empty overlay is the fused table
(R332). The manual gives neither the tables nor the overlay's identifiers. -/
opaque airZ : List (BitVec 8) → Nat → Nat → Nat
opaque waterPoint : List (BitVec 8) → Nat → Nat

/-- The user overlay's CRC and entries, by its bytes (R332): whether they pass, and the value for the register at an address. The
manual gives neither the header's fields nor the identifiers. -/
opaque overlayPasses : List (BitVec 8) → Bool
opaque overlayWord : List (BitVec 8) → Nat → BitVec 32

/-- FREE VALUE. The uncertainty of an EXACT boundary value whose reading has no known rate, by its time uncertainty: R78
names u_time(a.rate, a.tunc) and no value where a.rate is not known. -/
opaque exactUnc : Nat → BitVec 32

/-- Blocks of the drive that a journal or archive write of n bytes takes (R335). The manual gives no layout of the two ranges
and no block size. -/
opaque nvsBlocks : Nat → BitVec 16

/-- Bytes of DRAM (R15). -/
abbrev dramBase : Nat := 0x80000000
abbrev dramSize : Nat := 0x800000000

end Sys2Proof.Config
end

