-- ==== Sys2Proof/Machine/Bits.lean ====
section
/-!
DEFINITION. Bit-field, sign, byte-order and saturation helpers over numbers (R4: little-endian, two's complement).
-/
namespace Sys2Proof.Machine

/-- Bits [hi:lo] of a number. -/
def bitsOf (n hi lo : Nat) : Nat := (n >>> lo) % 2 ^ (hi + 1 - lo)

/-- Bit i of a number as 0 or 1. -/
def bitNat (n i : Nat) : Nat := (n >>> i) % 2

/-- A truth value as 0 or 1. -/
def b2n (b : Bool) : Nat := if b then 1 else 0

/-- A number with bits [hi:lo] replaced by v. -/
def setFld (n hi lo v : Nat) : Nat :=
  n - (bitsOf n hi lo) <<< lo + (v % 2 ^ (hi + 1 - lo)) <<< lo

/-- A number with bit i set or cleared. -/
def setBit (n i : Nat) (b : Bool) : Nat := setFld n i i (b2n b)

/-- A w-bit number read as two's complement (R4). -/
def sext (w n : Nat) : Int :=
  let m := n % 2 ^ w
  if m < 2 ^ (w - 1) then (m : Int) else (m : Int) - (2 ^ w : Nat)

/-- The two's complement encoding of an integer in w bits. -/
def enc (w : Nat) (i : Int) : Nat := (i % ((2 ^ w : Nat) : Int)).toNat

/-- An integer held to lo..hi. -/
def clampInt (i lo hi : Int) : Int := if i < lo then lo else if hi < i then hi else i

/-- A number held to an upper bound. -/
def satNat (n top : Nat) : Nat := if top < n then top else n

/-- The largest 32-bit number. -/
abbrev m32 : Nat := 0xFFFFFFFF

/-- Nearest integer to num / den, ties away from zero (round_away of R64 and R78); den is positive. -/
def roundAway (num : Int) (den : Nat) : Int :=
  if den = 0 then 0
  else if num < 0 then -(((2 * num.natAbs + den) / (2 * den) : Nat) : Int)
  else (((2 * num.natAbs + den) / (2 * den) : Nat) : Int)

/-- num / den rounded up; den is positive. -/
def ceilDiv (num den : Nat) : Nat := if den = 0 then 0 else (num + (den - 1)) / den

/-- The integer square root by fuel steps of bisection. -/
def isqrtAux : Nat → Nat → Nat → Nat → Nat
  | 0, lo, _, _ => lo
  | fuel + 1, lo, hi, n =>
    let mid := (lo + hi + 1) / 2
    if mid * mid ≤ n then isqrtAux fuel mid hi n else isqrtAux fuel lo (mid - 1) n

/-- The integer square root, rounded down. -/
def isqrt (n : Nat) : Nat := isqrtAux (n.log2 + 2) 0 (2 ^ (n.log2 / 2 + 1)) n

/-- The integer square root, rounded up. -/
def isqrtUp (n : Nat) : Nat := let r := isqrt n; if r * r = n then r else r + 1

/-- A little-endian byte string as a number (R4). -/
def leNat : Bytes → Nat
  | [] => 0
  | b :: t => b.toNat + 256 * leNat t

/-- A number as n little-endian bytes (R4). -/
def leBytes : Nat → Nat → Bytes
  | 0, _ => []
  | n + 1, v => BitVec.ofNat 8 v :: leBytes n (v / 256)

/-- A big-endian byte string as a number. -/
def beNat (bs : Bytes) : Nat := leNat bs.reverse

/-- A number as n big-endian bytes. -/
def beBytes (n v : Nat) : Bytes := (leBytes n v).reverse

/-- n zero bytes. -/
def zeroBytes (n : Nat) : Bytes := List.replicate n 0#8

/-- Bytes from offset o, n of them, short where the string ends. -/
def slice (bs : Bytes) (o n : Nat) : Bytes := (bs.drop o).take n

/-- The little-endian number of n bytes at offset o. -/
def leAt (bs : Bytes) (o n : Nat) : Nat := leNat (slice bs o n)

/-- The big-endian number of n bytes at offset o. -/
def beAt (bs : Bytes) (o n : Nat) : Nat := beNat (slice bs o n)

/-- Byte strings combined by exclusive or, as long as the shorter. -/
def xorBytes (a b : Bytes) : Bytes := List.zipWith (fun x y => x ^^^ y) a b

/-- A byte string brought to n bytes: cut, or padded with zero bytes. -/
def padTo (n : Nat) (bs : Bytes) : Bytes := bs.take n ++ zeroBytes (n - bs.length)

/-- The ASCII bytes of a string. -/
def ascii (s : String) : Bytes := s.toList.map fun c => BitVec.ofNat 8 c.toNat

end Sys2Proof.Machine
end

