-- ==== Sys2Proof/Machine/RegTable.lean ====
section
/-!
DEFINITION. The register tables of the manual as data: for every register its offset, how often it repeats, its class,
its reset value, its implemented bits, the marks its chapter gives it and the range of each field (step 2 of the check).
-/
namespace Sys2Proof.Machine

/-- The register classes of R5. -/
inductive RegClass where
  | l | s | r | c | w1c
  deriving DecidableEq, Repr

/-- The marks a chapter can give a register: quiesce-required (while busy, or under its own condition), boundary-class
(R41), epoch-boundary (R76), SEC-only, writable by SEC only (R338), for SYS and SEC only, written by SYS only, kept in the
plinth (R8), ring 0 SEC-only (R267), and the two halves of a 64-bit pair (R7). -/
inductive RegMark where
  | quiesce | quiesceCond | boundary | epochBound | secOnly | secWrite | sysSec | sysWrite | plinth | ring0Sec | lo | hi
  deriving DecidableEq, Repr

/-- Where a register's reset value comes from: a number of its table; the fused calibration page; the class table of R311;
the KIND of an input ring (R73); the grey table of R349; or a dash (it follows the hardware). -/
inductive ResetVal where
  | const (n : Nat) | cal | clsCfg | clsMax | ingCfg | grey | hw
  deriving DecidableEq, Repr

/-- The documented range of one field, ends included; zeroOk: 0 is allowed beside it. -/
structure FieldRange where
  hi : Nat
  lo : Nat
  min : Int
  max : Int
  signed : Bool := false
  zeroOk : Bool := false
  deriving DecidableEq, Repr

/-- One row of a register table. -/
structure RegDesc where
  off : Nat
  count : Nat
  stride : Nat
  cls : RegClass
  reset : ResetVal
  mask : Nat
  marks : List RegMark := []
  ranges : List FieldRange := []
  align : Nat := 1
  deriving DecidableEq, Repr

/-- Page SYS. -/
def regsSys0 : List RegDesc := [
  ⟨0x100, 1, 0x4, .s, .const 0x0, 0x3, [], [{ hi := 1, lo := 0, min := 0, max := 2 }], 1⟩,  -- SYS_ROLE
  ⟨0x104, 1, 0x4, .s, .const 0x0, 0x1, [], [], 1⟩,  -- SYS_CAL
  ⟨0x108, 1, 0x4, .s, .const 0x800A03E8, 0x83FFFFFF, [], [{ hi := 15, lo := 0, min := 10, max := 65535 }, { hi := 23, lo := 16, min := 1, max := 255 }, { hi := 25, lo := 24, min := 0, max := 2 }], 1⟩,  -- SYS_WDT_CFG
  ⟨0x10C, 1, 0x4, .s, .const 0x0, 0xFF, [], [], 1⟩,  -- SYS_UC_SEL
  ⟨0x110, 1, 0x4, .l, .hw, 0xFFFFFFFF, [.secOnly], [], 1⟩,  -- SYS_APP_VECTOR
  ⟨0x180, 1, 0x4, .l, .const 0x0, 0x0, [.sysSec], [], 1⟩,  -- SYS_RST_CMD
  ⟨0x184, 1, 0x4, .l, .const 0x0, 0x0, [], [], 1⟩,  -- SYS_WDT_KICK
  ⟨0x188, 1, 0x4, .r, .const 0x0, 0x1FFFF, [], [], 1⟩,  -- SYS_WDT_STAT
  ⟨0x18C, 1, 0x4, .l, .const 0x0, 0xF, [.secOnly], [], 1⟩,  -- SYS_APP_RUN
  ⟨0x190, 1, 0x4, .r, .hw, 0xFF3F03, [], [], 1⟩,  -- SYS_BOOT_STAT
  ⟨0x194, 1, 0x4, .r, .hw, 0xFFFFFFFF, [], [], 1⟩,  -- SYS_BOOT_VER
  ⟨0x198, 1, 0x4, .l, .const 0x0, 0xFFFFFFFF, [.secOnly], [], 1⟩,  -- SYS_MBOX_TO_APP
  ⟨0x19C, 1, 0x4, .l, .const 0x0, 0xFFFFFFFF, [], [], 1⟩,  -- SYS_MBOX_TO_SEC
  ⟨0x1A0, 1, 0x4, .l, .const 0x0, 0xFFFFFFFF, [], [], 1⟩,  -- SYS_NOR_ADDR
  ⟨0x1A4, 1, 0x4, .l, .const 0x0, 0xFFFFFFFF, [.lo], [], 1⟩,  -- SYS_NOR_SRC_LO
  ⟨0x1A8, 1, 0x4, .l, .const 0x0, 0xFFFFFFFF, [.hi], [], 1⟩,  -- SYS_NOR_SRC_HI
  ⟨0x1AC, 1, 0x4, .l, .const 0x0, 0x0, [], [], 1⟩,  -- SYS_NOR_CMD
  ⟨0x1B0, 1, 0x4, .r, .const 0x0, 0xF, [], [], 1⟩,  -- SYS_NOR_STAT
  ⟨0x1B4, 1, 0x4, .l, .const 0x0, 0x0, [], [], 1⟩,  -- SYS_IMG_CMD
  ⟨0x1B8, 1, 0x4, .r, .const 0x0, 0x3F0F, [], [], 1⟩,  -- SYS_IMG_STAT
  ⟨0x1C0, 1, 0x4, .l, .const 0x0, 0xFFFFFFFF, [.lo], [], 1⟩,  -- SYS_UC_ADDR_LO
  ⟨0x1C4, 1, 0x4, .l, .const 0x0, 0xFFFFFFFF, [.hi], [], 1⟩,  -- SYS_UC_ADDR_HI
  ⟨0x1C8, 1, 0x4, .l, .const 0x0, 0x0, [], [], 1⟩,  -- SYS_UC_CMD
  ⟨0x1CC, 1, 0x4, .r, .const 0x0, 0xFF0F, [], [], 1⟩]  -- SYS_UC_STAT

/-- Page SYS. -/
def regsSys1 : List RegDesc := [
  ⟨0x1D0, 1, 0x4, .l, .const 0x0, 0x0, [], [], 1⟩,  -- SYS_CAL_CMD
  ⟨0x200, 8, 0x8, .r, .hw, 0xFFFFFFFF, [], [], 1⟩,  -- SYS_UC_VER0
  ⟨0x204, 8, 0x8, .r, .hw, 0xFFFFFFFF, [], [], 1⟩,  -- SYS_UC_VER1
  ⟨0x300, 1, 0x4, .c, .const 0x0, 0xFFFFFFFF, [], [], 1⟩,  -- SYS_WDT_WARN_COUNT
  ⟨0x304, 1, 0x4, .c, .const 0x0, 0xFFFFFFFF, [], [], 1⟩]  -- SYS_NOR_FAIL_COUNT

/-- Page SYS. -/
def regsSys : List RegDesc := regsSys0 ++ regsSys1

/-- Page CMT. -/
def regsCmt : List RegDesc := [
  ⟨0x100, 1, 0x4, .l, .const 0x0, 0x0, [], [], 1⟩,  -- CMT_CTRL
  ⟨0x104, 1, 0x4, .l, .const 0x0, 0x6, [], [], 1⟩,  -- CMT_ARM
  ⟨0x108, 1, 0x4, .r, .const 0x0, 0xFFFF, [], [], 1⟩,  -- CMT_STAT
  ⟨0x10C, 1, 0x4, .r, .const 0x0, 0x1FF, [], [], 1⟩,  -- CMT_CHECK_RESULT
  ⟨0x110, 1, 0x4, .r, .const 0x0, 0xFFFFFFFF, [], [], 1⟩,  -- CMT_CHECK_ADDR
  ⟨0x114, 1, 0x4, .r, .const 0x0, 0xFFFF, [], [], 1⟩,  -- CMT_CHECK_ITEM
  ⟨0x118, 1, 0x4, .r, .const 0x0, 0xFFFFFFFF, [], [], 1⟩,  -- CMT_QUIESCE_NEED
  ⟨0x11C, 1, 0x4, .r, .const 0x0, 0xFFFFFFFF, [], [], 1⟩,  -- CMT_DIRTY
  ⟨0x120, 1, 0x4, .r, .const 0x0, 0x3, [], [], 1⟩,  -- CMT_DIRTY_ARR
  ⟨0x124, 1, 0x4, .l, .const 0x0, 0xFFFFFFFF, [], [], 1⟩,  -- CMT_FIRE_NS
  ⟨0x128, 1, 0x4, .l, .const 0x0, 0xFFFFFFFF, [], [], 1⟩,  -- CMT_FIRE_WRAP
  ⟨0x12C, 1, 0x4, .l, .const 0x186A0, 0xFFFFFFFF, [], [], 1⟩,  -- CMT_QUIESCE_BOUND
  ⟨0x130, 1, 0x4, .l, .const 0xEA60, 0xFFFFFFFF, [], [], 1⟩,  -- CMT_CLAIM_TIMEOUT
  ⟨0x134, 1, 0x4, .r, .const 0x0, 0x7FFFFFF, [], [], 1⟩,  -- CMT_GEN
  ⟨0x138, 1, 0x4, .r, .const 0x0, 0xFFFFFFFF, [], [], 1⟩,  -- CMT_LAST_FIRE_NS
  ⟨0x13C, 1, 0x4, .r, .const 0x0, 0xFFFFFFFF, [], [], 1⟩,  -- CMT_LAST_FIRE_WRAP
  ⟨0x140, 1, 0x4, .r, .const 0x0, 0xFFFFFFFF, [], [], 1⟩,  -- CMT_APPLY_LAT
  ⟨0x144, 1, 0x4, .c, .const 0x0, 0xFFFFFFFF, [], [], 1⟩,  -- CMT_FIRE_COUNT
  ⟨0x148, 1, 0x4, .c, .const 0x0, 0xFFFFFFFF, [], [], 1⟩]  -- CMT_ABORT_COUNT

/-- Page PWR. -/
def regsPwr0 : List RegDesc := [
  ⟨0x100, 1, 0x4, .s, .const 0xA010000, 0xFF03FFFF, [], [{ hi := 17, lo := 16, min := 0, max := 2 }, { hi := 31, lo := 24, min := 1, max := 255 }], 1⟩,  -- PWR_CEIL
  ⟨0x104, 1, 0x4, .s, .const 0x51464, 0xFF7FFF, [], [{ hi := 9, lo := 0, min := 95, max := 580 }, { hi := 14, lo := 10, min := 2, max := 31 }, { hi := 23, lo := 16, min := 1, max := 255 }], 1⟩,  -- PWR_PFW
  ⟨0x108, 1, 0x4, .s, .const 0x196E, 0xFFFF, [], [{ hi := 7, lo := 0, min := 60, max := 120 }, { hi := 15, lo := 8, min := 0, max := 75 }], 1⟩,  -- PWR_THERM
  ⟨0x180, 1, 0x4, .r, .hw, 0xFFFFFFFF, [], [], 1⟩,  -- PWR_STAT
  ⟨0x184, 1, 0x4, .r, .hw, 0xFFFF, [], [], 1⟩,  -- PWR_STATIC_SUM
  ⟨0x188, 1, 0x4, .r, .hw, 0xFFFF, [], [], 1⟩,  -- PWR_CEIL_EFF
  ⟨0x18C, 1, 0x4, .r, .hw, 0xFFFF, [], [], 1⟩,  -- PWR_VIN
  ⟨0x190, 1, 0x4, .r, .hw, 0xFFFF, [], [], 1⟩,  -- PWR_PIN
  ⟨0x194, 1, 0x4, .r, .hw, 0xFFFFFFFF, [], [], 1⟩,  -- PWR_TEMP
  ⟨0x198, 1, 0x4, .r, .hw, 0xFFFF, [], [], 1⟩,  -- PWR_VBAT
  ⟨0x19C, 1, 0x4, .r, .hw, 0x31F, [.plinth], [], 1⟩,  -- PWR_PF_STAT
  ⟨0x1A0, 1, 0x4, .w1c, .const 0x0, 0xFFFF, [], [], 1⟩,  -- PWR_DENY_MAP
  ⟨0x1A4, 1, 0x4, .w1c, .const 0x0, 0xFFFF, [], [], 1⟩,  -- PWR_OVERRUN_MAP
  ⟨0x1A8, 1, 0x4, .l, .const 0x0, 0x0, [], [], 1⟩,  -- PWR_FW_CMD
  ⟨0x1AC, 1, 0x4, .r, .const 0x0, 0xF3, [], [], 1⟩,  -- PWR_FW_STAT
  ⟨0x200, 16, 0x10, .s, .clsCfg, 0xFFFFFFF, [], [], 1⟩,  -- PWR_CLS_CFG
  ⟨0x204, 16, 0x10, .s, .clsMax, 0xFFFFFF, [], [], 1⟩,  -- PWR_CLS_MAX
  ⟨0x208, 16, 0x10, .r, .const 0x0, 0x1FFFF, [], [], 1⟩,  -- PWR_CLS_STAT
  ⟨0x20C, 16, 0x10, .c, .const 0x0, 0xFFFFFFFF, [], [], 1⟩,  -- PWR_CLS_WAIT
  ⟨0x300, 1, 0x4, .c, .const 0x0, 0xFFFFFFFF, [], [], 1⟩,  -- PWR_GRANT_COUNT
  ⟨0x304, 1, 0x4, .c, .const 0x0, 0xFFFFFFFF, [], [], 1⟩,  -- PWR_DENY_COUNT
  ⟨0x308, 1, 0x4, .c, .const 0x0, 0xFFFFFFFF, [], [], 1⟩,  -- PWR_OVERRUN_COUNT
  ⟨0x30C, 1, 0x4, .c, .const 0x0, 0xFFFFFFFF, [.plinth], [], 1⟩,  -- PWR_PFW_COUNT
  ⟨0x310, 1, 0x4, .c, .const 0x0, 0xFFFFFFFF, [], [], 1⟩]  -- PWR_OVER_COUNT

/-- Page PWR. -/
def regsPwr1 : List RegDesc := [
  ⟨0x314, 1, 0x4, .c, .const 0x0, 0xFFFFFFFF, [], [], 1⟩]  -- PWR_THERM_COUNT

/-- Page PWR. -/
def regsPwr : List RegDesc := regsPwr0 ++ regsPwr1

/-- Page CLK. -/
def regsClk : List RegDesc := [
  ⟨0x100, 1, 0x4, .s, .const 0x0, 0x3, [], [{ hi := 1, lo := 0, min := 0, max := 2 }], 1⟩,  -- CLK_CFG
  ⟨0x104, 1, 0x4, .s, .const 0x64, 0xFFFFFFFF, [], [{ hi := 31, lo := 0, min := 1, max := 1000 }], 1⟩,  -- CLK_LOSS_TO
  ⟨0x180, 1, 0x4, .r, .hw, 0x1F, [], [], 1⟩,  -- CLK_STAT
  ⟨0x200, 1, 0x4, .c, .const 0x0, 0xFFFFFFFF, [], [], 1⟩,  -- CLK_ROOT_LOSS_COUNT
  ⟨0x204, 1, 0x4, .c, .const 0x0, 0xFFFFFFFF, [], [], 1⟩,  -- CLK_DRAM_UNLOCK
  ⟨0x208, 1, 0x4, .c, .const 0x0, 0xFFFFFFFF, [], [], 1⟩]  -- CLK_FALLBACK_US

/-- Page RST. -/
def regsRst : List RegDesc := [
  ⟨0x100, 1, 0x4, .s, .hw, 0x7, [.secWrite], [{ hi := 2, lo := 0, min := 0, max := 5 }], 1⟩,  -- RST_LC_NEXT
  ⟨0x104, 1, 0x4, .s, .const 0x0, 0x1, [.secWrite], [], 1⟩,  -- RST_TAMPER_CFG
  ⟨0x180, 1, 0x4, .w1c, .hw, 0xFFFFFFFF, [.secWrite, .plinth], [], 1⟩,  -- RST_CAUSE
  ⟨0x184, 1, 0x4, .r, .hw, 0xF, [], [], 1⟩,  -- RST_LC
  ⟨0x188, 1, 0x4, .l, .hw, 0xF, [.secWrite, .plinth], [], 1⟩,  -- RST_TRIAL
  ⟨0x18C, 1, 0x4, .r, .hw, 0x7, [.plinth], [], 1⟩,  -- RST_TAMPER
  ⟨0x190, 1, 0x4, .r, .hw, 0xFFFFFFFF, [.plinth, .lo], [], 1⟩,  -- RST_TAMPER_T_LO
  ⟨0x194, 1, 0x4, .r, .hw, 0xFFFFFFFF, [.plinth, .hi], [], 1⟩,  -- RST_TAMPER_T_HI
  ⟨0x198, 1, 0x4, .l, .const 0x0, 0x0, [.secWrite], [], 1⟩,  -- RST_TAMPER_CLR
  ⟨0x1A0, 8, 0x4, .r, .hw, 0xFFFFFFFF, [], [], 1⟩,  -- RST_LC_NONCE
  ⟨0x1C0, 1, 0x4, .l, .const 0x0, 0xFFFFFFFF, [.secWrite, .lo], [], 1⟩,  -- RST_LC_AUTH_LO
  ⟨0x1C4, 1, 0x4, .l, .const 0x0, 0xFFFFFFFF, [.secWrite, .hi], [], 1⟩,  -- RST_LC_AUTH_HI
  ⟨0x1C8, 1, 0x4, .l, .const 0x0, 0x0, [.secWrite], [], 1⟩,  -- RST_LC_AUTH_CMD
  ⟨0x1CC, 1, 0x4, .r, .const 0x0, 0x1F, [], [], 1⟩,  -- RST_LC_STAT
  ⟨0x1D0, 1, 0x4, .l, .const 0x0, 0xFFFFFFFF, [.secWrite, .lo], [], 1⟩,  -- RST_OWNER_SRC_LO
  ⟨0x1D4, 1, 0x4, .l, .const 0x0, 0xFFFFFFFF, [.secWrite, .hi], [], 1⟩,  -- RST_OWNER_SRC_HI
  ⟨0x1D8, 1, 0x4, .l, .const 0x0, 0x0, [.secWrite], [], 1⟩,  -- RST_OWNER_CMD
  ⟨0x1DC, 1, 0x4, .r, .hw, 0xFFF, [], [], 1⟩,  -- RST_OWNER_STAT
  ⟨0x1E0, 1, 0x4, .r, .hw, 0x3F, [], [], 1⟩,  -- RST_SVN
  ⟨0x1E4, 1, 0x4, .l, .const 0x0, 0x0, [.secWrite], [], 1⟩]  -- RST_SVN_CMD

/-- Page PIN. -/
def regsPin : List RegDesc := [
  ⟨0x100, 4, 0x4, .s, .const 0x0, 0xFFFFFFFF, [], [], 1⟩,  -- PIN_FUNC
  ⟨0x110, 8, 0x4, .s, .const 0x0, 0xFFFFFFFF, [], [], 1⟩,  -- PIN_ARG
  ⟨0x130, 1, 0x4, .s, .const 0x0, 0xFFFFFFFF, [], [], 1⟩,  -- PIN_PULL_LO
  ⟨0x134, 1, 0x4, .s, .const 0x0, 0xFFFFFFFF, [], [], 1⟩,  -- PIN_PULL_HI
  ⟨0x138, 1, 0x4, .l, .const 0x0, 0xFFFFFFFF, [], [], 1⟩,  -- PIN_DIR
  ⟨0x13C, 1, 0x4, .l, .const 0x0, 0xFFFFFFFF, [], [], 1⟩,  -- PIN_OUT
  ⟨0x140, 1, 0x4, .r, .hw, 0xFFFFFFFF, [], [], 1⟩,  -- PIN_IN
  ⟨0x144, 1, 0x4, .l, .const 0x0, 0xFFFFFFFF, [], [], 1⟩,  -- PIN_EDGE_RISE
  ⟨0x148, 1, 0x4, .l, .const 0x0, 0xFFFFFFFF, [], [], 1⟩,  -- PIN_EDGE_FALL
  ⟨0x14C, 1, 0x4, .w1c, .const 0x0, 0xFFFFFFFF, [], [], 1⟩]  -- PIN_EDGE_PEND

/-- Page EVT. -/
def regsEvt : List RegDesc := [
  ⟨0x100, 1, 0x4, .r, .hw, 0xFFFFFFFF, [], [], 1⟩,  -- EVT_RAW0
  ⟨0x104, 1, 0x4, .r, .hw, 0xFFFFFFFF, [], [], 1⟩,  -- EVT_RAW1
  ⟨0x108, 1, 0x4, .l, .const 0x0, 0xFFFFFFFF, [], [], 1⟩,  -- EVT_EN0
  ⟨0x10C, 1, 0x4, .l, .const 0x0, 0xFFFFFFFF, [], [], 1⟩,  -- EVT_EN1
  ⟨0x110, 1, 0x4, .w1c, .const 0x0, 0xFFFFFFFF, [], [], 1⟩,  -- EVT_PEND0
  ⟨0x114, 1, 0x4, .w1c, .const 0x0, 0xFFFFFFFF, [], [], 1⟩,  -- EVT_PEND1
  ⟨0x118, 8, 0x4, .l, .const 0x0, 0xFFFFFFFF, [], [], 1⟩,  -- EVT_ROUTE
  ⟨0x138, 1, 0x4, .l, .const 0x0, 0x0, [], [], 1⟩]  -- EVT_SOFT

/-- Page QRY. -/
def regsQry : List RegDesc := [
  ⟨0x100, 1, 0x4, .s, .const 0x1, 0x1, [], [], 1⟩,  -- QRY_CFG
  ⟨0x104, 1, 0x4, .r, .const 0x20000, 0x3FFFF, [], [], 1⟩,  -- QRY_POOL_FREE
  ⟨0x108, 1, 0x4, .r, .const 0x20000, 0x3FFFF, [], [], 1⟩,  -- QRY_POOL_CAP
  ⟨0x10C, 1, 0x4, .r, .const 0x0, 0x3FFFF, [], [], 1⟩,  -- QRY_POOL_DEBT
  ⟨0x110, 1, 0x4, .r, .const 0x0, 0x3FFFF, [], [], 1⟩,  -- QRY_RSV_SUM
  ⟨0x114, 1, 0x4, .r, .const 0x0, 0x3FFFF, [], [], 1⟩,  -- QRY_RETIRED
  ⟨0x118, 1, 0x4, .l, .const 0x0, 0x0, [.sysSec], [], 1⟩,  -- QRY_FENCE
  ⟨0x11C, 1, 0x4, .r, .const 0x0, 0x800001FF, [], [], 1⟩,  -- QRY_SWEEP_STAT
  ⟨0x120, 1, 0x4, .r, .const 0x0, 0x7FFFFFF, [], [], 1⟩,  -- QRY_RECLAIM_LAST
  ⟨0x124, 1, 0x4, .r, .const 0x0, 0x3FF, [], [], 1⟩,  -- QRY_UNCORR_LAST
  ⟨0x128, 1, 0x4, .r, .const 0x0, 0x103FF, [], [], 1⟩,  -- QRY_REFUSE_LAST
  ⟨0x140, 16, 0x4, .r, .const 0x0, 0xFFFFFFFF, [], [], 1⟩,  -- QRY_FENCE_MAP
  ⟨0x200, 1, 0x4, .c, .const 0x0, 0xFFFFFFFF, [], [], 1⟩,  -- QRY_CORR_TOTAL
  ⟨0x204, 1, 0x4, .c, .const 0x0, 0xFFFFFFFF, [], [], 1⟩,  -- QRY_UNCORR_COUNT
  ⟨0x208, 1, 0x4, .c, .const 0x0, 0xFFFFFFFF, [], [], 1⟩,  -- QRY_REFUSE_COUNT
  ⟨0x20C, 1, 0x4, .c, .const 0x0, 0xFFFFFFFF, [], [], 1⟩,  -- QRY_OVERSIZE_COUNT
  ⟨0x210, 1, 0x4, .c, .const 0x0, 0xFFFFFFFF, [], [], 1⟩,  -- QRY_RECLAIM_COUNT
  ⟨0x214, 1, 0x4, .c, .const 0x0, 0xFFFFFFFF, [], [], 1⟩,  -- QRY_FENCE_COUNT
  ⟨0x218, 1, 0x4, .c, .const 0x0, 0xFFFFFFFF, [], [], 1⟩]  -- QRY_RETIRE_SKIP

/-- Page RAD. -/
def regsRad : List RegDesc := [
  ⟨0x100, 1, 0x4, .s, .const 0x818, 0x33F1F, [.boundary], [{ hi := 2, lo := 0, min := 0, max := 5 }, { hi := 13, lo := 8, min := 4, max := 64 }, { hi := 17, lo := 16, min := 0, max := 2 }], 1⟩,  -- RAD_PHY
  ⟨0x104, 1, 0x4, .s, .const 0x14, 0x1FF, [.boundary], [{ hi := 7, lo := 0, min := -20, max := 32, signed := true }], 1⟩,  -- RAD_TXP
  ⟨0x108, 1, 0x4, .s, .const 0xA14, 0xFFFF, [], [{ hi := 7, lo := 0, min := 1, max := 100 }, { hi := 15, lo := 8, min := 1, max := 100 }], 1⟩,  -- RAD_FE_TIMING
  ⟨0x10C, 1, 0x4, .s, .const 0xAB, 0xFF, [], [{ hi := 7, lo := 0, min := -110, max := -40, signed := true }], 1⟩,  -- RAD_CCA
  ⟨0x110, 1, 0x4, .s, .cal, 0xFFFFFFFF, [], [], 1⟩,  -- RAD_LAT_TX
  ⟨0x114, 1, 0x4, .s, .cal, 0xFFFFFFFF, [], [], 1⟩,  -- RAD_LAT_RX
  ⟨0x118, 1, 0x4, .s, .const 0x8, 0xFFFFFFFF, [], [{ hi := 31, lo := 0, min := 0, max := 1000 }], 1⟩,  -- RAD_LAT_UNC
  ⟨0x11C, 1, 0x4, .s, .const 0x0, 0x1, [], [], 1⟩,  -- RAD_ANT
  ⟨0x120, 1, 0x4, .s, .const 0x0, 0xFF, [.boundary], [], 1⟩,  -- RAD_FIX_CH
  ⟨0x124, 1, 0x4, .s, .const 0x1032, 0xFF7F, [], [{ hi := 6, lo := 0, min := 1, max := 100 }, { hi := 15, lo := 8, min := 1, max := 255 }], 1⟩,  -- RAD_BLOCK_CFG
  ⟨0x128, 1, 0x4, .l, .const 0x0, 0xFF00, [], [], 1⟩,  -- RAD_SCAN_CMD
  ⟨0x130, 4, 0x4, .l, .const 0x0, 0xFFFFFFFF, [], [], 1⟩,  -- RAD_SCAN_MASK
  ⟨0x140, 4, 0x4, .w1c, .const 0x0, 0xFFFFFFFF, [], [], 1⟩,  -- RAD_BLOCKED_MAP
  ⟨0x150, 1, 0x4, .r, .hw, 0xFF, [], [], 1⟩,  -- RAD_RSSI
  ⟨0x200, 1, 0x4, .c, .const 0x0, 0xFFFFFFFF, [], [], 1⟩,  -- RAD_RX_OK
  ⟨0x204, 1, 0x4, .c, .const 0x0, 0xFFFFFFFF, [], [], 1⟩,  -- RAD_RX_FCS_ERR
  ⟨0x208, 1, 0x4, .c, .const 0x0, 0xFFFFFFFF, [], [], 1⟩,  -- RAD_RX_PHR_ERR
  ⟨0x20C, 1, 0x4, .c, .const 0x0, 0xFFFFFFFF, [], [], 1⟩,  -- RAD_TX_COUNT
  ⟨0x210, 1, 0x4, .c, .const 0x0, 0xFFFFFFFF, [], [], 1⟩,  -- RAD_CCA_BUSY
  ⟨0x214, 1, 0x4, .c, .const 0x0, 0xFFFFFFFF, [], [], 1⟩,  -- RAD_SYNTH_UNLOCK
  ⟨0x218, 1, 0x4, .c, .const 0x0, 0xFFFFFFFF, [], [], 1⟩,  -- RAD_SCAN_REFUSED
  ⟨0x400, 32, 0x4, .r, .const 0x0, 0xFFFFFFFF, [], [], 1⟩]  -- RAD_SCAN_RES

/-- Page RMC. -/
def regsRmc0 : List RegDesc := [
  ⟨0x100, 1, 0x4, .s, .const 0x10000, 0x1FFFF, [.boundary], [], 1⟩,  -- RMC_NET
  ⟨0x104, 1, 0x4, .s, .const 0x0, 0xFFFFFFFF, [.lo], [], 1⟩,  -- RMC_SF_ORIGIN_LO
  ⟨0x108, 1, 0x4, .s, .const 0x0, 0xFFFFFFFF, [.hi], [], 1⟩,  -- RMC_SF_ORIGIN_HI
  ⟨0x10C, 1, 0x4, .s, .const 0x30, 0x7F, [.boundary], [{ hi := 6, lo := 0, min := 1, max := 64 }], 1⟩,  -- RMC_SLOT_SPLIT
  ⟨0x110, 1, 0x4, .s, .const 0x3453, 0x77FF, [], [{ hi := 3, lo := 0, min := 0, max := 8 }, { hi := 7, lo := 4, min := 0, max := 8 }, { hi := 10, lo := 8, min := 0, max := 5 }], 1⟩,  -- RMC_CSMA
  ⟨0x114, 1, 0x4, .s, .const 0x0, 0x1FF, [.boundary], [], 1⟩,  -- RMC_BCN_SEC
  ⟨0x118, 1, 0x4, .s, .const 0x1, 0xFFFF, [.boundary], [{ hi := 7, lo := 0, min := 1, max := 128 }], 1⟩,  -- RMC_HOP_CFG
  ⟨0x11C, 1, 0x4, .s, .const 0xA0E10, 0xFFFFFF, [], [{ hi := 15, lo := 0, min := 1, max := 65535 }, { hi := 23, lo := 16, min := 2, max := 50 }], 1⟩,  -- RMC_IND_CFG
  ⟨0x120, 1, 0x4, .s, .const 0x4, 0xF, [], [{ hi := 3, lo := 0, min := 2, max := 8 }], 1⟩,  -- RMC_EVT_WIN
  ⟨0x124, 1, 0x4, .r, .cal, 0xFFFFFFFF, [.lo], [], 1⟩,  -- RMC_EUI_LO
  ⟨0x128, 1, 0x4, .r, .cal, 0xFFFFFFFF, [.hi], [], 1⟩,  -- RMC_EUI_HI
  ⟨0x140, 32, 0x4, .s, .const 0x0, 0x7F7F7F7F, [.boundary], [], 1⟩,  -- RMC_HOP
  ⟨0x1C0, 32, 0x4, .s, .const 0x0, 0x81FF81FF, [.boundary], [], 1⟩,  -- RMC_RSV
  ⟨0x280, 1, 0x4, .r, .hw, 0xFFFFFFFF, [], [], 1⟩,  -- RMC_SF_NO
  ⟨0x284, 1, 0x4, .r, .hw, 0xFF3F, [], [], 1⟩,  -- RMC_SLOT_NOW
  ⟨0x288, 1, 0x4, .r, .const 0x0, 0x1FF, [], [], 1⟩,  -- RMC_IND_PEND
  ⟨0x300, 1, 0x4, .c, .const 0x0, 0xFFFFFFFF, [], [], 1⟩,  -- RMC_BCN_SENT
  ⟨0x304, 1, 0x4, .c, .const 0x0, 0xFFFFFFFF, [], [], 1⟩,  -- RMC_BCN_SKIP
  ⟨0x308, 1, 0x4, .c, .const 0x0, 0xFFFFFFFF, [], [], 1⟩,  -- RMC_CA_FAIL
  ⟨0x30C, 1, 0x4, .c, .const 0x0, 0xFFFFFFFF, [], [], 1⟩,  -- RMC_ACK_FAIL
  ⟨0x310, 1, 0x4, .c, .const 0x0, 0xFFFFFFFF, [], [], 1⟩,  -- RMC_DUP_COUNT
  ⟨0x314, 1, 0x4, .c, .const 0x0, 0xFFFFFFFF, [], [], 1⟩,  -- RMC_SEC_REJECT
  ⟨0x318, 1, 0x4, .c, .const 0x0, 0xFFFFFFFF, [], [], 1⟩,  -- RMC_UNKNOWN_SRC
  ⟨0x31C, 1, 0x4, .c, .const 0x0, 0xFFFFFFFF, [], [], 1⟩]  -- RMC_RESYNC_COUNT

/-- Page RMC. -/
def regsRmc1 : List RegDesc := [
  ⟨0x320, 1, 0x4, .c, .const 0x0, 0xFFFFFFFF, [], [], 1⟩,  -- RMC_IND_EXPIRED
  ⟨0x324, 1, 0x4, .c, .const 0x0, 0xFFFFFFFF, [], [], 1⟩,  -- RMC_IND_UNSENT
  ⟨0x328, 1, 0x4, .c, .const 0x0, 0xFFFFFFFF, [], [], 1⟩,  -- RMC_LEAVE_WAIT
  ⟨0x32C, 1, 0x4, .c, .const 0x0, 0xFFFFFFFF, [], [], 1⟩,  -- RMC_EVT_SKIP
  ⟨0x330, 1, 0x4, .c, .const 0x0, 0xFFFFFFFF, [], [], 1⟩]  -- RMC_DEFER

/-- Page RMC. -/
def regsRmc : List RegDesc := regsRmc0 ++ regsRmc1

/-- Page PLC. -/
def regsPlc0 : List RegDesc := [
  ⟨0x100, 1, 0x4, .s, .const 0x6, 0x7, [.boundary], [{ hi := 2, lo := 1, min := 0, max := 3 }], 1⟩,  -- PLC_PHY
  ⟨0x104, 1, 0x4, .s, .const 0x0, 0x1FFFF, [.boundary], [], 1⟩,  -- PLC_TONE_MASK
  ⟨0x108, 1, 0x4, .s, .const 0xC, 0x37F, [], [{ hi := 6, lo := 0, min := 0, max := 80 }], 1⟩,  -- PLC_TX_LEVEL
  ⟨0x10C, 1, 0x4, .s, .const 0x3232, 0xFFFF, [], [{ hi := 7, lo := 0, min := 1, max := 200 }, { hi := 15, lo := 8, min := 1, max := 200 }], 1⟩,  -- PLC_FE_TIMING
  ⟨0x110, 1, 0x4, .s, .cal, 0xFFFFFFFF, [], [], 1⟩,  -- PLC_LAT_TX
  ⟨0x114, 1, 0x4, .s, .cal, 0xFFFFFFFF, [], [], 1⟩,  -- PLC_LAT_RX
  ⟨0x118, 1, 0x4, .s, .const 0x445C, 0xFFFFFFFF, [], [{ hi := 31, lo := 0, min := 0, max := 100000 }], 1⟩,  -- PLC_LAT_UNC
  ⟨0x11C, 1, 0x4, .s, .const 0x0, 0x3, [], [], 1⟩,  -- PLC_ZC_MODE
  ⟨0x120, 1, 0x4, .s, .const 0x31464, 0xFFFFF, [], [{ hi := 7, lo := 0, min := 20, max := 255 }, { hi := 15, lo := 8, min := 5, max := 30 }, { hi := 19, lo := 16, min := 1, max := 15 }], 1⟩,  -- PLC_ZC_CFG
  ⟨0x124, 1, 0x4, .s, .const 0x108, 0xFF031F, [.boundary], [{ hi := 4, lo := 0, min := 4, max := 31 }], 1⟩,  -- PLC_BCN
  ⟨0x128, 1, 0x4, .s, .const 0x0, 0xFFFFFFFF, [.lo], [], 1⟩,  -- PLC_BCN_ORIGIN_LO
  ⟨0x12C, 1, 0x4, .s, .const 0x0, 0xFFFFFFFF, [.hi], [], 1⟩,  -- PLC_BCN_ORIGIN_HI
  ⟨0x130, 1, 0x4, .s, .const 0x0, 0xFFFF, [.boundary], [], 1⟩,  -- PLC_NET
  ⟨0x134, 1, 0x4, .s, .const 0x3453, 0x77FF, [], [{ hi := 3, lo := 0, min := 0, max := 8 }, { hi := 7, lo := 4, min := 0, max := 8 }, { hi := 10, lo := 8, min := 0, max := 5 }], 1⟩,  -- PLC_CSMA
  ⟨0x138, 1, 0x4, .s, .const 0x60C0704, 0x1FFFFFFF, [.boundary], [{ hi := 7, lo := 0, min := 0, max := 40 }, { hi := 15, lo := 8, min := 0, max := 40 }, { hi := 23, lo := 16, min := 0, max := 40 }, { hi := 28, lo := 24, min := 1, max := 17 }], 1⟩,  -- PLC_TMAP_CFG
  ⟨0x13C, 1, 0x4, .s, .const 0xE10, 0xFFFFFFFF, [], [{ hi := 31, lo := 0, min := 10, max := 86400 }], 1⟩,  -- PLC_TMAP_TTL
  ⟨0x140, 1, 0x4, .s, .const 0x600400C, 0xFFFFFFFF, [], [{ hi := 7, lo := 0, min := 6, max := 30 }, { hi := 23, lo := 8, min := 1, max := 65535 }, { hi := 31, lo := 24, min := 3, max := 30 }], 1⟩,  -- PLC_NOISE_CFG
  ⟨0x180, 1, 0x4, .r, .const 0x0, 0x803FFFFF, [], [], 1⟩,  -- PLC_ZC_STAT
  ⟨0x184, 1, 0x4, .r, .const 0x0, 0xFFFFFFFF, [.lo], [], 1⟩,  -- PLC_ZC_LAST_LO
  ⟨0x188, 1, 0x4, .r, .const 0x0, 0xFFFFFFFF, [.hi], [], 1⟩,  -- PLC_ZC_LAST_HI
  ⟨0x18C, 1, 0x4, .r, .hw, 0xFFFFFFFF, [], [], 1⟩,  -- PLC_BCN_NO
  ⟨0x190, 1, 0x4, .r, .hw, 0xFFFFFFFF, [.lo], [], 1⟩,  -- PLC_NEXT_BCN_LO
  ⟨0x194, 1, 0x4, .r, .hw, 0xFFFFFFFF, [.hi], [], 1⟩,  -- PLC_NEXT_BCN_HI
  ⟨0x198, 1, 0x4, .r, .const 0x0, 0x3FF, [], [], 1⟩]  -- PLC_TMAP_LAST

/-- Page PLC. -/
def regsPlc1 : List RegDesc := [
  ⟨0x200, 1, 0x4, .c, .const 0x0, 0xFFFFFFFF, [], [], 1⟩,  -- PLC_RX_OK
  ⟨0x204, 1, 0x4, .c, .const 0x0, 0xFFFFFFFF, [], [], 1⟩,  -- PLC_RX_HDR_ERR
  ⟨0x208, 1, 0x4, .c, .const 0x0, 0xFFFFFFFF, [], [], 1⟩,  -- PLC_RX_RS_FAIL
  ⟨0x20C, 1, 0x4, .c, .const 0x0, 0xFFFFFFFF, [], [], 1⟩,  -- PLC_RX_FCS_ERR
  ⟨0x210, 1, 0x4, .c, .const 0x0, 0xFFFFFFFF, [], [], 1⟩,  -- PLC_RX_ABORT
  ⟨0x214, 1, 0x4, .c, .const 0x0, 0xFFFFFFFF, [], [], 1⟩,  -- PLC_TX_COUNT
  ⟨0x218, 1, 0x4, .c, .const 0x0, 0xFFFFFFFF, [], [], 1⟩,  -- PLC_CCA_BUSY
  ⟨0x21C, 1, 0x4, .c, .const 0x0, 0xFFFFFFFF, [], [], 1⟩,  -- PLC_BCN_SENT
  ⟨0x220, 1, 0x4, .c, .const 0x0, 0xFFFFFFFF, [], [], 1⟩,  -- PLC_BCN_SKIP
  ⟨0x224, 1, 0x4, .c, .const 0x0, 0xFFFFFFFF, [], [], 1⟩,  -- PLC_CA_FAIL
  ⟨0x228, 1, 0x4, .c, .const 0x0, 0xFFFFFFFF, [], [], 1⟩,  -- PLC_ACK_FAIL
  ⟨0x22C, 1, 0x4, .c, .const 0x0, 0xFFFFFFFF, [], [], 1⟩,  -- PLC_DEFER
  ⟨0x230, 1, 0x4, .c, .const 0x0, 0xFFFFFFFF, [], [], 1⟩,  -- PLC_LEAVE_WAIT
  ⟨0x234, 1, 0x4, .c, .const 0x0, 0xFFFFFFFF, [], [], 1⟩,  -- PLC_DUP_COUNT
  ⟨0x238, 1, 0x4, .c, .const 0x0, 0xFFFFFFFF, [], [], 1⟩,  -- PLC_SEC_REJECT
  ⟨0x23C, 1, 0x4, .c, .const 0x0, 0xFFFFFFFF, [], [], 1⟩,  -- PLC_UNKNOWN_SRC
  ⟨0x240, 1, 0x4, .c, .const 0x0, 0xFFFFFFFF, [], [], 1⟩,  -- PLC_NOISE_SYM
  ⟨0x244, 1, 0x4, .c, .const 0x0, 0xFFFFFFFF, [], [], 1⟩,  -- PLC_ZC_GLITCH
  ⟨0x248, 1, 0x4, .c, .const 0x0, 0xFFFFFFFF, [], [], 1⟩]  -- PLC_TMAP_SENT

/-- Page PLC. -/
def regsPlc : List RegDesc := regsPlc0 ++ regsPlc1

/-- Page TRK0 (R233). -/
def regsTrk00 : List RegDesc := [
  ⟨0x100, 1, 0x4, .s, .const 0x2, 0x3, [.boundary], [], 1⟩,  -- TRK_CFG
  ⟨0x104, 1, 0x4, .s, .const 0x0, 0x3FF, [], [], 1⟩,  -- TRK_STN
  ⟨0x108, 1, 0x4, .s, .const 0xC8, 0xFFFFFFFF, [.boundary], [{ hi := 31, lo := 0, min := 20, max := 10000 }], 1⟩,  -- TRK_THT
  ⟨0x10C, 1, 0x4, .s, .const 0x493E0, 0xFFFFFFFF, [], [{ hi := 31, lo := 0, min := 1000, max := 2000000 }], 1⟩,  -- TRK_TOKEN_TO
  ⟨0x110, 1, 0x4, .s, .const 0x501, 0xFFFF, [], [{ hi := 7, lo := 0, min := 1, max := 100 }, { hi := 15, lo := 8, min := 2, max := 255 }], 1⟩,  -- TRK_HELLO
  ⟨0x114, 1, 0x4, .s, .const 0x3E8, 0xFFFFFFFF, [], [{ hi := 31, lo := 0, min := 100, max := 60000 }], 1⟩,  -- TRK_UNWRAP_HOLD
  ⟨0x118, 1, 0x4, .s, .const 0x400, 0x7FF, [], [{ hi := 10, lo := 0, min := 2, max := 1024 }], 1⟩,  -- TRK_MAX_STN
  ⟨0x11C, 1, 0x4, .s, .const 0xC8A0, 0xFFFF, [], [{ hi := 15, lo := 0, min := 1, max := 65534 }], 1⟩,  -- TRK_BATCH_PORT
  ⟨0x120, 1, 0x4, .s, .const 0x0, 0xFFFFFFFF, [.boundary, .lo], [], 1⟩,  -- TRK_PREFIX_LO
  ⟨0x124, 1, 0x4, .s, .const 0x0, 0xFFFFFFFF, [.boundary, .hi], [], 1⟩,  -- TRK_PREFIX_HI
  ⟨0x128, 1, 0x4, .s, .cal, 0xFFFFFFFF, [], [], 1⟩,  -- TRK_LAT_TX
  ⟨0x12C, 1, 0x4, .s, .cal, 0xFFFFFFFF, [], [], 1⟩,  -- TRK_LAT_RX
  ⟨0x180, 1, 0x4, .r, .const 0x0, 0xFFFF003F, [], [], 1⟩,  -- TRK_STAT
  ⟨0x184, 1, 0x4, .r, .const 0x0, 0x7FF, [], [], 1⟩,  -- TRK_MEMBERS
  ⟨0x188, 1, 0x4, .r, .const 0x0, 0xFFFFFFFF, [], [], 1⟩,  -- TRK_ROT
  ⟨0x18C, 1, 0x4, .r, .const 0x0, 0x3FF, [], [], 1⟩,  -- TRK_MASTER_STN
  ⟨0x200, 1, 0x4, .c, .const 0x0, 0xFFFFFFFF, [], [], 1⟩,  -- TRK_RX_OK
  ⟨0x204, 1, 0x4, .c, .const 0x0, 0xFFFFFFFF, [], [], 1⟩,  -- TRK_RX_RUNT
  ⟨0x208, 1, 0x4, .c, .const 0x0, 0xFFFFFFFF, [], [], 1⟩,  -- TRK_RX_FCS_ERR
  ⟨0x20C, 1, 0x4, .c, .const 0x0, 0xFFFFFFFF, [], [], 1⟩,  -- TRK_RX_LONG
  ⟨0x210, 1, 0x4, .c, .const 0x0, 0xFFFFFFFF, [], [], 1⟩,  -- TRK_RX_GEN_DROP
  ⟨0x214, 1, 0x4, .c, .const 0x0, 0xFFFFFFFF, [], [], 1⟩,  -- TRK_HOP_DROP
  ⟨0x218, 1, 0x4, .c, .const 0x0, 0xFFFFFFFF, [], [], 1⟩,  -- TRK_TX_COUNT
  ⟨0x21C, 1, 0x4, .c, .const 0x0, 0xFFFFFFFF, [], [], 1⟩]  -- TRK_LINK_DOWN

/-- Page TRK0 (R233). -/
def regsTrk01 : List RegDesc := [
  ⟨0x220, 1, 0x4, .c, .const 0x0, 0xFFFFFFFF, [], [], 1⟩,  -- TRK_RX_CSUM_BAD
  ⟨0x224, 1, 0x4, .c, .const 0x0, 0xFFFFFFFF, [], [], 1⟩,  -- TRK_RX_NOT_UDP
  ⟨0x228, 1, 0x4, .c, .const 0x0, 0xFFFFFFFF, [], [], 1⟩,  -- TRK_TX_BAD_DST
  ⟨0x22C, 1, 0x4, .c, .const 0x0, 0xFFFFFFFF, [], [], 1⟩,  -- TRK_TX_UNDELIV
  ⟨0x230, 1, 0x4, .c, .const 0x0, 0xFFFFFFFF, [], [], 1⟩,  -- TRK_TOKEN_LOST
  ⟨0x234, 1, 0x4, .c, .const 0x0, 0xFFFFFFFF, [], [], 1⟩,  -- TRK_CLAIMS
  ⟨0x238, 1, 0x4, .c, .const 0x0, 0xFFFFFFFF, [], [], 1⟩,  -- TRK_JOIN_REFUSED
  ⟨0x23C, 1, 0x4, .c, .const 0x0, 0xFFFFFFFF, [], [], 1⟩,  -- TRK_MASTER_CONFLICT
  ⟨0x240, 1, 0x4, .c, .const 0x0, 0xFFFFFFFF, [], [], 1⟩,  -- TRK_ACK_FAIL
  ⟨0x300, 32, 0x4, .r, .const 0x0, 0xFFFFFFFF, [], [], 1⟩]  -- TRK_MEMBER_MAP

/-- Page TRK0 (R233). -/
def regsTrk0 : List RegDesc := regsTrk00 ++ regsTrk01

/-- Page TRK1 (R233). -/
def regsTrk1 : List RegDesc := [
  ⟨0x128, 1, 0x4, .s, .cal, 0xFFFFFFFF, [], [], 1⟩,  -- TRK_LAT_TX
  ⟨0x12C, 1, 0x4, .s, .cal, 0xFFFFFFFF, [], [], 1⟩,  -- TRK_LAT_RX
  ⟨0x200, 1, 0x4, .c, .const 0x0, 0xFFFFFFFF, [], [], 1⟩,  -- TRK_RX_OK
  ⟨0x204, 1, 0x4, .c, .const 0x0, 0xFFFFFFFF, [], [], 1⟩,  -- TRK_RX_RUNT
  ⟨0x208, 1, 0x4, .c, .const 0x0, 0xFFFFFFFF, [], [], 1⟩,  -- TRK_RX_FCS_ERR
  ⟨0x20C, 1, 0x4, .c, .const 0x0, 0xFFFFFFFF, [], [], 1⟩,  -- TRK_RX_LONG
  ⟨0x210, 1, 0x4, .c, .const 0x0, 0xFFFFFFFF, [], [], 1⟩,  -- TRK_RX_GEN_DROP
  ⟨0x214, 1, 0x4, .c, .const 0x0, 0xFFFFFFFF, [], [], 1⟩,  -- TRK_HOP_DROP
  ⟨0x218, 1, 0x4, .c, .const 0x0, 0xFFFFFFFF, [], [], 1⟩,  -- TRK_TX_COUNT
  ⟨0x21C, 1, 0x4, .c, .const 0x0, 0xFFFFFFFF, [], [], 1⟩]  -- TRK_LINK_DOWN

/-- Page UPL. -/
def regsUpl : List RegDesc := [
  ⟨0x100, 1, 0x4, .s, .const 0x2, 0x1F, [.boundary], [], 1⟩,  -- UPL_CFG
  ⟨0x104, 1, 0x4, .s, .const 0xC8B0, 0x1FFFF, [], [], 1⟩,  -- UPL_MGMT
  ⟨0x108, 1, 0x4, .s, .cal, 0xFFFFFFFF, [], [], 1⟩,  -- UPL_LAT_TX
  ⟨0x10C, 1, 0x4, .s, .cal, 0xFFFFFFFF, [], [], 1⟩,  -- UPL_LAT_RX
  ⟨0x110, 1, 0x4, .s, .const 0x258, 0xFFFFFFFF, [], [{ hi := 31, lo := 0, min := 10, max := 86400 }], 1⟩,  -- UPL_SES_IDLE
  ⟨0x118, 1, 0x4, .r, .cal, 0xFFFFFFFF, [.lo], [], 1⟩,  -- UPL_MAC_LO
  ⟨0x11C, 1, 0x4, .r, .cal, 0xFFFFFFFF, [.hi], [], 1⟩,  -- UPL_MAC_HI
  ⟨0x180, 1, 0x4, .r, .hw, 0xF, [], [], 1⟩,  -- UPL_STAT
  ⟨0x200, 1, 0x4, .c, .const 0x0, 0xFFFFFFFF, [], [], 1⟩,  -- UPL_RX_OK
  ⟨0x204, 1, 0x4, .c, .const 0x0, 0xFFFFFFFF, [], [], 1⟩,  -- UPL_RX_RUNT
  ⟨0x208, 1, 0x4, .c, .const 0x0, 0xFFFFFFFF, [], [], 1⟩,  -- UPL_RX_FCS_ERR
  ⟨0x20C, 1, 0x4, .c, .const 0x0, 0xFFFFFFFF, [], [], 1⟩,  -- UPL_RX_LONG
  ⟨0x210, 1, 0x4, .c, .const 0x0, 0xFFFFFFFF, [], [], 1⟩,  -- UPL_RX_FILTERED
  ⟨0x214, 1, 0x4, .c, .const 0x0, 0xFFFFFFFF, [], [], 1⟩,  -- UPL_TX_COUNT
  ⟨0x218, 1, 0x4, .c, .const 0x0, 0xFFFFFFFF, [], [], 1⟩,  -- UPL_CSUM_SKIP
  ⟨0x21C, 1, 0x4, .c, .const 0x0, 0xFFFFFFFF, [], [], 1⟩,  -- UPL_MGMT_OK
  ⟨0x220, 1, 0x4, .c, .const 0x0, 0xFFFFFFFF, [], [], 1⟩,  -- UPL_MGMT_AUTH_FAIL
  ⟨0x224, 1, 0x4, .c, .const 0x0, 0xFFFFFFFF, [], [], 1⟩,  -- UPL_MGMT_REPLAY
  ⟨0x228, 1, 0x4, .c, .const 0x0, 0xFFFFFFFF, [], [], 1⟩,  -- UPL_PAUSE_RX
  ⟨0x300, 16, 0x10, .l, .const 0x0, 0xFFFFF01, [.sysSec], [], 1⟩,  -- UPL_SES_CTRL
  ⟨0x304, 16, 0x10, .l, .const 0x0, 0xFFFFFFFF, [.sysSec], [], 1⟩,  -- UPL_SES_GRANT_R
  ⟨0x308, 16, 0x10, .l, .const 0x0, 0xFFFFFFFF, [.sysSec], [], 1⟩,  -- UPL_SES_GRANT_W
  ⟨0x30C, 16, 0x10, .r, .const 0x0, 0xFFFFFFFF, [], [], 1⟩]  -- UPL_SES_SEQ

/-- Page FB. -/
def regsFb0 : List RegDesc := [
  ⟨0x100, 1, 0x4, .s, .const 0x1, 0x7, [.boundary], [{ hi := 1, lo := 0, min := 0, max := 2 }], 1⟩,  -- FB_CFG
  ⟨0x104, 1, 0x4, .s, .const 0x2580, 0xFFFFFFFF, [.boundary], [{ hi := 31, lo := 0, min := 300, max := 921600 }], 1⟩,  -- FB_BAUD
  ⟨0x108, 1, 0x4, .s, .const 0x270101, 0xFFFFFFFF, [.boundary], [{ hi := 31, lo := 16, min := 11, max := 1000 }], 1⟩,  -- FB_TIMING
  ⟨0x10C, 1, 0x4, .s, .const 0xC8, 0xFFFFFFFF, [], [{ hi := 31, lo := 0, min := 1, max := 10000 }], 1⟩,  -- FB_TMO
  ⟨0x110, 1, 0x4, .s, .const 0x64, 0xFFFFFFFF, [], [{ hi := 31, lo := 0, min := 1, max := 1000 }], 1⟩,  -- FB_TURN
  ⟨0x114, 1, 0x4, .s, .const 0x0, 0xFFFFFFFF, [.boundary, .lo], [], 32⟩,  -- FB_LIST_BASE_LO
  ⟨0x118, 1, 0x4, .s, .const 0x0, 0xFFFFFFFF, [.boundary, .hi], [], 1⟩,  -- FB_LIST_BASE_HI
  ⟨0x11C, 1, 0x4, .s, .const 0x0, 0x7FF, [.boundary], [{ hi := 10, lo := 0, min := 0, max := 1024 }], 1⟩,  -- FB_LIST_LEN
  ⟨0x120, 1, 0x4, .s, .const 0x0, 0xFFFFFFFF, [.lo], [], 1⟩,  -- FB_ORIGIN_LO
  ⟨0x124, 1, 0x4, .s, .const 0x0, 0xFFFFFFFF, [.hi], [], 1⟩,  -- FB_ORIGIN_HI
  ⟨0x128, 1, 0x4, .s, .const 0x0, 0x1FF, [], [], 1⟩,  -- FB_LANE
  ⟨0x180, 1, 0x4, .r, .const 0x0, 0xFF83FF, [], [], 1⟩,  -- FB_STAT
  ⟨0x184, 1, 0x4, .r, .const 0x0, 0xF03FF, [], [], 1⟩,  -- FB_LAST_ERR
  ⟨0x200, 1, 0x4, .c, .const 0x0, 0xFFFFFFFF, [], [], 1⟩,  -- FB_POLL_COUNT
  ⟨0x204, 1, 0x4, .c, .const 0x0, 0xFFFFFFFF, [], [], 1⟩,  -- FB_OK
  ⟨0x208, 1, 0x4, .c, .const 0x0, 0xFFFFFFFF, [], [], 1⟩,  -- FB_TIMEOUT
  ⟨0x20C, 1, 0x4, .c, .const 0x0, 0xFFFFFFFF, [], [], 1⟩,  -- FB_CRC_ERR
  ⟨0x210, 1, 0x4, .c, .const 0x0, 0xFFFFFFFF, [], [], 1⟩,  -- FB_FRAME_ERR
  ⟨0x214, 1, 0x4, .c, .const 0x0, 0xFFFFFFFF, [], [], 1⟩,  -- FB_RUNT
  ⟨0x218, 1, 0x4, .c, .const 0x0, 0xFFFFFFFF, [], [], 1⟩,  -- FB_ADDR_ERR
  ⟨0x21C, 1, 0x4, .c, .const 0x0, 0xFFFFFFFF, [], [], 1⟩,  -- FB_EXCEPTION
  ⟨0x220, 1, 0x4, .c, .const 0x0, 0xFFFFFFFF, [], [], 1⟩,  -- FB_LONG
  ⟨0x224, 1, 0x4, .c, .const 0x0, 0xFFFFFFFF, [], [], 1⟩,  -- FB_REFUSED
  ⟨0x228, 1, 0x4, .c, .const 0x0, 0xFFFFFFFF, [], [], 1⟩]  -- FB_SKIP

/-- Page FB. -/
def regsFb1 : List RegDesc := [
  ⟨0x22C, 1, 0x4, .c, .const 0x0, 0xFFFFFFFF, [], [], 1⟩]  -- FB_RETRY

/-- Page FB. -/
def regsFb : List RegDesc := regsFb0 ++ regsFb1

/-- Page TIM. -/
def regsTim0 : List RegDesc := [
  ⟨0x100, 1, 0x4, .r, .hw, 0xFFFFFFFF, [], [], 1⟩,  -- TIM_NS
  ⟨0x104, 1, 0x4, .r, .hw, 0xFFFFFFFF, [], [], 1⟩,  -- TIM_WRAP
  ⟨0x108, 1, 0x4, .l, .const 0x0, 0xFFFFFFFF, [.lo], [], 1⟩,  -- TIM_INC_LO
  ⟨0x10C, 1, 0x4, .l, .const 0x4, 0xFFFFFFFF, [.hi], [], 1⟩,  -- TIM_INC_HI
  ⟨0x110, 1, 0x4, .l, .const 0x0, 0x0, [.lo], [], 1⟩,  -- TIM_STEP_LO
  ⟨0x114, 1, 0x4, .l, .const 0x0, 0x0, [.hi], [], 1⟩,  -- TIM_STEP_HI
  ⟨0x118, 1, 0x4, .s, .const 0x10, 0x1F, [], [{ hi := 1, lo := 0, min := 0, max := 2 }, { hi := 3, lo := 2, min := 0, max := 1 }], 1⟩,  -- TIM_CORR
  ⟨0x11C, 1, 0x4, .s, .const 0x231D, 0x3F3F, [], [{ hi := 5, lo := 0, min := 16, max := 48 }, { hi := 13, lo := 8, min := 17, max := 56 }], 1⟩,  -- TIM_SERVO
  ⟨0x120, 1, 0x4, .s, .const 0xF4240, 0xFFFFFFFF, [], [{ hi := 31, lo := 0, min := 1000, max := 1000000000 }], 1⟩,  -- TIM_STEP_THR
  ⟨0x124, 1, 0x4, .s, .const 0xC350, 0xFFFFFFFF, [], [{ hi := 31, lo := 0, min := 1000, max := 500000 }], 1⟩,  -- TIM_CLAMP
  ⟨0x128, 1, 0x4, .s, .const 0xBB8, 0xFFFFFFFF, [], [{ hi := 31, lo := 0, min := 100, max := 60000 }], 1⟩,  -- TIM_MASTER_TO
  ⟨0x12C, 1, 0x4, .s, .const 0x803E8, 0xFFFFFF, [], [{ hi := 15, lo := 0, min := 1, max := 65535 }, { hi := 23, lo := 16, min := 1, max := 255 }], 1⟩,  -- TIM_LOCK
  ⟨0x130, 1, 0x4, .s, .const 0x1F4, 0xFFFFFFFF, [], [{ hi := 31, lo := 0, min := 1, max := 65535 }], 1⟩,  -- TIM_HOLD_PPB
  ⟨0x134, 1, 0x4, .s, .const 0xF4240, 0xFFFFFFFF, [], [{ hi := 31, lo := 0, min := 1000, max := 4000000000 }], 1⟩,  -- TIM_HOLD_MAX
  ⟨0x138, 1, 0x4, .s, .const 0x0, 0xFFFFFFFF, [], [{ hi := 31, lo := 0, min := 0, max := 1000000 }], 1⟩,  -- TIM_UNC_SYNC
  ⟨0x13C, 1, 0x4, .s, .cal, 0xFFFFFFFF, [], [{ hi := 31, lo := 0, min := 0, max := 1000 }], 1⟩,  -- TIM_LAT_PPS
  ⟨0x140, 1, 0x4, .s, .const 0x0, 0xFFFFFFFF, [], [{ hi := 31, lo := 0, min := 0, max := 999999999 }], 1⟩,  -- TIM_PPS_PHASE
  ⟨0x144, 1, 0x4, .s, .const 0x6400, 0xFF3F, [], [{ hi := 15, lo := 8, min := 1, max := 255 }], 1⟩,  -- TIM_PPS_OUT
  ⟨0x148, 1, 0x4, .s, .const 0x3, 0x3, [], [], 1⟩,  -- TIM_TS_CFG
  ⟨0x160, 1, 0x4, .l, .const 0x0, 0x0, [], [], 1⟩,  -- TIM_CLASS_SET
  ⟨0x164, 1, 0x4, .l, .const 0x0, 0x0, [.lo], [], 1⟩,  -- TIM_OFFSET_LO
  ⟨0x168, 1, 0x4, .l, .const 0x0, 0x0, [.hi], [], 1⟩,  -- TIM_OFFSET_HI
  ⟨0x16C, 1, 0x4, .l, .const 0x0, 0x3, [], [], 1⟩,  -- TIM_REF
  ⟨0x170, 1, 0x4, .l, .const 0x0, 0xFFFFFFFF, [], [], 1⟩]  -- TIM_REF_UNC

/-- Page TIM. -/
def regsTim1 : List RegDesc := [
  ⟨0x174, 1, 0x4, .l, .const 0x0, 0xFFFFFFFF, [], [], 1⟩,  -- TIM_BIAS
  ⟨0x178, 1, 0x4, .l, .const 0x0, 0x3, [], [], 1⟩,  -- TIM_ASSIST
  ⟨0x180, 1, 0x4, .r, .hw, 0x3F, [], [], 1⟩,  -- TIM_STAT
  ⟨0x184, 1, 0x4, .r, .hw, 0xFFFFFFFF, [], [], 1⟩,  -- TIM_UNC
  ⟨0x188, 1, 0x4, .r, .const 0x0, 0xFFFFFFFF, [], [], 1⟩,  -- TIM_LAST_OFFSET
  ⟨0x18C, 1, 0x4, .r, .const 0x0, 0xFFFFFFFF, [], [], 1⟩,  -- TIM_RATE
  ⟨0x190, 1, 0x4, .r, .const 0x0, 0xFFFFFFFF, [.lo], [], 1⟩,  -- TIM_LAST_SYNC_LO
  ⟨0x194, 1, 0x4, .r, .const 0x0, 0xFFFFFFFF, [.hi], [], 1⟩,  -- TIM_LAST_SYNC_HI
  ⟨0x198, 1, 0x4, .r, .hw, 0xFFFFFFFF, [.lo], [], 1⟩,  -- TIM_RTC_LO
  ⟨0x19C, 1, 0x4, .r, .hw, 0xFFFFFFFF, [.hi], [], 1⟩,  -- TIM_RTC_HI
  ⟨0x1A0, 1, 0x4, .w1c, .const 0x0, 0xFFFF, [], [], 1⟩,  -- TIM_CMP_PEND
  ⟨0x1A4, 1, 0x4, .r, .const 0x0, 0xFFFFFFFF, [], [], 1⟩,  -- TIM_LAST_STEP
  ⟨0x1B0, 1, 0x4, .r, .const 0x0, 0x1F, [], [], 1⟩,  -- TIM_TXTS_COUNT
  ⟨0x1B4, 1, 0x4, .r, .const 0x0, 0xFFFFFFFF, [], [], 1⟩,  -- TIM_TXTS_NS
  ⟨0x1B8, 1, 0x4, .r, .const 0x0, 0xFFFFFFFF, [], [], 1⟩,  -- TIM_TXTS_WRAP
  ⟨0x1BC, 1, 0x4, .r, .const 0x0, 0xFFFFFF03, [], [], 1⟩,  -- TIM_TXTS_INFO
  ⟨0x1C0, 1, 0x4, .l, .const 0x0, 0x0, [], [], 1⟩,  -- TIM_TXTS_POP
  ⟨0x1E0, 1, 0x4, .c, .const 0x0, 0xFFFFFFFF, [], [], 1⟩,  -- TIM_STEP_COUNT
  ⟨0x1E4, 1, 0x4, .c, .const 0x0, 0xFFFFFFFF, [], [], 1⟩,  -- TIM_STEP_REJ
  ⟨0x1E8, 1, 0x4, .c, .const 0x0, 0xFFFFFFFF, [], [], 1⟩,  -- TIM_SAMPLE_COUNT
  ⟨0x1EC, 1, 0x4, .c, .const 0x0, 0xFFFFFFFF, [], [], 1⟩,  -- TIM_SAMPLE_REJ
  ⟨0x1F0, 1, 0x4, .c, .const 0x0, 0xFFFFFFFF, [], [], 1⟩,  -- TIM_TXTS_DROP
  ⟨0x1F4, 1, 0x4, .c, .const 0x0, 0xFFFFFFFF, [], [], 1⟩,  -- TIM_CMP_LATE
  ⟨0x200, 16, 0x20, .s, .const 0x0, 0x7, [], [], 1⟩]  -- TIM_CMP_CFG

/-- Page TIM. -/
def regsTim2 : List RegDesc := [
  ⟨0x204, 16, 0x20, .l, .const 0x0, 0xFFFFFFFF, [], [], 1⟩,  -- TIM_CMP_NS
  ⟨0x208, 16, 0x20, .l, .const 0x0, 0xFFFFFFFF, [], [], 1⟩,  -- TIM_CMP_WRAP
  ⟨0x20C, 16, 0x20, .l, .const 0x3B9ACA00, 0xFFFFFFFF, [], [], 1⟩,  -- TIM_CMP_PERIOD
  ⟨0x210, 16, 0x20, .l, .const 0x0, 0x0, [], [], 1⟩,  -- TIM_CMP_CTRL
  ⟨0x214, 16, 0x20, .r, .const 0x0, 0xF, [], [], 1⟩,  -- TIM_CMP_STAT
  ⟨0x400, 8, 0x10, .s, .const 0x0, 0x1F, [], [{ hi := 2, lo := 0, min := 0, max := 4 }], 1⟩,  -- TIM_CAP_CFG
  ⟨0x404, 8, 0x10, .r, .const 0x0, 0xFFFFFFFF, [], [], 1⟩,  -- TIM_CAP_NS
  ⟨0x408, 8, 0x10, .r, .const 0x0, 0xFFFFFFFF, [], [], 1⟩,  -- TIM_CAP_WRAP
  ⟨0x40C, 8, 0x10, .r, .const 0x0, 0xFFFFFFFF, [], [], 1⟩]  -- TIM_CAP_SEQ

/-- Page TIM. -/
def regsTim : List RegDesc := regsTim0 ++ regsTim1 ++ regsTim2

/-- Page ING. -/
def regsIng0 : List RegDesc := [
  ⟨0x100, 1, 0x4, .s, .const 0x0, 0x3, [], [], 1⟩,  -- ING_CFG
  ⟨0x104, 1, 0x4, .s, .const 0x2010, 0x3F1F, [.quiesce], [{ hi := 4, lo := 0, min := 10, max := 26 }, { hi := 13, lo := 8, min := 1, max := 63 }], 1⟩,  -- ING_HASH_CFG
  ⟨0x108, 1, 0x4, .s, .const 0x0, 0xFFFFFFFF, [.quiesce, .lo], [], 4096⟩,  -- ING_HASH_BASE_LO
  ⟨0x10C, 1, 0x4, .s, .const 0x0, 0xFFFFFFFF, [.quiesce, .hi], [], 1⟩,  -- ING_HASH_BASE_HI
  ⟨0x110, 1, 0x4, .s, .const 0x0, 0xFFFFFFFF, [.quiesce, .lo], [], 128⟩,  -- ING_REC_BASE_LO
  ⟨0x114, 1, 0x4, .s, .const 0x0, 0xFFFFFFFF, [.quiesce, .hi], [], 1⟩,  -- ING_REC_BASE_HI
  ⟨0x118, 1, 0x4, .s, .const 0x0, 0xFFFFFFFF, [.lo], [], 64⟩,  -- ING_VPROF_BASE_LO
  ⟨0x11C, 1, 0x4, .s, .const 0x0, 0xFFFFFFFF, [.hi], [], 1⟩,  -- ING_VPROF_BASE_HI
  ⟨0x120, 1, 0x4, .s, .const 0x0, 0xFFFFFFFF, [.lo], [], 32⟩,  -- ING_CPROF_BASE_LO
  ⟨0x124, 1, 0x4, .s, .const 0x0, 0xFFFFFFFF, [.hi], [], 1⟩,  -- ING_CPROF_BASE_HI
  ⟨0x128, 1, 0x4, .s, .const 0x640029, 0xFFFF003F, [], [{ hi := 5, lo := 0, min := 1, max := 41 }, { hi := 31, lo := 16, min := 1, max := 1000 }], 1⟩,  -- ING_BATCH_CFG
  ⟨0x12C, 1, 0x4, .s, .const 0x7D0, 0xFFFFFFFF, [], [{ hi := 31, lo := 0, min := 100, max := 60000 }], 1⟩,  -- ING_ACK_TIMEOUT
  ⟨0x130, 1, 0x4, .s, .const 0x2710, 0xFFFFFFFF, [], [{ hi := 31, lo := 0, min := 1000, max := 600000 }], 1⟩,  -- ING_ISLAND_TIMEOUT
  ⟨0x134, 1, 0x4, .s, .const 0x1388, 0xFFFFFFFF, [], [{ hi := 31, lo := 0, min := 100, max := 50000 }], 1⟩,  -- ING_REPLAY_RATE
  ⟨0x138, 1, 0x4, .s, .const 0x3E8, 0xFFFFFFFF, [], [{ hi := 31, lo := 0, min := 1, max := 4000000 }], 1⟩,  -- ING_CLK_HOLD_LIMIT
  ⟨0x13C, 1, 0x4, .s, .const 0x258, 0xFFFFFFFF, [], [{ hi := 31, lo := 0, min := 0, max := 86400 }], 1⟩,  -- ING_TAMPER_WINDOW
  ⟨0x180, 1, 0x4, .l, .const 0x0, 0xFFFFFFFF, [.lo], [], 1⟩,  -- ING_REG_ADDR_LO
  ⟨0x184, 1, 0x4, .l, .const 0x0, 0xFFFFFFFF, [.hi], [], 1⟩,  -- ING_REG_ADDR_HI
  ⟨0x188, 1, 0x4, .l, .const 0x0, 0xFFFFFF, [], [], 1⟩,  -- ING_REG_ATTR0
  ⟨0x18C, 1, 0x4, .l, .const 0x0, 0x800003FF, [], [], 1⟩,  -- ING_REG_ATTR1
  ⟨0x190, 1, 0x4, .l, .const 0x0, 0x0, [], [], 1⟩,  -- ING_REG_CMD
  ⟨0x194, 1, 0x4, .r, .const 0x0, 0xF1, [], [], 1⟩,  -- ING_REG_STAT
  ⟨0x198, 1, 0x4, .r, .const 0x0, 0xE1FFFFFF, [], [], 1⟩,  -- ING_REG_INDEX
  ⟨0x19C, 1, 0x4, .r, .const 0x0, 0x3FFFFFF, [], [], 1⟩]  -- ING_REG_COUNT

/-- Page ING. -/
def regsIng1 : List RegDesc := [
  ⟨0x1A0, 1, 0x4, .s, .const 0x0, 0x3FFFFFF, [.quiesce], [], 1⟩,  -- ING_REG_HWM
  ⟨0x1A4, 1, 0x4, .s, .const 0x1FFFFFF, 0x1FFFFFF, [.quiesce], [], 1⟩,  -- ING_REG_FREE_HEAD
  ⟨0x200, 8, 0x20, .s, .const 0x0, 0xFFFFFFFF, [.quiesceCond, .lo], [], 64⟩,  -- ING_IN_BASE_LO
  ⟨0x204, 8, 0x20, .s, .const 0x0, 0xFFFFFFFF, [.quiesceCond, .hi], [], 1⟩,  -- ING_IN_BASE_HI
  ⟨0x208, 8, 0x20, .s, .ingCfg, 0x31F, [.quiesceCond], [{ hi := 4, lo := 0, min := 4, max := 20, zeroOk := true }], 1⟩,  -- ING_IN_CFG
  ⟨0x20C, 8, 0x20, .l, .const 0x0, 0xFFFFFFFF, [], [], 1⟩,  -- ING_IN_PROD
  ⟨0x210, 8, 0x20, .r, .const 0x0, 0xFFFFFFFF, [], [], 1⟩,  -- ING_IN_CONS
  ⟨0x214, 8, 0x20, .r, .const 0x0, 0xFFFFFFFF, [], [], 1⟩,  -- ING_IN_COUNT
  ⟨0x300, 1, 0x4, .s, .const 0x0, 0xFFFFFFFF, [.quiesceCond, .lo], [], 64⟩,  -- ING_EXC_BASE_LO
  ⟨0x304, 1, 0x4, .s, .const 0x0, 0xFFFFFFFF, [.quiesceCond, .hi], [], 1⟩,  -- ING_EXC_BASE_HI
  ⟨0x308, 1, 0x4, .s, .const 0x0, 0x1F, [.quiesceCond], [{ hi := 4, lo := 0, min := 4, max := 20, zeroOk := true }], 1⟩,  -- ING_EXC_CFG
  ⟨0x30C, 1, 0x4, .r, .const 0x0, 0xFFFFFFFF, [], [], 1⟩,  -- ING_EXC_PROD
  ⟨0x310, 1, 0x4, .l, .const 0x0, 0xFFFFFFFF, [], [], 1⟩,  -- ING_EXC_CONS
  ⟨0x314, 1, 0x4, .r, .const 0x0, 0xFFFFFFFF, [], [], 1⟩,  -- ING_EXC_COUNT
  ⟨0x340, 1, 0x4, .r, .hw, 0xFFFFFFFF, [], [], 1⟩,  -- ING_BATCH_SEQ
  ⟨0x344, 1, 0x4, .r, .hw, 0xFFFFFFFF, [], [], 1⟩,  -- ING_ACKED_SEQ
  ⟨0x348, 1, 0x4, .r, .const 0x0, 0xFFFFFFFF, [], [], 1⟩,  -- ING_UNACKED
  ⟨0x34C, 1, 0x4, .r, .hw, 0xFFFFFFFF, [], [], 1⟩,  -- ING_JOURNAL_PEND
  ⟨0x400, 1, 0x4, .c, .const 0x0, 0xFFFFFFFF, [], [], 1⟩,  -- ING_ACCEPT_COUNT
  ⟨0x404, 1, 0x4, .c, .const 0x0, 0xFFFFFFFF, [], [], 1⟩,  -- ING_DUP_COUNT
  ⟨0x408, 1, 0x4, .c, .const 0x0, 0xFFFFFFFF, [], [], 1⟩,  -- ING_REPLAY_COUNT
  ⟨0x40C, 1, 0x4, .c, .const 0x0, 0xFFFFFFFF, [], [], 1⟩,  -- ING_UNKNOWN_COUNT
  ⟨0x410, 1, 0x4, .c, .const 0x0, 0xFFFFFFFF, [], [], 1⟩,  -- ING_HOLD_COUNT
  ⟨0x414, 1, 0x4, .c, .const 0x0, 0xFFFFFFFF, [], [], 1⟩]  -- ING_LATE_COUNT

/-- Page ING. -/
def regsIng2 : List RegDesc := [
  ⟨0x418, 1, 0x4, .c, .const 0x0, 0xFFFFFFFF, [], [], 1⟩,  -- ING_BACKFILL_COUNT
  ⟨0x41C, 1, 0x4, .c, .const 0x0, 0xFFFFFFFF, [], [], 1⟩,  -- ING_BATCH_DUP_COUNT
  ⟨0x420, 1, 0x4, .c, .const 0x0, 0xFFFFFFFF, [], [], 1⟩,  -- ING_BATCH_FAIL_COUNT
  ⟨0x424, 1, 0x4, .c, .const 0x0, 0xFFFFFFFF, [], [], 1⟩,  -- ING_BATCH_GAP_COUNT
  ⟨0x428, 1, 0x4, .c, .const 0x0, 0xFFFFFFFF, [], [], 1⟩,  -- ING_BATCH_BUSY_COUNT
  ⟨0x42C, 1, 0x4, .c, .const 0x0, 0xFFFFFFFF, [], [], 1⟩,  -- ING_EXC_STALL_US
  ⟨0x430, 1, 0x4, .r, .const 0x0, 0xFFFFFFFF, [], [], 1⟩,  -- ING_RATE
  ⟨0x434, 1, 0x4, .c, .const 0x0, 0xFFFFFFFF, [], [], 1⟩,  -- ING_JOURNAL_SKIP
  ⟨0x440, 9, 0x4, .c, .const 0x0, 0xFFFFFFFF, [], [], 1⟩]  -- ING_TRIP_COUNT

/-- Page ING. -/
def regsIng : List RegDesc := regsIng0 ++ regsIng1 ++ regsIng2

/-- Page EPC. -/
def regsEpc0 : List RegDesc := [
  ⟨0x100, 1, 0x4, .s, .const 0x202, 0x11F07, [.epochBound], [{ hi := 2, lo := 0, min := 0, max := 4 }, { hi := 12, lo := 8, min := 1, max := 16 }], 1⟩,  -- EPC_EPOCH_CFG
  ⟨0x104, 1, 0x4, .s, .const 0x0, 0xFFFFFFFF, [.epochBound, .lo], [], 1⟩,  -- EPC_ORIGIN_LO
  ⟨0x108, 1, 0x4, .s, .const 0x0, 0xFFFFFFFF, [.epochBound, .hi], [], 1⟩,  -- EPC_ORIGIN_HI
  ⟨0x10C, 1, 0x4, .s, .const 0x0, 0xFF, [.epochBound], [], 1⟩,  -- EPC_SIGN_SLOT
  ⟨0x110, 1, 0x4, .s, .const 0x0, 0xFFFFFFFF, [], [], 1⟩,  -- EPC_SITE_ID
  ⟨0x114, 1, 0x4, .s, .const 0x708, 0xFFFFFFFF, [], [{ hi := 31, lo := 0, min := 0, max := 86400 }], 1⟩,  -- EPC_EXTRAP_MAX
  ⟨0x118, 1, 0x4, .s, .const 0x186A0, 0xFFFFFFFF, [], [{ hi := 31, lo := 0, min := 1, max := 4000000 }], 1⟩,  -- EPC_TUNC_MAX
  ⟨0x11C, 1, 0x4, .s, .const 0x10000, 0xFFFFFFFF, [], [{ hi := 31, lo := 0, min := 0, max := 262144 }], 1⟩,  -- EPC_INTERP_K
  ⟨0x120, 1, 0x4, .s, .const 0xB40, 0xFFFFFFFF, [], [{ hi := 31, lo := 0, min := 1, max := 65535 }], 1⟩,  -- EPC_AMEND_HORIZON
  ⟨0x124, 1, 0x4, .s, .const 0x1F4, 0xFFFFFFFF, [], [{ hi := 31, lo := 0, min := 10, max := 10000 }], 1⟩,  -- EPC_FENCE_MAX
  ⟨0x128, 1, 0x4, .s, .const 0x0, 0x3FFFFFF, [.quiesce], [], 1⟩,  -- EPC_WORK_CAP
  ⟨0x12C, 1, 0x4, .s, .const 0x0, 0x7FFFFFF, [.quiesce], [], 1⟩,  -- EPC_SET_CAP
  ⟨0x130, 1, 0x4, .s, .const 0x0, 0xFFFFFFFF, [.quiesce, .lo], [], 4096⟩,  -- EPC_WORK_BASE_LO
  ⟨0x134, 1, 0x4, .s, .const 0x0, 0xFFFFFFFF, [.quiesce, .hi], [], 1⟩,  -- EPC_WORK_BASE_HI
  ⟨0x138, 1, 0x4, .s, .const 0x0, 0xFFFFFFFF, [.quiesce, .lo], [], 4096⟩,  -- EPC_SET0_BASE_LO
  ⟨0x13C, 1, 0x4, .s, .const 0x0, 0xFFFFFFFF, [.quiesce, .hi], [], 1⟩,  -- EPC_SET0_BASE_HI
  ⟨0x140, 1, 0x4, .s, .const 0x0, 0xFFFFFFFF, [.quiesce, .lo], [], 4096⟩,  -- EPC_SET1_BASE_LO
  ⟨0x144, 1, 0x4, .s, .const 0x0, 0xFFFFFFFF, [.quiesce, .hi], [], 1⟩,  -- EPC_SET1_BASE_HI
  ⟨0x150, 1, 0x4, .s, .const 0x0, 0xFFFFFFFF, [.lo], [], 256⟩,  -- EPC_EXP_BASE_LO
  ⟨0x154, 1, 0x4, .s, .const 0x0, 0xFFFFFFFF, [.hi], [], 1⟩,  -- EPC_EXP_BASE_HI
  ⟨0x158, 1, 0x4, .s, .const 0x0, 0x1F, [.quiesceCond], [{ hi := 4, lo := 0, min := 4, max := 16, zeroOk := true }], 1⟩,  -- EPC_EXP_CFG
  ⟨0x15C, 1, 0x4, .r, .const 0x0, 0xFFFFFFFF, [], [], 1⟩,  -- EPC_EXP_PROD
  ⟨0x160, 1, 0x4, .l, .const 0x0, 0xFFFFFFFF, [], [], 1⟩,  -- EPC_EXP_CONS
  ⟨0x164, 1, 0x4, .r, .const 0x0, 0xFFFFFFFF, [], [], 1⟩]  -- EPC_EXP_COUNT

/-- Page EPC. -/
def regsEpc1 : List RegDesc := [
  ⟨0x180, 1, 0x4, .r, .hw, 0xFFFFFFFF, [.lo], [], 1⟩,  -- EPC_NEXT_BOUNDARY_LO
  ⟨0x184, 1, 0x4, .r, .hw, 0xFFFFFFFF, [.hi], [], 1⟩,  -- EPC_NEXT_BOUNDARY_HI
  ⟨0x188, 1, 0x4, .r, .hw, 0xFFFFFFFF, [.lo], [], 1⟩,  -- EPC_EPOCH_NO_LO
  ⟨0x18C, 1, 0x4, .r, .hw, 0xFFFFFFFF, [.hi], [], 1⟩,  -- EPC_EPOCH_NO_HI
  ⟨0x190, 1, 0x4, .r, .hw, 0xFFFFFFFF, [.lo], [], 1⟩,  -- EPC_SEALED_NO_LO
  ⟨0x194, 1, 0x4, .r, .hw, 0xFFFFFFFF, [.hi], [], 1⟩,  -- EPC_SEALED_NO_HI
  ⟨0x198, 1, 0x4, .r, .hw, 0xFFFFFFFF, [.lo], [], 1⟩,  -- EPC_SEAL_SEQ_LO
  ⟨0x19C, 1, 0x4, .r, .hw, 0xFFFFFFFF, [.hi], [], 1⟩,  -- EPC_SEAL_SEQ_HI
  ⟨0x1A0, 1, 0x4, .r, .const 0x0, 0xFFFFFFFF, [.lo], [], 1⟩,  -- EPC_LIVE_SEQ_LO
  ⟨0x1A4, 1, 0x4, .r, .const 0x0, 0xFFFFFFFF, [.hi], [], 1⟩,  -- EPC_LIVE_SEQ_HI
  ⟨0x1A8, 1, 0x4, .l, .const 0x0, 0x1, [], [], 1⟩,  -- EPC_LIVE_FENCE
  ⟨0x1AC, 1, 0x4, .r, .const 0x0, 0x3, [], [], 1⟩,  -- EPC_VIEW_STAT
  ⟨0x1B0, 1, 0x4, .r, .const 0x0, 0xFFFFFFFF, [.lo], [], 1⟩,  -- EPC_SET_EPOCH0_LO
  ⟨0x1B4, 1, 0x4, .r, .const 0x0, 0xFFFFFFFF, [.hi], [], 1⟩,  -- EPC_SET_EPOCH0_HI
  ⟨0x1B8, 1, 0x4, .r, .const 0x0, 0xFFFFFFFF, [.lo], [], 1⟩,  -- EPC_SET_EPOCH1_LO
  ⟨0x1BC, 1, 0x4, .r, .const 0x0, 0xFFFFFFFF, [.hi], [], 1⟩,  -- EPC_SET_EPOCH1_HI
  ⟨0x1C0, 1, 0x4, .r, .const 0x0, 0xFF07, [], [], 1⟩,  -- EPC_SEAL_STATE
  ⟨0x1C4, 8, 0x4, .r, .const 0x0, 0xFFFFFFFF, [], [], 1⟩,  -- EPC_LAST_ROOT
  ⟨0x200, 1, 0x4, .c, .const 0x0, 0xFFFFFFFF, [], [], 1⟩,  -- EPC_SEAL_COUNT
  ⟨0x204, 1, 0x4, .c, .const 0x0, 0xFFFFFFFF, [], [], 1⟩,  -- EPC_AMEND_COUNT
  ⟨0x208, 1, 0x4, .c, .const 0x0, 0xFFFFFFFF, [], [], 1⟩,  -- EPC_AMEND_REFUSED
  ⟨0x20C, 1, 0x4, .c, .const 0x0, 0xFFFFFFFF, [], [], 1⟩,  -- EPC_ESTIMATED_COUNT
  ⟨0x210, 1, 0x4, .r, .const 0x0, 0x3FFFFFF, [], [], 1⟩,  -- EPC_UNCOVERED
  ⟨0x214, 1, 0x4, .r, .const 0x0, 0xFFFFFFFF, [], [], 1⟩]  -- EPC_SEAL_LAT_MS

/-- Page EPC. -/
def regsEpc2 : List RegDesc := [
  ⟨0x218, 1, 0x4, .c, .const 0x0, 0xFFFFFFFF, [], [], 1⟩]  -- EPC_STEP_FIRED

/-- Page EPC. -/
def regsEpc : List RegDesc := regsEpc0 ++ regsEpc1 ++ regsEpc2

/-- Page TRF. -/
def regsTrf0 : List RegDesc := [
  ⟨0x100, 1, 0x4, .s, .const 0x0, 0x3, [], [], 1⟩,  -- TRF_CFG
  ⟨0x104, 1, 0x4, .s, .const 0x0, 0xFFFFFFFF, [.lo], [], 8192⟩,  -- TRF_SCHED_BASE_LO
  ⟨0x108, 1, 0x4, .s, .const 0x0, 0xFFFFFFFF, [.hi], [], 1⟩,  -- TRF_SCHED_BASE_HI
  ⟨0x10C, 1, 0x4, .s, .const 0x0, 0xFFFFFFFF, [.lo], [], 1⟩,  -- TRF_UTC_BASE_LO
  ⟨0x110, 1, 0x4, .s, .const 0x0, 0xFFFFFFFF, [.hi], [], 1⟩,  -- TRF_UTC_BASE_HI
  ⟨0x114, 1, 0x4, .s, .const 0x15180, 0xFFFFFFFF, [], [{ hi := 31, lo := 0, min := 60, max := 2678400 }], 1⟩,  -- TRF_SPLIT_MAX
  ⟨0x118, 1, 0x4, .s, .const 0x0, 0xFFFFFFFF, [.quiesceCond, .lo], [], 4096⟩,  -- TRF_CLOSE_BASE_LO
  ⟨0x11C, 1, 0x4, .s, .const 0x0, 0xFFFFFFFF, [.quiesceCond, .hi], [], 1⟩,  -- TRF_CLOSE_BASE_HI
  ⟨0x120, 1, 0x4, .l, .const 0x0, 0xFFFFFFFF, [.lo], [], 1⟩,  -- TRF_TBL_ADDR_LO
  ⟨0x124, 1, 0x4, .l, .const 0x0, 0xFFFFFFFF, [.hi], [], 1⟩,  -- TRF_TBL_ADDR_HI
  ⟨0x128, 1, 0x4, .l, .const 0x0, 0x0, [], [], 1⟩,  -- TRF_TBL_CMD
  ⟨0x12C, 1, 0x4, .r, .const 0x0, 0xFFFFFF0F, [], [], 1⟩,  -- TRF_TBL_STAT
  ⟨0x130, 1, 0x4, .r, .const 0x0, 0xFFFFFFFF, [.lo], [], 1⟩,  -- TRF_TBL_OK_LO
  ⟨0x134, 1, 0x4, .r, .const 0x0, 0xFFFFFFFF, [.hi], [], 1⟩,  -- TRF_TBL_OK_HI
  ⟨0x180, 8, 0x4, .w1c, .const 0x0, 0xFFFFFFFF, [], [], 1⟩,  -- TRF_SWITCH_MAP
  ⟨0x1A0, 1, 0x4, .r, .hw, 0xFFFFFFFF, [.lo], [], 1⟩,  -- TRF_NEXT_SWITCH_LO
  ⟨0x1A4, 1, 0x4, .r, .hw, 0xFFFFFFFF, [.hi], [], 1⟩,  -- TRF_NEXT_SWITCH_HI
  ⟨0x1A8, 1, 0x4, .r, .hw, 0xFFFFFFFF, [.lo], [], 1⟩,  -- TRF_NEXT_DEMAND_LO
  ⟨0x1AC, 1, 0x4, .r, .hw, 0xFFFFFFFF, [.hi], [], 1⟩,  -- TRF_NEXT_DEMAND_HI
  ⟨0x1B0, 1, 0x4, .r, .const 0x0, 0xFFFFFFFF, [.lo], [], 1⟩,  -- TRF_PEND_CLOSE_LO
  ⟨0x1B4, 1, 0x4, .r, .const 0x0, 0xFFFFFFFF, [.hi], [], 1⟩,  -- TRF_PEND_CLOSE_HI
  ⟨0x1B8, 1, 0x4, .r, .const 0x0, 0xFFFFFFFF, [.lo], [], 1⟩,  -- TRF_LAST_CLOSE_LO
  ⟨0x1BC, 1, 0x4, .r, .const 0x0, 0xFFFFFFFF, [.hi], [], 1⟩,  -- TRF_LAST_CLOSE_HI
  ⟨0x200, 1, 0x4, .c, .const 0x0, 0xFFFFFFFF, [], [], 1⟩]  -- TRF_SPLIT_COUNT

/-- Page TRF. -/
def regsTrf1 : List RegDesc := [
  ⟨0x204, 1, 0x4, .c, .const 0x0, 0xFFFFFFFF, [], [], 1⟩,  -- TRF_DEFAULT_COUNT
  ⟨0x208, 1, 0x4, .c, .const 0x0, 0xFFFFFFFF, [], [], 1⟩,  -- TRF_LONG_COUNT
  ⟨0x20C, 1, 0x4, .c, .const 0x0, 0xFFFFFFFF, [], [], 1⟩,  -- TRF_INVERT_COUNT
  ⟨0x210, 1, 0x4, .c, .const 0x0, 0xFFFFFFFF, [], [], 1⟩,  -- TRF_RESPLIT_COUNT
  ⟨0x214, 1, 0x4, .c, .const 0x0, 0xFFFFFFFF, [], [], 1⟩,  -- TRF_BACKFILL_SKIP
  ⟨0x218, 1, 0x4, .c, .const 0x0, 0xFFFFFFFF, [], [], 1⟩,  -- TRF_DEM_LATE
  ⟨0x21C, 1, 0x4, .c, .const 0x0, 0xFFFFFFFF, [], [], 1⟩,  -- TRF_CLOSE_DEFER
  ⟨0x220, 1, 0x4, .c, .const 0x0, 0xFFFFFFFF, [], [], 1⟩,  -- TRF_NOSCHEME_COUNT
  ⟨0x224, 1, 0x4, .c, .const 0x0, 0xFFFFFFFF, [], [], 1⟩]  -- TRF_SAT_COUNT

/-- Page TRF. -/
def regsTrf : List RegDesc := regsTrf0 ++ regsTrf1

/-- Page OBJ. -/
def regsObj0 : List RegDesc := [
  ⟨0x100, 1, 0x4, .s, .const 0x0, 0x1, [], [], 1⟩,  -- OBJ_CFG
  ⟨0x104, 1, 0x4, .s, .const 0x7F, 0xFFFF, [], [], 1⟩,  -- OBJ_ROLE_EN
  ⟨0x108, 1, 0x4, .s, .const 0x0, 0xFFFFFFFF, [.lo], [], 1024⟩,  -- OBJ_RIGHTS_BASE_LO
  ⟨0x10C, 1, 0x4, .s, .const 0x0, 0xFFFFFFFF, [.hi], [], 1⟩,  -- OBJ_RIGHTS_BASE_HI
  ⟨0x110, 1, 0x4, .s, .const 0x0, 0xFFFFFFFF, [.lo], [], 64⟩,  -- OBJ_USER_BASE_LO
  ⟨0x114, 1, 0x4, .s, .const 0x0, 0xFFFFFFFF, [.hi], [], 1⟩,  -- OBJ_USER_BASE_HI
  ⟨0x118, 1, 0x4, .s, .const 0x0, 0xFFFFFFFF, [.quiesceCond, .lo], [], 64⟩,  -- OBJ_REQ_BASE_LO
  ⟨0x11C, 1, 0x4, .s, .const 0x0, 0xFFFFFFFF, [.quiesceCond, .hi], [], 1⟩,  -- OBJ_REQ_BASE_HI
  ⟨0x120, 1, 0x4, .s, .const 0x0, 0x1F, [.quiesceCond], [{ hi := 4, lo := 0, min := 4, max := 16, zeroOk := true }], 1⟩,  -- OBJ_REQ_CFG
  ⟨0x124, 1, 0x4, .l, .const 0x0, 0xFFFFFFFF, [.sysWrite], [], 1⟩,  -- OBJ_REQ_PROD
  ⟨0x128, 1, 0x4, .r, .const 0x0, 0xFFFFFFFF, [], [], 1⟩,  -- OBJ_REQ_CONS
  ⟨0x12C, 1, 0x4, .r, .const 0x0, 0xFFFFFFFF, [], [], 1⟩,  -- OBJ_REQ_COUNT
  ⟨0x130, 1, 0x4, .s, .const 0x0, 0xFFFFFFFF, [.quiesceCond, .lo], [], 32⟩,  -- OBJ_RSP_BASE_LO
  ⟨0x134, 1, 0x4, .s, .const 0x0, 0xFFFFFFFF, [.quiesceCond, .hi], [], 1⟩,  -- OBJ_RSP_BASE_HI
  ⟨0x138, 1, 0x4, .s, .const 0x0, 0x1F, [.quiesceCond], [{ hi := 4, lo := 0, min := 4, max := 16, zeroOk := true }], 1⟩,  -- OBJ_RSP_CFG
  ⟨0x13C, 1, 0x4, .r, .const 0x0, 0xFFFFFFFF, [], [], 1⟩,  -- OBJ_RSP_PROD
  ⟨0x140, 1, 0x4, .l, .const 0x0, 0xFFFFFFFF, [], [], 1⟩,  -- OBJ_RSP_CONS
  ⟨0x144, 1, 0x4, .r, .const 0x0, 0xFFFFFFFF, [], [], 1⟩,  -- OBJ_RSP_COUNT
  ⟨0x148, 1, 0x4, .s, .const 0x0, 0xFFFFFFFF, [.quiesceCond, .lo], [], 32⟩,  -- OBJ_AUD_BASE_LO
  ⟨0x14C, 1, 0x4, .s, .const 0x0, 0xFFFFFFFF, [.quiesceCond, .hi], [], 1⟩,  -- OBJ_AUD_BASE_HI
  ⟨0x150, 1, 0x4, .s, .const 0x0, 0x1F, [.quiesceCond], [{ hi := 4, lo := 0, min := 4, max := 20, zeroOk := true }], 1⟩,  -- OBJ_AUD_CFG
  ⟨0x154, 1, 0x4, .r, .const 0x0, 0xFFFFFFFF, [], [], 1⟩,  -- OBJ_AUD_PROD
  ⟨0x158, 1, 0x4, .l, .const 0x0, 0xFFFFFFFF, [], [], 1⟩,  -- OBJ_AUD_CONS
  ⟨0x15C, 1, 0x4, .r, .const 0x0, 0xFFFFFFFF, [], [], 1⟩]  -- OBJ_AUD_COUNT

/-- Page OBJ. -/
def regsObj1 : List RegDesc := [
  ⟨0x160, 1, 0x4, .l, .const 0x0, 0xFFFFFFFF, [.lo], [], 1⟩,  -- OBJ_TBL_ADDR_LO
  ⟨0x164, 1, 0x4, .l, .const 0x0, 0xFFFFFFFF, [.hi], [], 1⟩,  -- OBJ_TBL_ADDR_HI
  ⟨0x168, 1, 0x4, .l, .const 0x0, 0x0, [], [], 1⟩,  -- OBJ_TBL_CMD
  ⟨0x16C, 1, 0x4, .r, .const 0x0, 0x3FFF7, [], [], 1⟩,  -- OBJ_TBL_STAT
  ⟨0x170, 1, 0x4, .r, .const 0x0, 0xFFFFFFFF, [.lo], [], 1⟩,  -- OBJ_TBL_OK_LO
  ⟨0x174, 1, 0x4, .r, .const 0x0, 0xFFFFFFFF, [.hi], [], 1⟩,  -- OBJ_TBL_OK_HI
  ⟨0x180, 1, 0x4, .r, .const 0x0, 0x3FFFF, [], [], 1⟩,  -- OBJ_DENY_LAST
  ⟨0x184, 1, 0x4, .r, .const 0x0, 0xFFFF, [], [], 1⟩,  -- OBJ_DENY_SESSION
  ⟨0x200, 16, 0x8, .c, .const 0x0, 0xFFFFFFFF, [], [], 1⟩,  -- OBJ_GRANT_COUNT
  ⟨0x204, 16, 0x8, .c, .const 0x0, 0xFFFFFFFF, [], [], 1⟩,  -- OBJ_DENY_COUNT
  ⟨0x280, 1, 0x4, .c, .const 0x0, 0xFFFFFFFF, [], [], 1⟩,  -- OBJ_RETRY_COUNT
  ⟨0x284, 1, 0x4, .c, .const 0x0, 0xFFFFFFFF, [], [], 1⟩]  -- OBJ_UNAVAIL_COUNT

/-- Page OBJ. -/
def regsObj : List RegDesc := regsObj0 ++ regsObj1

/-- Page BAL. -/
def regsBal0 : List RegDesc := [
  ⟨0x100, 1, 0x4, .s, .const 0x0, 0x3, [], [], 1⟩,  -- BAL_CFG
  ⟨0x104, 1, 0x4, .s, .const 0x0, 0xFFFFFFFF, [.epochBound, .lo], [], 4096⟩,  -- BAL_TBL_BASE_LO
  ⟨0x108, 1, 0x4, .s, .const 0x0, 0xFFFFFFFF, [.epochBound, .hi], [], 1⟩,  -- BAL_TBL_BASE_HI
  ⟨0x10C, 1, 0x4, .s, .const 0x0, 0xFFFFFFF, [.epochBound], [{ hi := 27, lo := 0, min := 0, max := 134217728 }], 1⟩,  -- BAL_MEMBER_CAP
  ⟨0x110, 1, 0x4, .s, .const 0x78, 0xFFFFFFFF, [], [{ hi := 31, lo := 0, min := 10, max := 600 }], 1⟩,  -- BAL_FAST_LAG
  ⟨0x114, 1, 0x4, .s, .const 0x60, 0xFFFFFFFF, [], [{ hi := 31, lo := 0, min := 1, max := 2880 }], 1⟩,  -- BAL_BRIDGE_MAX
  ⟨0x118, 1, 0x4, .s, .const 0x0, 0xFFFFFFFF, [.quiesce, .lo], [], 4096⟩,  -- BAL_STATE_BASE_LO
  ⟨0x11C, 1, 0x4, .s, .const 0x0, 0xFFFFFFFF, [.quiesce, .hi], [], 1⟩,  -- BAL_STATE_BASE_HI
  ⟨0x120, 1, 0x4, .s, .const 0x0, 0xFFFFFFFF, [.quiesceCond, .lo], [], 64⟩,  -- BAL_SAMP_BASE_LO
  ⟨0x124, 1, 0x4, .s, .const 0x0, 0xFFFFFFFF, [.quiesceCond, .hi], [], 1⟩,  -- BAL_SAMP_BASE_HI
  ⟨0x128, 1, 0x4, .s, .const 0x0, 0x1F, [.quiesceCond], [{ hi := 4, lo := 0, min := 4, max := 20, zeroOk := true }], 1⟩,  -- BAL_SAMP_CFG
  ⟨0x12C, 1, 0x4, .l, .const 0x0, 0xFFFFFFFF, [], [], 1⟩,  -- BAL_SAMP_PROD
  ⟨0x130, 1, 0x4, .r, .const 0x0, 0xFFFFFFFF, [], [], 1⟩,  -- BAL_SAMP_CONS
  ⟨0x134, 1, 0x4, .r, .const 0x0, 0xFFFFFFFF, [], [], 1⟩,  -- BAL_SAMP_COUNT
  ⟨0x138, 1, 0x4, .s, .const 0x0, 0xFFFFFFFF, [.quiesceCond, .lo], [], 64⟩,  -- BAL_SUSP_BASE_LO
  ⟨0x13C, 1, 0x4, .s, .const 0x0, 0xFFFFFFFF, [.quiesceCond, .hi], [], 1⟩,  -- BAL_SUSP_BASE_HI
  ⟨0x140, 1, 0x4, .s, .const 0x0, 0x1F, [.quiesceCond], [{ hi := 4, lo := 0, min := 4, max := 16, zeroOk := true }], 1⟩,  -- BAL_SUSP_CFG
  ⟨0x144, 1, 0x4, .r, .const 0x0, 0xFFFFFFFF, [], [], 1⟩,  -- BAL_SUSP_PROD
  ⟨0x148, 1, 0x4, .l, .const 0x0, 0xFFFFFFFF, [], [], 1⟩,  -- BAL_SUSP_CONS
  ⟨0x14C, 1, 0x4, .r, .const 0x0, 0xFFFFFFFF, [], [], 1⟩,  -- BAL_SUSP_COUNT
  ⟨0x150, 1, 0x4, .l, .const 0x0, 0xFFFFFFFF, [.lo], [], 1⟩,  -- BAL_TBL_ADDR_LO
  ⟨0x154, 1, 0x4, .l, .const 0x0, 0xFFFFFFFF, [.hi], [], 1⟩,  -- BAL_TBL_ADDR_HI
  ⟨0x158, 1, 0x4, .l, .const 0x0, 0xFFFFFFF, [], [], 1⟩,  -- BAL_TBL_CAPV
  ⟨0x15C, 1, 0x4, .l, .const 0x0, 0x0, [], [], 1⟩]  -- BAL_TBL_CMD

/-- Page BAL. -/
def regsBal1 : List RegDesc := [
  ⟨0x160, 1, 0x4, .r, .const 0x0, 0x3F, [], [], 1⟩,  -- BAL_TBL_STAT
  ⟨0x164, 1, 0x4, .r, .const 0x0, 0x7FFFFFF, [], [], 1⟩,  -- BAL_TBL_FAIL
  ⟨0x168, 1, 0x4, .r, .const 0x0, 0xFFFFFFFF, [.lo], [], 1⟩,  -- BAL_TBL_OK_LO
  ⟨0x16C, 1, 0x4, .r, .const 0x0, 0xFFFFFFFF, [.hi], [], 1⟩,  -- BAL_TBL_OK_HI
  ⟨0x170, 1, 0x4, .r, .const 0x0, 0xFFFFFFFF, [], [], 1⟩,  -- BAL_TBL_OK_CAP
  ⟨0x180, 1, 0x4, .l, .const 0x0, 0x0, [], [], 1⟩,  -- BAL_ACK
  ⟨0x184, 1, 0x4, .r, .const 0x0, 0xFFFFFFFF, [.lo], [], 1⟩,  -- BAL_FAST_LAST_LO
  ⟨0x188, 1, 0x4, .r, .const 0x0, 0xFFFFFFFF, [.hi], [], 1⟩,  -- BAL_FAST_LAST_HI
  ⟨0x18C, 1, 0x4, .r, .const 0x0, 0xFFFFFFFF, [.lo], [], 1⟩,  -- BAL_EPOCH_LAST_LO
  ⟨0x190, 1, 0x4, .r, .const 0x0, 0xFFFFFFFF, [.hi], [], 1⟩,  -- BAL_EPOCH_LAST_HI
  ⟨0x194, 1, 0x4, .r, .const 0x0, 0xFFFFFFFF, [], [], 1⟩,  -- BAL_SUSP_SEQ
  ⟨0x198, 1, 0x4, .r, .const 0x0, 0xFFFFFFFF, [], [], 1⟩,  -- BAL_PASS_US
  ⟨0x200, 1, 0x4, .c, .const 0x0, 0xFFFFFFFF, [], [], 1⟩,  -- BAL_EPOCH_COUNT
  ⟨0x204, 1, 0x4, .c, .const 0x0, 0xFFFFFFFF, [], [], 1⟩,  -- BAL_FAST_COUNT
  ⟨0x208, 1, 0x4, .c, .const 0x0, 0xFFFFFFFF, [], [], 1⟩,  -- BAL_INCOMPLETE_COUNT
  ⟨0x20C, 1, 0x4, .c, .const 0x0, 0xFFFFFFFF, [], [], 1⟩,  -- BAL_SUSPECT_COUNT
  ⟨0x210, 1, 0x4, .c, .const 0x0, 0xFFFFFFFF, [], [], 1⟩,  -- BAL_FAST_SKIP
  ⟨0x214, 1, 0x4, .c, .const 0x0, 0xFFFFFFFF, [], [], 1⟩,  -- BAL_SAMPLE_DROP
  ⟨0x218, 1, 0x4, .c, .const 0x0, 0xFFFFFFFF, [], [], 1⟩,  -- BAL_SAMPLE_LATE
  ⟨0x21C, 1, 0x4, .c, .const 0x0, 0xFFFFFFFF, [], [], 1⟩,  -- BAL_AMEND_COUNT
  ⟨0x220, 1, 0x4, .c, .const 0x0, 0xFFFFFFFF, [], [], 1⟩]  -- BAL_REBASE_COUNT

/-- Page BAL. -/
def regsBal : List RegDesc := regsBal0 ++ regsBal1

/-- Page DST. -/
def regsDst0 : List RegDesc := [
  ⟨0x100, 1, 0x4, .s, .const 0x0, 0x3FFFF03, [], [], 1⟩,  -- DST_CFG
  ⟨0x104, 1, 0x4, .s, .const 0x14, 0xFFFFFFFF, [], [{ hi := 31, lo := 0, min := 1, max := 200 }], 1⟩,  -- DST_RATE_RAD
  ⟨0x108, 1, 0x4, .s, .const 0x5, 0xFFFFFFFF, [], [{ hi := 31, lo := 0, min := 1, max := 100 }], 1⟩,  -- DST_RATE_PLC
  ⟨0x10C, 1, 0x4, .s, .const 0x1002, 0xFF0F, [], [{ hi := 3, lo := 0, min := 0, max := 8 }, { hi := 15, lo := 8, min := 1, max := 64 }], 1⟩,  -- DST_ROUNDS
  ⟨0x110, 1, 0x4, .s, .const 0xE10, 0xFFFFFFFF, [], [{ hi := 31, lo := 0, min := 60, max := 86400 }], 1⟩,  -- DST_ACT_WAIT
  ⟨0x140, 16, 0x4, .s, .const 0x0, 0xFFFFFFFF, [.secOnly], [], 1⟩,  -- DST_PUBKEY
  ⟨0x180, 1, 0x4, .w1c, .const 0x0, 0xFF, [], [], 1⟩,  -- DST_DONE_MAP
  ⟨0x200, 8, 0x40, .l, .const 0x0, 0xFFFFFFFF, [.lo], [], 1⟩,  -- DST_C_IMG_LO
  ⟨0x204, 8, 0x40, .l, .const 0x0, 0xFFFFFFFF, [.hi], [], 1⟩,  -- DST_C_IMG_HI
  ⟨0x208, 8, 0x40, .l, .const 0x0, 0xFFFFFFFF, [.lo], [], 1⟩,  -- DST_C_TGT_LO
  ⟨0x20C, 8, 0x40, .l, .const 0x0, 0xFFFFFFFF, [.hi], [], 1⟩,  -- DST_C_TGT_HI
  ⟨0x210, 8, 0x40, .l, .const 0x0, 0x1FFFF, [], [], 1⟩,  -- DST_C_TGT_COUNT
  ⟨0x214, 8, 0x40, .l, .const 0x0, 0xFFFF, [], [], 1⟩,  -- DST_C_REGION
  ⟨0x218, 8, 0x40, .l, .const 0x0, 0xFFFFFFFF, [.lo], [], 1⟩,  -- DST_C_DEADLINE_LO
  ⟨0x21C, 8, 0x40, .l, .const 0x0, 0xFFFFFFFF, [.hi], [], 1⟩,  -- DST_C_DEADLINE_HI
  ⟨0x220, 8, 0x40, .l, .const 0x0, 0x300, [], [], 1⟩,  -- DST_C_CTRL
  ⟨0x224, 8, 0x40, .r, .const 0x0, 0xFFFF80FF, [], [], 1⟩,  -- DST_C_STAT
  ⟨0x228, 8, 0x40, .l, .const 0x0, 0x1FFFF, [], [], 1⟩,  -- DST_C_FAIL_LIMIT
  ⟨0x22C, 8, 0x40, .r, .const 0x0, 0x1FFFF, [], [], 1⟩,  -- DST_C_COMPLETE
  ⟨0x230, 8, 0x40, .r, .const 0x0, 0x1FFFF, [], [], 1⟩,  -- DST_C_ACTIVE
  ⟨0x234, 8, 0x40, .r, .const 0x0, 0x1FFFF, [], [], 1⟩,  -- DST_C_FAILED
  ⟨0x238, 8, 0x40, .l, .const 0x0, 0xFFFFFFFF, [], [], 1⟩,  -- DST_C_TACT
  ⟨0x23C, 8, 0x40, .c, .const 0x0, 0xFFFFFFFF, [], [], 1⟩,  -- DST_C_SENT
  ⟨0x400, 1, 0x4, .c, .const 0x0, 0xFFFFFFFF, [], [], 1⟩]  -- DST_LEAVE_DENY

/-- Page DST. -/
def regsDst1 : List RegDesc := [
  ⟨0x404, 1, 0x4, .c, .const 0x0, 0xFFFFFFFF, [], [], 1⟩,  -- DST_REPORT_COUNT
  ⟨0x408, 1, 0x4, .c, .const 0x0, 0xFFFFFFFF, [], [], 1⟩,  -- DST_DIGEST_FAIL
  ⟨0x40C, 1, 0x4, .c, .const 0x0, 0xFFFFFFFF, [], [], 1⟩]  -- DST_SUPERSEDE_COUNT

/-- Page DST. -/
def regsDst : List RegDesc := regsDst0 ++ regsDst1

/-- Page KEY. -/
def regsKey0 : List RegDesc := [
  ⟨0x100, 1, 0x4, .s, .const 0xFF, 0xFF, [], [], 1⟩,  -- KEY_CFG
  ⟨0x104, 1, 0x4, .s, .const 0xFFFFFF, 0xFFFFFF, [], [], 1⟩,  -- KEY_LINK
  ⟨0x108, 1, 0x4, .s, .const 0x0, 0xFFFFFFFF, [.quiesce, .lo], [], 64⟩,  -- KEY_BLOB_BASE_LO
  ⟨0x10C, 1, 0x4, .s, .const 0x0, 0xFFFFFFFF, [.quiesce, .hi], [], 1⟩,  -- KEY_BLOB_BASE_HI
  ⟨0x110, 1, 0x4, .s, .const 0x0, 0x1FFFFF, [.quiesce], [{ hi := 20, lo := 0, min := 0, max := 1048576 }], 1⟩,  -- KEY_BLOB_COUNT
  ⟨0x140, 2, 0x20, .s, .const 0x0, 0xFFFFFFFF, [.ring0Sec, .lo], [], 64⟩,  -- KEY_JOB_BASE_LO
  ⟨0x144, 2, 0x20, .s, .const 0x0, 0xFFFFFFFF, [.ring0Sec, .hi], [], 1⟩,  -- KEY_JOB_BASE_HI
  ⟨0x148, 2, 0x20, .s, .const 0x0, 0x1F, [.quiesceCond, .ring0Sec], [{ hi := 4, lo := 0, min := 4, max := 16, zeroOk := true }], 1⟩,  -- KEY_JOB_CFG
  ⟨0x14C, 2, 0x20, .l, .const 0x0, 0xFFFFFFFF, [.ring0Sec], [], 1⟩,  -- KEY_JOB_PROD
  ⟨0x150, 2, 0x20, .r, .const 0x0, 0xFFFFFFFF, [.ring0Sec], [], 1⟩,  -- KEY_JOB_CONS
  ⟨0x154, 2, 0x20, .r, .const 0x0, 0xFFFFFFFF, [.ring0Sec], [], 1⟩,  -- KEY_JOB_COUNT
  ⟨0x180, 1, 0x4, .l, .const 0x0, 0xFF, [], [], 1⟩,  -- KEY_SLOT_SEL
  ⟨0x184, 1, 0x4, .r, .hw, 0xFFFFFFFF, [], [], 1⟩,  -- KEY_SLOT_ATTR
  ⟨0x188, 1, 0x4, .r, .hw, 0xFFFFFF, [], [], 1⟩,  -- KEY_SLOT_GEN
  ⟨0x18C, 1, 0x4, .r, .const 0x0, 0x1FF, [], [], 1⟩,  -- KEY_ORPHANED
  ⟨0x190, 1, 0x4, .r, .const 0x0, 0x7FFFFF, [], [], 1⟩,  -- KEY_VIOL_LAST
  ⟨0x194, 1, 0x4, .r, .const 0x0, 0x1FF3F, [], [], 1⟩,  -- KEY_LC_LAST
  ⟨0x198, 1, 0x4, .r, .hw, 0xFFFF0001, [], [], 1⟩,  -- KEY_RNG_STAT
  ⟨0x1A0, 4, 0x4, .l, .const 0x0, 0xFFFFFFFF, [], [], 1⟩,  -- KEY_L0_CHAL
  ⟨0x1B0, 1, 0x4, .l, .const 0x0, 0x0, [], [], 1⟩,  -- KEY_L0_CMD
  ⟨0x1B4, 1, 0x4, .r, .const 0x0, 0x7, [], [], 1⟩,  -- KEY_L0_STAT
  ⟨0x1B8, 4, 0x4, .r, .const 0x0, 0xFFFFFFFF, [], [], 1⟩,  -- KEY_L0_RESP
  ⟨0x200, 1, 0x4, .c, .const 0x0, 0xFFFFFFFF, [], [], 1⟩,  -- KEY_CACHE_HIT
  ⟨0x204, 1, 0x4, .c, .const 0x0, 0xFFFFFFFF, [], [], 1⟩]  -- KEY_CACHE_MISS

/-- Page KEY. -/
def regsKey1 : List RegDesc := [
  ⟨0x208, 1, 0x4, .c, .const 0x0, 0xFFFFFFFF, [], [], 1⟩,  -- KEY_UNWRAP_FAIL
  ⟨0x20C, 1, 0x4, .c, .const 0x0, 0xFFFFFFFF, [], [], 1⟩,  -- KEY_USE_VIOL
  ⟨0x210, 1, 0x4, .c, .const 0x0, 0xFFFFFFFF, [], [], 1⟩,  -- KEY_INVAL_COUNT
  ⟨0x214, 1, 0x4, .c, .const 0x0, 0xFFFFFFFF, [], [], 1⟩,  -- KEY_LINK_PREV
  ⟨0x218, 1, 0x4, .c, .const 0x0, 0xFFFFFFFF, [], [], 1⟩]  -- KEY_SIGN_COUNT

/-- Page KEY. -/
def regsKey : List RegDesc := regsKey0 ++ regsKey1

/-- Page REC. -/
def regsRec0 : List RegDesc := [
  ⟨0x100, 1, 0x4, .s, .const 0x13, 0x1F, [], [], 1⟩,  -- REC_CFG
  ⟨0x104, 1, 0x4, .s, .const 0x80, 0x3FF, [], [{ hi := 9, lo := 0, min := 0, max := 512 }], 1⟩,  -- REC_KEEP_MAX
  ⟨0x108, 1, 0x4, .s, .const 0x3C, 0xFFFFFFFF, [], [{ hi := 31, lo := 0, min := 1, max := 3600 }], 1⟩,  -- REC_HOLD
  ⟨0x10C, 1, 0x4, .s, .const 0x4FFFFCFF, 0xFFFFFFFF, [], [], 1⟩,  -- REC_EVT_MASK0
  ⟨0x110, 1, 0x4, .s, .const 0x53FEF9FD, 0xFFFFFFFF, [], [], 1⟩,  -- REC_EVT_MASK1
  ⟨0x114, 8, 0x4, .s, .const 0x33333333, 0x77777777, [], [], 1⟩,  -- REC_SEV
  ⟨0x180, 1, 0x4, .l, .const 0x0, 0x0, [], [], 1⟩,  -- REC_FW_CODE
  ⟨0x184, 4, 0x4, .l, .const 0x0, 0xFFFFFFFF, [], [], 1⟩,  -- REC_FW_DETAIL
  ⟨0x194, 4, 0x4, .l, .const 0x0, 0x0, [], [], 1⟩,  -- REC_FW_SAMPLE
  ⟨0x1B0, 1, 0x4, .l, .const 0x0, 0xFFFFFFFF, [], [], 1⟩,  -- REC_CURSOR
  ⟨0x1B4, 1, 0x4, .l, .const 0x0, 0x0, [], [], 1⟩,  -- REC_WIN_CMD
  ⟨0x1B8, 1, 0x4, .r, .const 0x0, 0x3F, [], [], 1⟩,  -- REC_WIN_STAT
  ⟨0x1BC, 1, 0x4, .r, .hw, 0xFFFFFFFF, [], [], 1⟩,  -- REC_OLDEST_SEQ
  ⟨0x1C0, 1, 0x4, .r, .hw, 0xFFFFFFFF, [], [], 1⟩,  -- REC_NEWEST_SEQ
  ⟨0x1C4, 1, 0x4, .l, .const 0x0, 0xFFFFFFFF, [], [], 1⟩,  -- REC_ACK_SEQ
  ⟨0x1C8, 1, 0x4, .l, .const 0x0, 0x0, [.secOnly], [], 1⟩,  -- REC_CLEAR
  ⟨0x1CC, 1, 0x4, .r, .const 0x0, 0x3FF, [], [], 1⟩,  -- REC_KEPT
  ⟨0x200, 1, 0x4, .c, .const 0x0, 0xFFFFFFFF, [], [], 1⟩,  -- REC_RECORDS
  ⟨0x204, 1, 0x4, .c, .const 0x0, 0xFFFFFFFF, [], [], 1⟩,  -- REC_LOST
  ⟨0x208, 1, 0x4, .c, .const 0x0, 0xFFFFFFFF, [], [], 1⟩,  -- REC_DROP
  ⟨0x20C, 1, 0x4, .c, .const 0x0, 0xFFFFFFFF, [], [], 1⟩,  -- REC_CHECK_FAIL_COUNT
  ⟨0x300, 16, 0x10, .s, .const 0x0, 0x73, [], [{ hi := 1, lo := 0, min := 0, max := 2 }], 1⟩,  -- REC_CH_CFG
  ⟨0x304, 16, 0x10, .s, .const 0x0, 0xFFFFFFFF, [], [], 1⟩,  -- REC_CH_LO
  ⟨0x308, 16, 0x10, .s, .const 0x1, 0xFFFFFFFF, [], [{ hi := 31, lo := 0, min := 1, max := 2147483647 }], 1⟩]  -- REC_CH_W

/-- Page REC. -/
def regsRec1 : List RegDesc := [
  ⟨0x400, 64, 0x4, .r, .const 0x0, 0xFFFFFFFF, [], [], 1⟩]  -- REC_WIN

/-- Page REC. -/
def regsRec : List RegDesc := regsRec0 ++ regsRec1

/-- Page RED. -/
def regsRed0 : List RegDesc := [
  ⟨0x100, 1, 0x4, .s, .const 0xC, 0xF, [], [], 1⟩,  -- RED_CTRL
  ⟨0x104, 1, 0x4, .s, .const 0x0, 0x3FF, [], [], 1⟩,  -- RED_PARTNER_STN
  ⟨0x108, 1, 0x4, .s, .const 0xA0A, 0xFFFF, [], [{ hi := 7, lo := 0, min := 5, max := 50 }, { hi := 15, lo := 8, min := 2, max := 100 }], 1⟩,  -- RED_HB
  ⟨0x10C, 1, 0x4, .s, .const 0x32, 0xFFFFFFFF, [], [{ hi := 31, lo := 0, min := 10, max := 10000 }], 1⟩,  -- RED_KICK_TO
  ⟨0x110, 1, 0x4, .s, .const 0x12C, 0xFFFFFFFF, [], [{ hi := 31, lo := 0, min := 100, max := 60000 }], 1⟩,  -- RED_JOIN_WAIT
  ⟨0x114, 1, 0x4, .s, .const 0xFFFF, 0xFFFF, [], [], 1⟩,  -- RED_KEY
  ⟨0x118, 1, 0x4, .s, .const 0x0, 0xFFFFFFFF, [.quiesceCond, .lo], [], 4096⟩,  -- RED_MIRROR_BASE_LO
  ⟨0x11C, 1, 0x4, .s, .const 0x0, 0xFFFFFFFF, [.quiesceCond, .hi], [], 1⟩,  -- RED_MIRROR_BASE_HI
  ⟨0x120, 1, 0x4, .s, .const 0x100, 0x1FFF, [], [{ hi := 12, lo := 0, min := 16, max := 4096 }], 1⟩,  -- RED_MIRROR_CFG
  ⟨0x124, 1, 0x4, .s, .const 0x1388, 0xFFFFFFFF, [], [{ hi := 31, lo := 0, min := 100, max := 60000 }], 1⟩,  -- RED_LAG_MAX
  ⟨0x128, 1, 0x4, .s, .const 0x2710, 0xFFFFFFFF, [], [{ hi := 31, lo := 0, min := 100, max := 100000 }], 1⟩,  -- RED_FINAL_MAX
  ⟨0x12C, 1, 0x4, .l, .const 0x0, 0xFFFFFFFF, [.sysSec, .lo], [], 1⟩,  -- RED_PARTNER_EUI_LO
  ⟨0x130, 1, 0x4, .l, .const 0x0, 0xFFFFFFFF, [.sysSec, .hi], [], 1⟩,  -- RED_PARTNER_EUI_HI
  ⟨0x180, 1, 0x4, .l, .const 0x0, 0x0, [], [], 1⟩,  -- RED_CMD
  ⟨0x184, 1, 0x4, .l, .const 0x0, 0x0, [], [], 1⟩,  -- RED_KICK
  ⟨0x188, 1, 0x4, .r, .const 0x0, 0x7FF, [], [], 1⟩,  -- RED_STATE
  ⟨0x18C, 1, 0x4, .r, .const 0x0, 0xF, [], [], 1⟩,  -- RED_MISMATCH_LAST
  ⟨0x190, 1, 0x4, .r, .const 0x0, 0xFFFFFFFF, [.lo], [], 1⟩,  -- RED_MISMATCH_EPOCH_LO
  ⟨0x194, 1, 0x4, .r, .const 0x0, 0xFFFFFFFF, [.hi], [], 1⟩,  -- RED_MISMATCH_EPOCH_HI
  ⟨0x198, 1, 0x4, .r, .const 0x0, 0xFFFFFFFF, [], [], 1⟩,  -- RED_MIRROR_LAG
  ⟨0x19C, 1, 0x4, .r, .const 0x0, 0xFFFFFFFF, [], [], 1⟩,  -- RED_RESYNC_LEFT
  ⟨0x1A0, 1, 0x4, .r, .const 0x0, 0xFFFFFFFF, [.lo], [], 1⟩,  -- RED_LAST_TAKEOVER_LO
  ⟨0x1A4, 1, 0x4, .r, .const 0x0, 0xFFFFFFFF, [.hi], [], 1⟩,  -- RED_LAST_TAKEOVER_HI
  ⟨0x200, 16, 0x10, .s, .const 0x0, 0xFFFFFFFF, [.lo], [], 4096⟩]  -- RED_REGION_BASE_LO

/-- Page RED. -/
def regsRed1 : List RegDesc := [
  ⟨0x204, 16, 0x10, .s, .const 0x0, 0xFFFFFFFF, [.hi], [], 1⟩,  -- RED_REGION_BASE_HI
  ⟨0x208, 16, 0x10, .s, .const 0x0, 0x7FFFFF, [], [], 1⟩,  -- RED_REGION_SIZE
  ⟨0x20C, 16, 0x10, .r, .const 0x0, 0x3, [], [], 1⟩,  -- RED_REGION_STAT
  ⟨0x300, 1, 0x4, .c, .const 0x0, 0xFFFFFFFF, [], [], 1⟩,  -- RED_TAKEOVER_COUNT
  ⟨0x304, 1, 0x4, .c, .const 0x0, 0xFFFFFFFF, [], [], 1⟩,  -- RED_MISMATCH_COUNT
  ⟨0x308, 1, 0x4, .c, .const 0x0, 0xFFFFFFFF, [], [], 1⟩,  -- RED_ISOLATED_COUNT
  ⟨0x30C, 1, 0x4, .c, .const 0x0, 0xFFFFFFFF, [], [], 1⟩,  -- RED_LINK_FAIL
  ⟨0x310, 1, 0x4, .c, .const 0x0, 0xFFFFFFFF, [], [], 1⟩,  -- RED_HB_CRC_ERR
  ⟨0x314, 1, 0x4, .c, .const 0x0, 0xFFFFFFFF, [], [], 1⟩]  -- RED_RESYNC_COUNT

/-- Page RED. -/
def regsRed : List RegDesc := regsRed0 ++ regsRed1

/-- Page DSP. -/
def regsDsp : List RegDesc := [
  ⟨0x100, 1, 0x4, .s, .const 0x0, 0x7F, [.boundary], [{ hi := 6, lo := 0, min := 0, max := 120 }], 1⟩,  -- DSP_RATE
  ⟨0x104, 1, 0x4, .s, .const 0x3080, 0x33FFF, [.boundary], [{ hi := 7, lo := 0, min := 16, max := 128 }, { hi := 13, lo := 8, min := 8, max := 48 }], 1⟩,  -- DSP_GEOM
  ⟨0x108, 1, 0x4, .s, .const 0x66, 0xFF, [.boundary], [], 1⟩,  -- DSP_ISEG
  ⟨0x10C, 1, 0x4, .s, .const 0x51E32, 0xFFFFF, [.boundary], [{ hi := 19, lo := 16, min := 1, max := 10 }], 1⟩,  -- DSP_PHASE
  ⟨0x110, 1, 0x4, .s, .const 0x0, 0xFFFFFFFF, [.boundary, .lo], [], 64⟩,  -- DSP_FB0_BASE_LO
  ⟨0x114, 1, 0x4, .s, .const 0x0, 0xFFFFFFFF, [.boundary, .hi], [], 1⟩,  -- DSP_FB0_BASE_HI
  ⟨0x118, 1, 0x4, .s, .const 0x0, 0xFFFFFFFF, [.boundary, .lo], [], 64⟩,  -- DSP_FB1_BASE_LO
  ⟨0x11C, 1, 0x4, .s, .const 0x0, 0xFFFFFFFF, [.boundary, .hi], [], 1⟩,  -- DSP_FB1_BASE_HI
  ⟨0x120, 1, 0x4, .l, .const 0x0, 0x1, [], [], 1⟩,  -- DSP_FB_SEL
  ⟨0x124, 1, 0x4, .l, .const 0x0, 0x0, [], [], 1⟩,  -- DSP_CMD
  ⟨0x140, 15, 0x4, .s, .grey, 0xFFF, [.boundary], [{ hi := 11, lo := 0, min := 1, max := 4095 }], 1⟩,  -- DSP_GREY
  ⟨0x180, 1, 0x4, .r, .const 0x0, 0x3F, [], [], 1⟩,  -- DSP_STAT
  ⟨0x184, 1, 0x4, .r, .const 0x0, 0xFFFFFFFF, [], [], 1⟩,  -- DSP_FRAME_NO
  ⟨0x188, 1, 0x4, .r, .const 0x0, 0xFFFF, [], [], 1⟩,  -- DSP_PMAX
  ⟨0x200, 1, 0x4, .c, .const 0x0, 0xFFFFFFFF, [], [], 1⟩,  -- DSP_FRAME_COUNT
  ⟨0x204, 1, 0x4, .c, .const 0x0, 0xFFFFFFFF, [], [], 1⟩,  -- DSP_FAULT_COUNT
  ⟨0x208, 1, 0x4, .c, .const 0x0, 0xFFFFFFFF, [], [], 1⟩]  -- DSP_DISCHARGE_COUNT

/-- Page MEM. -/
def regsMem : List RegDesc := [
  ⟨0x100, 1, 0x4, .s, .const 0x1801, 0xFF01, [], [{ hi := 15, lo := 8, min := 1, max := 255 }], 1⟩,  -- MEM_SCRUB
  ⟨0x104, 1, 0x4, .s, .const 0xE10, 0xFFFFFFFF, [], [{ hi := 31, lo := 0, min := 60, max := 86400 }], 1⟩,  -- MEM_SUMMARY_S
  ⟨0x180, 1, 0x4, .r, .const 0x0, 0xFFFFFFFF, [.lo], [], 1⟩,  -- MEM_UNCORR_ADDR_LO
  ⟨0x184, 1, 0x4, .r, .const 0x0, 0xFFFFFFFF, [.hi], [], 1⟩,  -- MEM_UNCORR_ADDR_HI
  ⟨0x200, 1, 0x4, .c, .const 0x0, 0xFFFFFFFF, [], [], 1⟩,  -- MEM_CORR_COUNT
  ⟨0x204, 1, 0x4, .c, .const 0x0, 0xFFFFFFFF, [], [], 1⟩]  -- MEM_UNCORR_COUNT

/-- Page NVS. -/
def regsNvs : List RegDesc := [
  ⟨0x100, 1, 0x4, .s, .const 0x0, 0xFFFFFFFF, [.quiesceCond, .lo], [], 1⟩,  -- NVS_SQ_BASE_LO
  ⟨0x104, 1, 0x4, .s, .const 0x0, 0xFFFFFFFF, [.quiesceCond, .hi], [], 1⟩,  -- NVS_SQ_BASE_HI
  ⟨0x108, 1, 0x4, .s, .const 0x0, 0xFFFFFFFF, [.quiesceCond, .lo], [], 1⟩,  -- NVS_CQ_BASE_LO
  ⟨0x10C, 1, 0x4, .s, .const 0x0, 0xFFFFFFFF, [.quiesceCond, .hi], [], 1⟩,  -- NVS_CQ_BASE_HI
  ⟨0x110, 1, 0x4, .s, .const 0x0, 0xFFFFFFFF, [.quiesceCond], [{ hi := 15, lo := 0, min := 2, max := 4096, zeroOk := true }], 1⟩,  -- NVS_Q_CFG
  ⟨0x114, 1, 0x4, .s, .const 0x0, 0xFFFFFFFF, [.quiesceCond], [], 1⟩,  -- NVS_DB_SQ
  ⟨0x118, 1, 0x4, .s, .const 0x0, 0xFFFFFFFF, [.quiesceCond], [], 1⟩,  -- NVS_DB_CQ
  ⟨0x11C, 1, 0x4, .s, .const 0x0, 0xFFFFFFFF, [.quiesceCond, .lo], [], 1⟩,  -- NVS_JRN_LBA_LO
  ⟨0x120, 1, 0x4, .s, .const 0x0, 0xFFFFFFFF, [.quiesceCond, .hi], [], 1⟩,  -- NVS_JRN_LBA_HI
  ⟨0x124, 1, 0x4, .s, .const 0x0, 0xFFFFFFFF, [.quiesceCond], [], 1⟩,  -- NVS_JRN_LEN
  ⟨0x128, 1, 0x4, .s, .const 0x0, 0xFFFFFFFF, [.quiesceCond, .lo], [], 1⟩,  -- NVS_ARC_LBA_LO
  ⟨0x12C, 1, 0x4, .s, .const 0x0, 0xFFFFFFFF, [.quiesceCond, .hi], [], 1⟩,  -- NVS_ARC_LBA_HI
  ⟨0x130, 1, 0x4, .s, .const 0x0, 0xFFFFFFFF, [.quiesceCond], [], 1⟩,  -- NVS_ARC_LEN
  ⟨0x134, 1, 0x4, .s, .const 0x3E8, 0xFFFFFFFF, [], [{ hi := 31, lo := 0, min := 10, max := 60000 }], 1⟩,  -- NVS_TMO
  ⟨0x180, 1, 0x4, .l, .const 0x0, 0xFFFFFFFF, [], [], 1⟩,  -- NVS_JRN_TAIL
  ⟨0x184, 1, 0x4, .r, .const 0x0, 0xFFFF0003, [], [], 1⟩]  -- NVS_STAT

/-- Page PCI. -/
def regsPci : List RegDesc := [
  ⟨0x100, 1, 0x4, .s, .const 0x3, 0x7, [], [{ hi := 2, lo := 1, min := 1, max := 3 }], 1⟩,  -- PCI_CFG
  ⟨0x180, 1, 0x4, .r, .const 0x0, 0x1F, [], [], 1⟩,  -- PCI_STAT
  ⟨0x184, 1, 0x4, .l, .const 0x0, 0xFFFFFFF, [], [], 1⟩,  -- PCI_CFG_ADDR
  ⟨0x188, 1, 0x4, .l, .hw, 0xFFFFFFFF, [], [], 1⟩,  -- PCI_CFG_DATA
  ⟨0x18C, 1, 0x4, .l, .const 0x0, 0xFFFFFFFF, [.lo], [], 1⟩,  -- PCI_MEM_ADDR_LO
  ⟨0x190, 1, 0x4, .l, .const 0x0, 0xFFFFFFFF, [.hi], [], 1⟩,  -- PCI_MEM_ADDR_HI
  ⟨0x194, 1, 0x4, .l, .hw, 0xFFFFFFFF, [], [], 1⟩]  -- PCI_MEM_DATA

/-- An entry of the per-queue register array (R175). -/
def regsQueue : List RegDesc := [
  ⟨0x0, 1, 0x4, .s, .const 0x0, 0x3FFFF, [], [{ hi := 17, lo := 0, min := 0, max := 131072 }], 1⟩,  -- QRY_Q_QUOTA
  ⟨0x4, 1, 0x4, .s, .const 0x0, 0x3FFFF, [], [], 1⟩,  -- QRY_Q_RESERVE
  ⟨0x8, 1, 0x4, .s, .const 0x0, 0xFF3, [], [], 1⟩,  -- QRY_Q_CFG
  ⟨0xC, 1, 0x4, .l, .const 0x0, 0x0, [], [], 1⟩,  -- QRY_Q_WR
  ⟨0x10, 1, 0x4, .l, .const 0x0, 0x3FF0000, [], [], 1⟩,  -- QRY_Q_CMD
  ⟨0x14, 1, 0x4, .r, .const 0x0, 0xFFFFFFFF, [], [], 1⟩,  -- QRY_Q_STAT
  ⟨0x18, 1, 0x4, .r, .const 0x0, 0xFFFFFFFF, [], [], 1⟩,  -- QRY_Q_COUNT
  ⟨0x1C, 1, 0x4, .r, .const 0x0, 0xFFFFFFFF, [], [], 1⟩,  -- QRY_Q_BYTES
  ⟨0x20, 8, 0x4, .r, .const 0x0, 0xFFFFFFFF, [], [], 1⟩]  -- QRY_Q_AP

/-- A lane entry with LINK = 1 (R197). -/
def regsLaneRadio : List RegDesc := [
  ⟨0x0, 1, 0x4, .s, .const 0x0, 0x1FF, [], [{ hi := 3, lo := 0, min := 0, max := 10 }], 1⟩,  -- LN_CFG
  ⟨0x4, 1, 0x4, .s, .const 0x0, 0xFFFFFFFF, [.lo], [], 1⟩,  -- LN_PEER_LO
  ⟨0x8, 1, 0x4, .s, .const 0x0, 0xFFFFFFFF, [.hi], [], 1⟩,  -- LN_PEER_HI
  ⟨0xC, 1, 0x4, .s, .const 0x10040, 0x1FF03FF, [.boundary], [{ hi := 9, lo := 0, min := 1, max := 1023 }, { hi := 24, lo := 16, min := 1, max := 320 }], 1⟩,  -- LN_CONN
  ⟨0x10, 1, 0x4, .s, .const 0x30, 0xFFFFFFFF, [], [], 1⟩,  -- LN_ANCHOR
  ⟨0x14, 1, 0x4, .s, .const 0x100, 0x7F7F, [], [{ hi := 14, lo := 8, min := 1, max := 127 }], 1⟩,  -- LN_HOP
  ⟨0x18, 4, 0x4, .s, .const 0x0, 0xFFFFFFFF, [.boundary], [], 1⟩,  -- LN_CHMAP
  ⟨0x28, 1, 0x4, .r, .const 0x0, 0xFFFF0003, [], [], 1⟩,  -- LN_STATE
  ⟨0x2C, 1, 0x4, .r, .const 0x0, 0xFFFFFFFF, [.lo], [], 1⟩,  -- LN_LAST_RX_LO
  ⟨0x30, 1, 0x4, .r, .const 0x0, 0xFFFFFFFF, [.hi], [], 1⟩,  -- LN_LAST_RX_HI
  ⟨0x34, 1, 0x4, .r, .const 0x0, 0xFFFF, [], [], 1⟩,  -- LN_LINK_Q
  ⟨0x38, 1, 0x4, .l, .const 0x0, 0x0, [], [], 1⟩,  -- LN_CMD
  ⟨0x40, 1, 0x4, .c, .const 0x0, 0xFFFFFFFF, [], [], 1⟩,  -- LN_TX_OK
  ⟨0x44, 1, 0x4, .c, .const 0x0, 0xFFFFFFFF, [], [], 1⟩,  -- LN_TX_FAIL
  ⟨0x48, 1, 0x4, .c, .const 0x0, 0xFFFFFFFF, [], [], 1⟩,  -- LN_RX_OK
  ⟨0x4C, 1, 0x4, .c, .const 0x0, 0xFFFFFFFF, [], [], 1⟩,  -- LN_SEC_REJECT
  ⟨0x50, 1, 0x4, .c, .const 0x0, 0xFFFFFFFF, [], [], 1⟩]  -- LN_EVT_SKIP

/-- A lane entry with LINK = 2 (R215). -/
def regsLanePlc : List RegDesc := [
  ⟨0x0, 1, 0x4, .s, .const 0x0, 0x1FF, [], [{ hi := 3, lo := 0, min := 0, max := 10 }], 1⟩,  -- LN_CFG
  ⟨0x4, 1, 0x4, .s, .const 0x0, 0xFFFFFFFF, [.lo], [], 1⟩,  -- LN_PEER_LO
  ⟨0x8, 1, 0x4, .s, .const 0x0, 0xFFFFFFFF, [.hi], [], 1⟩,  -- LN_PEER_HI
  ⟨0xC, 1, 0x4, .r, .const 0x0, 0xFFFFFFFF, [], [], 1⟩,  -- LN_PLC_TMAP_TX
  ⟨0x10, 1, 0x4, .r, .const 0x0, 0xFFFFFFFF, [], [], 1⟩,  -- LN_PLC_TMAP_RX
  ⟨0x14, 1, 0x4, .r, .const 0x0, 0xFFFF00F7, [], [], 1⟩,  -- LN_PLC_PHASE
  ⟨0x18, 1, 0x4, .r, .const 0x0, 0xFFFFFFFF, [.lo], [], 1⟩,  -- LN_PLC_TMAP_TIME_LO
  ⟨0x1C, 1, 0x4, .r, .const 0x0, 0xFFFFFFFF, [.hi], [], 1⟩,  -- LN_PLC_TMAP_TIME_HI
  ⟨0x2C, 1, 0x4, .r, .const 0x0, 0xFFFFFFFF, [.lo], [], 1⟩,  -- LN_LAST_RX_LO
  ⟨0x30, 1, 0x4, .r, .const 0x0, 0xFFFFFFFF, [.hi], [], 1⟩,  -- LN_LAST_RX_HI
  ⟨0x34, 1, 0x4, .r, .const 0x0, 0xFFFF, [], [], 1⟩,  -- LN_LINK_Q
  ⟨0x40, 1, 0x4, .c, .const 0x0, 0xFFFFFFFF, [], [], 1⟩,  -- LN_TX_OK
  ⟨0x44, 1, 0x4, .c, .const 0x0, 0xFFFFFFFF, [], [], 1⟩,  -- LN_TX_FAIL
  ⟨0x48, 1, 0x4, .c, .const 0x0, 0xFFFFFFFF, [], [], 1⟩,  -- LN_RX_OK
  ⟨0x4C, 1, 0x4, .c, .const 0x0, 0xFFFFFFFF, [], [], 1⟩,  -- LN_SEC_REJECT
  ⟨0x50, 1, 0x4, .c, .const 0x0, 0xFFFFFFFF, [], [], 1⟩]  -- LN_TMAP_CHG

/-- A lane entry with LINK = 3 or 5 (R223). -/
def regsLaneUdp : List RegDesc := [
  ⟨0x0, 1, 0x4, .s, .const 0x0, 0x1FF, [], [{ hi := 3, lo := 0, min := 0, max := 10 }], 1⟩,  -- LN_CFG
  ⟨0x4, 1, 0x4, .s, .const 0x0, 0x1FFFF, [], [], 1⟩,  -- LN_UDP_PORT
  ⟨0x40, 1, 0x4, .c, .const 0x0, 0xFFFFFFFF, [], [], 1⟩,  -- LN_TX_OK
  ⟨0x44, 1, 0x4, .c, .const 0x0, 0xFFFFFFFF, [], [], 1⟩,  -- LN_TX_FAIL
  ⟨0x48, 1, 0x4, .c, .const 0x0, 0xFFFFFFFF, [], [], 1⟩]  -- LN_RX_OK

/-- A lane entry of a field-bus port (R223). -/
def regsLaneFb : List RegDesc := [
  ⟨0x0, 1, 0x4, .s, .const 0x0, 0x1FF, [], [{ hi := 3, lo := 0, min := 0, max := 10 }], 1⟩,  -- LN_CFG
  ⟨0x40, 1, 0x4, .c, .const 0x0, 0xFFFFFFFF, [], [], 1⟩,  -- LN_TX_OK
  ⟨0x44, 1, 0x4, .c, .const 0x0, 0xFFFFFFFF, [], [], 1⟩,  -- LN_TX_FAIL
  ⟨0x48, 1, 0x4, .c, .const 0x0, 0xFFFFFFFF, [], [], 1⟩]  -- LN_RX_OK

/-- A lane entry of any other link: the common word alone (R197). -/
def regsLaneNone : List RegDesc := [
  ⟨0x0, 1, 0x4, .s, .const 0x0, 0x1FF, [], [{ hi := 3, lo := 0, min := 0, max := 10 }], 1⟩]  -- LN_CFG

/-- The block registers of page p (R21); empty beyond page 0x1F. -/
def pageRegs (p : Nat) : List RegDesc :=
  match p with
  | 0 => regsSys
  | 1 => regsCmt
  | 2 => regsPwr
  | 3 => regsClk
  | 4 => regsRst
  | 5 => regsPin
  | 6 => regsEvt
  | 7 => regsQry
  | 8 => regsRad
  | 9 => regsRmc
  | 10 => regsPlc
  | 11 => regsTrk0
  | 12 => regsTrk1
  | 13 => regsUpl
  | 14 => regsFb
  | 15 => regsFb
  | 16 => regsFb
  | 17 => regsFb
  | 18 => regsTim
  | 19 => regsIng
  | 20 => regsEpc
  | 21 => regsTrf
  | 22 => regsObj
  | 23 => regsBal
  | 24 => regsDst
  | 25 => regsKey
  | 26 => regsRec
  | 27 => regsRed
  | 28 => regsDsp
  | 29 => regsMem
  | 30 => regsNvs
  | 31 => regsPci
  | _ => []

end Sys2Proof.Machine
end

