-- ==== Sys2Proof/Machine/RegFile.lean ====
section
/-!
DEFINITION. The address map (R15, R21 to R23) and what each register word holds after reset (R8).
-/
namespace Sys2Proof.Machine

/-- Base of page p (R21). -/
abbrev pageBase (p : Nat) : Nat := 0xE0000000 + 0x1000 * p

/-- The header registers of page p (R24). -/
abbrev PG_ID (p : Nat) : Nat := pageBase p
abbrev PG_REV (p : Nat) : Nat := pageBase p + 0x04
abbrev PG_CTRL (p : Nat) : Nat := pageBase p + 0x08
abbrev PG_STAT (p : Nat) : Nat := pageBase p + 0x0C
abbrev PG_EVT_RAW (p : Nat) : Nat := pageBase p + 0x10
abbrev PG_EVT_EN (p : Nat) : Nat := pageBase p + 0x14
abbrev PG_EVT_PEND (p : Nat) : Nat := pageBase p + 0x18
abbrev PG_FAULT_ADDR (p : Nat) : Nat := pageBase p + 0x1C
abbrev PG_FAULT_INFO (p : Nat) : Nat := pageBase p + 0x20
abbrev PG_STAGE_STAT (p : Nat) : Nat := pageBase p + 0x24

/-- Page numbers (R21). -/
abbrev pSYS : Nat := 0
abbrev pCMT : Nat := 1
abbrev pPWR : Nat := 2
abbrev pCLK : Nat := 3
abbrev pRST : Nat := 4
abbrev pPIN : Nat := 5
abbrev pEVT : Nat := 6
abbrev pQRY : Nat := 7
abbrev pRAD : Nat := 8
abbrev pRMC : Nat := 9
abbrev pPLC : Nat := 10
abbrev pTRK0 : Nat := 11
abbrev pTRK1 : Nat := 12
abbrev pUPL : Nat := 13
abbrev pFB (n : Nat) : Nat := 14 + n
abbrev pTIM : Nat := 18
abbrev pING : Nat := 19
abbrev pEPC : Nat := 20
abbrev pTRF : Nat := 21
abbrev pOBJ : Nat := 22
abbrev pBAL : Nat := 23
abbrev pDST : Nat := 24
abbrev pKEY : Nat := 25
abbrev pREC : Nat := 26
abbrev pRED : Nat := 27
abbrev pDSP : Nat := 28
abbrev pMEM : Nat := 29
abbrev pNVS : Nat := 30
abbrev pPCI : Nat := 31

/-- The regions of the address map of R15, the register space cut as R21 and R23 cut it. DEDUCED: the DRAM row of R15 as
printed spans the NOR window and the register space; the narrower region wins there. -/
inductive Region where
  | bootRom | coreSram | secureSram | norWindow
  | page (p off : Nat)
  | queue (q off : Nat) (staged : Bool)
  | lane (n off : Nat) (staged : Bool)
  | dram
  | hole
  deriving DecidableEq, Repr

/-- The region that holds an address. -/
def regionOf (a : Nat) : Region :=
  if a < 0x20000 then .bootRom
  else if 0x10000000 ≤ a ∧ a < 0x10400000 then .coreSram
  else if 0x18000000 ≤ a ∧ a < 0x18040000 then .secureSram
  else if 0xC0000000 ≤ a ∧ a < 0xE0000000 then .norWindow
  else if 0xE0000000 ≤ a ∧ a < 0xE0020000 then .page ((a - 0xE0000000) / 0x1000) ((a - 0xE0000000) % 0x1000)
  else if 0xE0100000 ≤ a ∧ a < 0xE0110000 then .queue ((a - 0xE0100000) / 64) ((a - 0xE0100000) % 64) false
  else if 0xE0120000 ≤ a ∧ a < 0xE0130000 then .lane ((a - 0xE0120000) / 128) ((a - 0xE0120000) % 128) false
  else if 0xE0180000 ≤ a ∧ a < 0xE0190000 then .queue ((a - 0xE0180000) / 64) ((a - 0xE0180000) % 64) true
  else if 0xE01A0000 ≤ a ∧ a < 0xE01B0000 then .lane ((a - 0xE01A0000) / 128) ((a - 0xE01A0000) % 128) true
  else if Config.dramBase ≤ a ∧ a < Config.dramBase + Config.dramSize then .dram
  else .hole

/-- The row of a register table that holds an offset, with the index of a repeated register. -/
def findDesc (off : Nat) : List RegDesc → Option (RegDesc × Nat)
  | [] => none
  | r :: t =>
    if r.off ≤ off ∧ (off - r.off) % r.stride = 0 ∧ (off - r.off) / r.stride < r.count
    then some (r, (off - r.off) / r.stride)
    else findDesc off t

/-- The register table of a lane entry by its LINK (R197, R215, R223). -/
def laneRegs (link : Nat) : List RegDesc :=
  match link with
  | 1 => regsLaneRadio
  | 2 => regsLanePlc
  | 3 => regsLaneUdp
  | 5 => regsLaneUdp
  | 6 => regsLaneFb
  | 7 => regsLaneFb
  | 8 => regsLaneFb
  | 9 => regsLaneFb
  | _ => regsLaneNone

/-- PWR_CLS_CFG after reset (R311); class 0 is read-only and holds the FIELD base budget. -/
def clsCfgReset (c : Nat) : Nat :=
  match c with
  | 0 => 0x00000961
  | 1 => 0x000000A1
  | 2 => 0x00190007
  | 3 => 0x000001E1
  | 4 => 0x001E0007
  | 5 => 0x00000501
  | 6 => 0x00280005
  | 7 => 0x003C0003
  | 8 => 0x001E0005
  | 9 => 0x003C0003
  | 10 => 0x001E0005
  | 11 => 0x000A000B
  | 12 => 0x0096000D
  | 13 => 0x00640003
  | 14 => 0x00000141
  | 15 => 0x00320009
  | _ => 0

/-- PWR_CLS_MAX after reset (R311). -/
def clsMaxReset (c : Nat) : Nat :=
  match c with
  | 6 => 1000
  | 7 => 16000000
  | 8 => 1000
  | 9 => 16000000
  | 10 => 1000
  | 11 => 500000
  | 12 => 10000
  | 13 => 10000
  | 15 => 1000
  | _ => 0

/-- The reset word of register i of a row at address a. A dash is 0 here: the block supplies it (R8). -/
def ResetVal.word (v : ResetVal) (a i : Nat) : Word :=
  match v with
  | .const n => BitVec.ofNat 32 n
  | .cal => Config.calWord a
  | .clsCfg => BitVec.ofNat 32 (clsCfgReset i)
  | .clsMax => BitVec.ofNat 32 (clsMaxReset i)
  | .ingCfg => BitVec.ofNat 32 (if i = 6 then 0x200 else if i = 7 then 0x300 else 0)
  | .grey => BitVec.ofNat 32 (8 * (i + 1) * (i + 1))
  | .hw => 0#32

/-- PG_CTRL.EN after reset (R24). -/
def enAtReset (p : Nat) : Bool :=
  match p with
  | 0 => true
  | 1 => true
  | 2 => true
  | 3 => true
  | 4 => true
  | 5 => true
  | 6 => true
  | 7 => true
  | 18 => true
  | 25 => true
  | 29 => true
  | _ => false

/-- PG_ID of page p: block code, number of its kind, layout 0x02, block revision 0x01 (R2, R3, R21). -/
def pgIdWord (p : Nat) : Nat :=
  let code := if p = 12 then 11 else if 14 ≤ p ∧ p ≤ 17 then 14 else p
  code * 0x1000000 + (p - code) * 0x10000 + 0x0201

/-- The reset word of a header register (R24). -/
def headReset (p off : Nat) : Nat :=
  if off = 0 then pgIdWord p
  else if off = 4 then 1
  else if off = 8 then b2n (enAtReset p)
  else 0

/-- What the word at a live register address holds after reset (R8). -/
def resetWord (a : Nat) : Word :=
  match regionOf a with
  | .page p off =>
    if off < 0x28 then BitVec.ofNat 32 (headReset p off)
    else match findDesc off (pageRegs p) with
      | some (r, i) => r.reset.word a i
      | none => 0#32
  | .lane _ off false =>
    match findDesc off regsLaneRadio with
    | some (r, i) => r.reset.word a i
    | none => 0#32
  | _ => 0#32

/-- What a byte of memory that nothing has written reads as: the boot ROM's byte, an erased byte in the NOR (DESIGN
CHOICE), 0 elsewhere: DRAM (R334) and SRAM (R319) are cleared before use. -/
def memDflt (a : Nat) : Byte :=
  match regionOf a with
  | .bootRom => Config.bootRomByte a
  | .norWindow => 0xFF#8
  | _ => 0#8

end Sys2Proof.Machine
end

