-- ==== Sys2Proof/Machine/RegNames.lean ====
section
/-!
DEFINITION. The address of every register of the 32 pages and the two register arrays, under the manual's own name:
the base of R21, R175 and R197 plus the offset of the page's register table. A register that is repeated takes its index.
-/
namespace Sys2Proof.Machine


/-! ## SYS -/
abbrev SYS_ROLE : Nat := 0xE0000100
abbrev SYS_CAL : Nat := 0xE0000104
abbrev SYS_WDT_CFG : Nat := 0xE0000108
abbrev SYS_UC_SEL : Nat := 0xE000010C
abbrev SYS_APP_VECTOR : Nat := 0xE0000110
abbrev SYS_RST_CMD : Nat := 0xE0000180
abbrev SYS_WDT_KICK : Nat := 0xE0000184
abbrev SYS_WDT_STAT : Nat := 0xE0000188
abbrev SYS_APP_RUN : Nat := 0xE000018C
abbrev SYS_BOOT_STAT : Nat := 0xE0000190
abbrev SYS_BOOT_VER : Nat := 0xE0000194
abbrev SYS_MBOX_TO_APP : Nat := 0xE0000198
abbrev SYS_MBOX_TO_SEC : Nat := 0xE000019C
abbrev SYS_NOR_ADDR : Nat := 0xE00001A0
abbrev SYS_NOR_SRC_LO : Nat := 0xE00001A4
abbrev SYS_NOR_SRC_HI : Nat := 0xE00001A8
abbrev SYS_NOR_CMD : Nat := 0xE00001AC
abbrev SYS_NOR_STAT : Nat := 0xE00001B0
abbrev SYS_IMG_CMD : Nat := 0xE00001B4
abbrev SYS_IMG_STAT : Nat := 0xE00001B8
abbrev SYS_UC_ADDR_LO : Nat := 0xE00001C0
abbrev SYS_UC_ADDR_HI : Nat := 0xE00001C4
abbrev SYS_UC_CMD : Nat := 0xE00001C8
abbrev SYS_UC_STAT : Nat := 0xE00001CC
abbrev SYS_CAL_CMD : Nat := 0xE00001D0
abbrev SYS_UC_VER0 (i : Nat) : Nat := 0xE0000200 + 0x8 * i
abbrev SYS_UC_VER1 (i : Nat) : Nat := 0xE0000204 + 0x8 * i
abbrev SYS_WDT_WARN_COUNT : Nat := 0xE0000300
abbrev SYS_NOR_FAIL_COUNT : Nat := 0xE0000304

/-! ## CMT -/
abbrev CMT_CTRL : Nat := 0xE0001100
abbrev CMT_ARM : Nat := 0xE0001104
abbrev CMT_STAT : Nat := 0xE0001108
abbrev CMT_CHECK_RESULT : Nat := 0xE000110C
abbrev CMT_CHECK_ADDR : Nat := 0xE0001110
abbrev CMT_CHECK_ITEM : Nat := 0xE0001114
abbrev CMT_QUIESCE_NEED : Nat := 0xE0001118
abbrev CMT_DIRTY : Nat := 0xE000111C
abbrev CMT_DIRTY_ARR : Nat := 0xE0001120
abbrev CMT_FIRE_NS : Nat := 0xE0001124
abbrev CMT_FIRE_WRAP : Nat := 0xE0001128
abbrev CMT_QUIESCE_BOUND : Nat := 0xE000112C
abbrev CMT_CLAIM_TIMEOUT : Nat := 0xE0001130
abbrev CMT_GEN : Nat := 0xE0001134
abbrev CMT_LAST_FIRE_NS : Nat := 0xE0001138
abbrev CMT_LAST_FIRE_WRAP : Nat := 0xE000113C
abbrev CMT_APPLY_LAT : Nat := 0xE0001140
abbrev CMT_FIRE_COUNT : Nat := 0xE0001144
abbrev CMT_ABORT_COUNT : Nat := 0xE0001148

/-! ## PWR -/
abbrev PWR_CEIL : Nat := 0xE0002100
abbrev PWR_PFW : Nat := 0xE0002104
abbrev PWR_THERM : Nat := 0xE0002108
abbrev PWR_STAT : Nat := 0xE0002180
abbrev PWR_STATIC_SUM : Nat := 0xE0002184
abbrev PWR_CEIL_EFF : Nat := 0xE0002188
abbrev PWR_VIN : Nat := 0xE000218C
abbrev PWR_PIN : Nat := 0xE0002190
abbrev PWR_TEMP : Nat := 0xE0002194
abbrev PWR_VBAT : Nat := 0xE0002198
abbrev PWR_PF_STAT : Nat := 0xE000219C
abbrev PWR_DENY_MAP : Nat := 0xE00021A0
abbrev PWR_OVERRUN_MAP : Nat := 0xE00021A4
abbrev PWR_FW_CMD : Nat := 0xE00021A8
abbrev PWR_FW_STAT : Nat := 0xE00021AC
abbrev PWR_CLS_CFG (i : Nat) : Nat := 0xE0002200 + 0x10 * i
abbrev PWR_CLS_MAX (i : Nat) : Nat := 0xE0002204 + 0x10 * i
abbrev PWR_CLS_STAT (i : Nat) : Nat := 0xE0002208 + 0x10 * i
abbrev PWR_CLS_WAIT (i : Nat) : Nat := 0xE000220C + 0x10 * i
abbrev PWR_GRANT_COUNT : Nat := 0xE0002300
abbrev PWR_DENY_COUNT : Nat := 0xE0002304
abbrev PWR_OVERRUN_COUNT : Nat := 0xE0002308
abbrev PWR_PFW_COUNT : Nat := 0xE000230C
abbrev PWR_OVER_COUNT : Nat := 0xE0002310
abbrev PWR_THERM_COUNT : Nat := 0xE0002314

/-! ## CLK -/
abbrev CLK_CFG : Nat := 0xE0003100
abbrev CLK_LOSS_TO : Nat := 0xE0003104
abbrev CLK_STAT : Nat := 0xE0003180
abbrev CLK_ROOT_LOSS_COUNT : Nat := 0xE0003200
abbrev CLK_DRAM_UNLOCK : Nat := 0xE0003204
abbrev CLK_FALLBACK_US : Nat := 0xE0003208

/-! ## RST -/
abbrev RST_LC_NEXT : Nat := 0xE0004100
abbrev RST_TAMPER_CFG : Nat := 0xE0004104
abbrev RST_CAUSE : Nat := 0xE0004180
abbrev RST_LC : Nat := 0xE0004184
abbrev RST_TRIAL : Nat := 0xE0004188
abbrev RST_TAMPER : Nat := 0xE000418C
abbrev RST_TAMPER_T_LO : Nat := 0xE0004190
abbrev RST_TAMPER_T_HI : Nat := 0xE0004194
abbrev RST_TAMPER_CLR : Nat := 0xE0004198
abbrev RST_LC_NONCE (i : Nat) : Nat := 0xE00041A0 + 0x4 * i
abbrev RST_LC_AUTH_LO : Nat := 0xE00041C0
abbrev RST_LC_AUTH_HI : Nat := 0xE00041C4
abbrev RST_LC_AUTH_CMD : Nat := 0xE00041C8
abbrev RST_LC_STAT : Nat := 0xE00041CC
abbrev RST_OWNER_SRC_LO : Nat := 0xE00041D0
abbrev RST_OWNER_SRC_HI : Nat := 0xE00041D4
abbrev RST_OWNER_CMD : Nat := 0xE00041D8
abbrev RST_OWNER_STAT : Nat := 0xE00041DC
abbrev RST_SVN : Nat := 0xE00041E0
abbrev RST_SVN_CMD : Nat := 0xE00041E4

/-! ## PIN -/
abbrev PIN_FUNC (i : Nat) : Nat := 0xE0005100 + 0x4 * i
abbrev PIN_ARG (i : Nat) : Nat := 0xE0005110 + 0x4 * i
abbrev PIN_PULL_LO : Nat := 0xE0005130
abbrev PIN_PULL_HI : Nat := 0xE0005134
abbrev PIN_DIR : Nat := 0xE0005138
abbrev PIN_OUT : Nat := 0xE000513C
abbrev PIN_IN : Nat := 0xE0005140
abbrev PIN_EDGE_RISE : Nat := 0xE0005144
abbrev PIN_EDGE_FALL : Nat := 0xE0005148
abbrev PIN_EDGE_PEND : Nat := 0xE000514C

/-! ## EVT -/
abbrev EVT_RAW0 : Nat := 0xE0006100
abbrev EVT_RAW1 : Nat := 0xE0006104
abbrev EVT_EN0 : Nat := 0xE0006108
abbrev EVT_EN1 : Nat := 0xE000610C
abbrev EVT_PEND0 : Nat := 0xE0006110
abbrev EVT_PEND1 : Nat := 0xE0006114
abbrev EVT_ROUTE (i : Nat) : Nat := 0xE0006118 + 0x4 * i
abbrev EVT_SOFT : Nat := 0xE0006138

/-! ## QRY -/
abbrev QRY_CFG : Nat := 0xE0007100
abbrev QRY_POOL_FREE : Nat := 0xE0007104
abbrev QRY_POOL_CAP : Nat := 0xE0007108
abbrev QRY_POOL_DEBT : Nat := 0xE000710C
abbrev QRY_RSV_SUM : Nat := 0xE0007110
abbrev QRY_RETIRED : Nat := 0xE0007114
abbrev QRY_FENCE : Nat := 0xE0007118
abbrev QRY_SWEEP_STAT : Nat := 0xE000711C
abbrev QRY_RECLAIM_LAST : Nat := 0xE0007120
abbrev QRY_UNCORR_LAST : Nat := 0xE0007124
abbrev QRY_REFUSE_LAST : Nat := 0xE0007128
abbrev QRY_FENCE_MAP (i : Nat) : Nat := 0xE0007140 + 0x4 * i
abbrev QRY_CORR_TOTAL : Nat := 0xE0007200
abbrev QRY_UNCORR_COUNT : Nat := 0xE0007204
abbrev QRY_REFUSE_COUNT : Nat := 0xE0007208
abbrev QRY_OVERSIZE_COUNT : Nat := 0xE000720C
abbrev QRY_RECLAIM_COUNT : Nat := 0xE0007210
abbrev QRY_FENCE_COUNT : Nat := 0xE0007214
abbrev QRY_RETIRE_SKIP : Nat := 0xE0007218

/-! ## RAD -/
abbrev RAD_PHY : Nat := 0xE0008100
abbrev RAD_TXP : Nat := 0xE0008104
abbrev RAD_FE_TIMING : Nat := 0xE0008108
abbrev RAD_CCA : Nat := 0xE000810C
abbrev RAD_LAT_TX : Nat := 0xE0008110
abbrev RAD_LAT_RX : Nat := 0xE0008114
abbrev RAD_LAT_UNC : Nat := 0xE0008118
abbrev RAD_ANT : Nat := 0xE000811C
abbrev RAD_FIX_CH : Nat := 0xE0008120
abbrev RAD_BLOCK_CFG : Nat := 0xE0008124
abbrev RAD_SCAN_CMD : Nat := 0xE0008128
abbrev RAD_SCAN_MASK (i : Nat) : Nat := 0xE0008130 + 0x4 * i
abbrev RAD_BLOCKED_MAP (i : Nat) : Nat := 0xE0008140 + 0x4 * i
abbrev RAD_RSSI : Nat := 0xE0008150
abbrev RAD_RX_OK : Nat := 0xE0008200
abbrev RAD_RX_FCS_ERR : Nat := 0xE0008204
abbrev RAD_RX_PHR_ERR : Nat := 0xE0008208
abbrev RAD_TX_COUNT : Nat := 0xE000820C
abbrev RAD_CCA_BUSY : Nat := 0xE0008210
abbrev RAD_SYNTH_UNLOCK : Nat := 0xE0008214
abbrev RAD_SCAN_REFUSED : Nat := 0xE0008218
abbrev RAD_SCAN_RES (i : Nat) : Nat := 0xE0008400 + 0x4 * i

/-! ## RMC -/
abbrev RMC_NET : Nat := 0xE0009100
abbrev RMC_SF_ORIGIN_LO : Nat := 0xE0009104
abbrev RMC_SF_ORIGIN_HI : Nat := 0xE0009108
abbrev RMC_SLOT_SPLIT : Nat := 0xE000910C
abbrev RMC_CSMA : Nat := 0xE0009110
abbrev RMC_BCN_SEC : Nat := 0xE0009114
abbrev RMC_HOP_CFG : Nat := 0xE0009118
abbrev RMC_IND_CFG : Nat := 0xE000911C
abbrev RMC_EVT_WIN : Nat := 0xE0009120
abbrev RMC_EUI_LO : Nat := 0xE0009124
abbrev RMC_EUI_HI : Nat := 0xE0009128
abbrev RMC_HOP (i : Nat) : Nat := 0xE0009140 + 0x4 * i
abbrev RMC_RSV (i : Nat) : Nat := 0xE00091C0 + 0x4 * i
abbrev RMC_SF_NO : Nat := 0xE0009280
abbrev RMC_SLOT_NOW : Nat := 0xE0009284
abbrev RMC_IND_PEND : Nat := 0xE0009288
abbrev RMC_BCN_SENT : Nat := 0xE0009300
abbrev RMC_BCN_SKIP : Nat := 0xE0009304
abbrev RMC_CA_FAIL : Nat := 0xE0009308
abbrev RMC_ACK_FAIL : Nat := 0xE000930C
abbrev RMC_DUP_COUNT : Nat := 0xE0009310
abbrev RMC_SEC_REJECT : Nat := 0xE0009314
abbrev RMC_UNKNOWN_SRC : Nat := 0xE0009318
abbrev RMC_RESYNC_COUNT : Nat := 0xE000931C
abbrev RMC_IND_EXPIRED : Nat := 0xE0009320
abbrev RMC_IND_UNSENT : Nat := 0xE0009324
abbrev RMC_LEAVE_WAIT : Nat := 0xE0009328
abbrev RMC_EVT_SKIP : Nat := 0xE000932C
abbrev RMC_DEFER : Nat := 0xE0009330

/-! ## PLC -/
abbrev PLC_PHY : Nat := 0xE000A100
abbrev PLC_TONE_MASK : Nat := 0xE000A104
abbrev PLC_TX_LEVEL : Nat := 0xE000A108
abbrev PLC_FE_TIMING : Nat := 0xE000A10C
abbrev PLC_LAT_TX : Nat := 0xE000A110
abbrev PLC_LAT_RX : Nat := 0xE000A114
abbrev PLC_LAT_UNC : Nat := 0xE000A118
abbrev PLC_ZC_MODE : Nat := 0xE000A11C
abbrev PLC_ZC_CFG : Nat := 0xE000A120
abbrev PLC_BCN : Nat := 0xE000A124
abbrev PLC_BCN_ORIGIN_LO : Nat := 0xE000A128
abbrev PLC_BCN_ORIGIN_HI : Nat := 0xE000A12C
abbrev PLC_NET : Nat := 0xE000A130
abbrev PLC_CSMA : Nat := 0xE000A134
abbrev PLC_TMAP_CFG : Nat := 0xE000A138
abbrev PLC_TMAP_TTL : Nat := 0xE000A13C
abbrev PLC_NOISE_CFG : Nat := 0xE000A140
abbrev PLC_ZC_STAT : Nat := 0xE000A180
abbrev PLC_ZC_LAST_LO : Nat := 0xE000A184
abbrev PLC_ZC_LAST_HI : Nat := 0xE000A188
abbrev PLC_BCN_NO : Nat := 0xE000A18C
abbrev PLC_NEXT_BCN_LO : Nat := 0xE000A190
abbrev PLC_NEXT_BCN_HI : Nat := 0xE000A194
abbrev PLC_TMAP_LAST : Nat := 0xE000A198
abbrev PLC_RX_OK : Nat := 0xE000A200
abbrev PLC_RX_HDR_ERR : Nat := 0xE000A204
abbrev PLC_RX_RS_FAIL : Nat := 0xE000A208
abbrev PLC_RX_FCS_ERR : Nat := 0xE000A20C
abbrev PLC_RX_ABORT : Nat := 0xE000A210
abbrev PLC_TX_COUNT : Nat := 0xE000A214
abbrev PLC_CCA_BUSY : Nat := 0xE000A218
abbrev PLC_BCN_SENT : Nat := 0xE000A21C
abbrev PLC_BCN_SKIP : Nat := 0xE000A220
abbrev PLC_CA_FAIL : Nat := 0xE000A224
abbrev PLC_ACK_FAIL : Nat := 0xE000A228
abbrev PLC_DEFER : Nat := 0xE000A22C
abbrev PLC_LEAVE_WAIT : Nat := 0xE000A230
abbrev PLC_DUP_COUNT : Nat := 0xE000A234
abbrev PLC_SEC_REJECT : Nat := 0xE000A238
abbrev PLC_UNKNOWN_SRC : Nat := 0xE000A23C
abbrev PLC_NOISE_SYM : Nat := 0xE000A240
abbrev PLC_ZC_GLITCH : Nat := 0xE000A244
abbrev PLC_TMAP_SENT : Nat := 0xE000A248

/-! ## TRK -/
abbrev TRK_CFG : Nat := 0xE000B100
abbrev TRK_STN : Nat := 0xE000B104
abbrev TRK_THT : Nat := 0xE000B108
abbrev TRK_TOKEN_TO : Nat := 0xE000B10C
abbrev TRK_HELLO : Nat := 0xE000B110
abbrev TRK_UNWRAP_HOLD : Nat := 0xE000B114
abbrev TRK_MAX_STN : Nat := 0xE000B118
abbrev TRK_BATCH_PORT : Nat := 0xE000B11C
abbrev TRK_PREFIX_LO : Nat := 0xE000B120
abbrev TRK_PREFIX_HI : Nat := 0xE000B124
abbrev TRK_LAT_TX (p : Nat) : Nat := 0xE000B128 + 0x1000 * p
abbrev TRK_LAT_RX (p : Nat) : Nat := 0xE000B12C + 0x1000 * p
abbrev TRK_STAT : Nat := 0xE000B180
abbrev TRK_MEMBERS : Nat := 0xE000B184
abbrev TRK_ROT : Nat := 0xE000B188
abbrev TRK_MASTER_STN : Nat := 0xE000B18C
abbrev TRK_RX_OK (p : Nat) : Nat := 0xE000B200 + 0x1000 * p
abbrev TRK_RX_RUNT (p : Nat) : Nat := 0xE000B204 + 0x1000 * p
abbrev TRK_RX_FCS_ERR (p : Nat) : Nat := 0xE000B208 + 0x1000 * p
abbrev TRK_RX_LONG (p : Nat) : Nat := 0xE000B20C + 0x1000 * p
abbrev TRK_RX_GEN_DROP (p : Nat) : Nat := 0xE000B210 + 0x1000 * p
abbrev TRK_HOP_DROP (p : Nat) : Nat := 0xE000B214 + 0x1000 * p
abbrev TRK_TX_COUNT (p : Nat) : Nat := 0xE000B218 + 0x1000 * p
abbrev TRK_LINK_DOWN (p : Nat) : Nat := 0xE000B21C + 0x1000 * p
abbrev TRK_RX_CSUM_BAD : Nat := 0xE000B220
abbrev TRK_RX_NOT_UDP : Nat := 0xE000B224
abbrev TRK_TX_BAD_DST : Nat := 0xE000B228
abbrev TRK_TX_UNDELIV : Nat := 0xE000B22C
abbrev TRK_TOKEN_LOST : Nat := 0xE000B230
abbrev TRK_CLAIMS : Nat := 0xE000B234
abbrev TRK_JOIN_REFUSED : Nat := 0xE000B238
abbrev TRK_MASTER_CONFLICT : Nat := 0xE000B23C
abbrev TRK_ACK_FAIL : Nat := 0xE000B240
abbrev TRK_MEMBER_MAP (i : Nat) : Nat := 0xE000B300 + 0x4 * i

/-! ## UPL -/
abbrev UPL_CFG : Nat := 0xE000D100
abbrev UPL_MGMT : Nat := 0xE000D104
abbrev UPL_LAT_TX : Nat := 0xE000D108
abbrev UPL_LAT_RX : Nat := 0xE000D10C
abbrev UPL_SES_IDLE : Nat := 0xE000D110
abbrev UPL_MAC_LO : Nat := 0xE000D118
abbrev UPL_MAC_HI : Nat := 0xE000D11C
abbrev UPL_STAT : Nat := 0xE000D180
abbrev UPL_RX_OK : Nat := 0xE000D200
abbrev UPL_RX_RUNT : Nat := 0xE000D204
abbrev UPL_RX_FCS_ERR : Nat := 0xE000D208
abbrev UPL_RX_LONG : Nat := 0xE000D20C
abbrev UPL_RX_FILTERED : Nat := 0xE000D210
abbrev UPL_TX_COUNT : Nat := 0xE000D214
abbrev UPL_CSUM_SKIP : Nat := 0xE000D218
abbrev UPL_MGMT_OK : Nat := 0xE000D21C
abbrev UPL_MGMT_AUTH_FAIL : Nat := 0xE000D220
abbrev UPL_MGMT_REPLAY : Nat := 0xE000D224
abbrev UPL_PAUSE_RX : Nat := 0xE000D228
abbrev UPL_SES_CTRL (i : Nat) : Nat := 0xE000D300 + 0x10 * i
abbrev UPL_SES_GRANT_R (i : Nat) : Nat := 0xE000D304 + 0x10 * i
abbrev UPL_SES_GRANT_W (i : Nat) : Nat := 0xE000D308 + 0x10 * i
abbrev UPL_SES_SEQ (i : Nat) : Nat := 0xE000D30C + 0x10 * i

/-! ## FB -/
abbrev FB_CFG (p : Nat) : Nat := 0xE000E100 + 0x1000 * p
abbrev FB_BAUD (p : Nat) : Nat := 0xE000E104 + 0x1000 * p
abbrev FB_TIMING (p : Nat) : Nat := 0xE000E108 + 0x1000 * p
abbrev FB_TMO (p : Nat) : Nat := 0xE000E10C + 0x1000 * p
abbrev FB_TURN (p : Nat) : Nat := 0xE000E110 + 0x1000 * p
abbrev FB_LIST_BASE_LO (p : Nat) : Nat := 0xE000E114 + 0x1000 * p
abbrev FB_LIST_BASE_HI (p : Nat) : Nat := 0xE000E118 + 0x1000 * p
abbrev FB_LIST_LEN (p : Nat) : Nat := 0xE000E11C + 0x1000 * p
abbrev FB_ORIGIN_LO (p : Nat) : Nat := 0xE000E120 + 0x1000 * p
abbrev FB_ORIGIN_HI (p : Nat) : Nat := 0xE000E124 + 0x1000 * p
abbrev FB_LANE (p : Nat) : Nat := 0xE000E128 + 0x1000 * p
abbrev FB_STAT (p : Nat) : Nat := 0xE000E180 + 0x1000 * p
abbrev FB_LAST_ERR (p : Nat) : Nat := 0xE000E184 + 0x1000 * p
abbrev FB_POLL_COUNT (p : Nat) : Nat := 0xE000E200 + 0x1000 * p
abbrev FB_OK (p : Nat) : Nat := 0xE000E204 + 0x1000 * p
abbrev FB_TIMEOUT (p : Nat) : Nat := 0xE000E208 + 0x1000 * p
abbrev FB_CRC_ERR (p : Nat) : Nat := 0xE000E20C + 0x1000 * p
abbrev FB_FRAME_ERR (p : Nat) : Nat := 0xE000E210 + 0x1000 * p
abbrev FB_RUNT (p : Nat) : Nat := 0xE000E214 + 0x1000 * p
abbrev FB_ADDR_ERR (p : Nat) : Nat := 0xE000E218 + 0x1000 * p
abbrev FB_EXCEPTION (p : Nat) : Nat := 0xE000E21C + 0x1000 * p
abbrev FB_LONG (p : Nat) : Nat := 0xE000E220 + 0x1000 * p
abbrev FB_REFUSED (p : Nat) : Nat := 0xE000E224 + 0x1000 * p
abbrev FB_SKIP (p : Nat) : Nat := 0xE000E228 + 0x1000 * p
abbrev FB_RETRY (p : Nat) : Nat := 0xE000E22C + 0x1000 * p

/-! ## TIM -/
abbrev TIM_NS : Nat := 0xE0012100
abbrev TIM_WRAP : Nat := 0xE0012104
abbrev TIM_INC_LO : Nat := 0xE0012108
abbrev TIM_INC_HI : Nat := 0xE001210C
abbrev TIM_STEP_LO : Nat := 0xE0012110
abbrev TIM_STEP_HI : Nat := 0xE0012114
abbrev TIM_CORR : Nat := 0xE0012118
abbrev TIM_SERVO : Nat := 0xE001211C
abbrev TIM_STEP_THR : Nat := 0xE0012120
abbrev TIM_CLAMP : Nat := 0xE0012124
abbrev TIM_MASTER_TO : Nat := 0xE0012128
abbrev TIM_LOCK : Nat := 0xE001212C
abbrev TIM_HOLD_PPB : Nat := 0xE0012130
abbrev TIM_HOLD_MAX : Nat := 0xE0012134
abbrev TIM_UNC_SYNC : Nat := 0xE0012138
abbrev TIM_LAT_PPS : Nat := 0xE001213C
abbrev TIM_PPS_PHASE : Nat := 0xE0012140
abbrev TIM_PPS_OUT : Nat := 0xE0012144
abbrev TIM_TS_CFG : Nat := 0xE0012148
abbrev TIM_CLASS_SET : Nat := 0xE0012160
abbrev TIM_OFFSET_LO : Nat := 0xE0012164
abbrev TIM_OFFSET_HI : Nat := 0xE0012168
abbrev TIM_REF : Nat := 0xE001216C
abbrev TIM_REF_UNC : Nat := 0xE0012170
abbrev TIM_BIAS : Nat := 0xE0012174
abbrev TIM_ASSIST : Nat := 0xE0012178
abbrev TIM_STAT : Nat := 0xE0012180
abbrev TIM_UNC : Nat := 0xE0012184
abbrev TIM_LAST_OFFSET : Nat := 0xE0012188
abbrev TIM_RATE : Nat := 0xE001218C
abbrev TIM_LAST_SYNC_LO : Nat := 0xE0012190
abbrev TIM_LAST_SYNC_HI : Nat := 0xE0012194
abbrev TIM_RTC_LO : Nat := 0xE0012198
abbrev TIM_RTC_HI : Nat := 0xE001219C
abbrev TIM_CMP_PEND : Nat := 0xE00121A0
abbrev TIM_LAST_STEP : Nat := 0xE00121A4
abbrev TIM_TXTS_COUNT : Nat := 0xE00121B0
abbrev TIM_TXTS_NS : Nat := 0xE00121B4
abbrev TIM_TXTS_WRAP : Nat := 0xE00121B8
abbrev TIM_TXTS_INFO : Nat := 0xE00121BC
abbrev TIM_TXTS_POP : Nat := 0xE00121C0
abbrev TIM_STEP_COUNT : Nat := 0xE00121E0
abbrev TIM_STEP_REJ : Nat := 0xE00121E4
abbrev TIM_SAMPLE_COUNT : Nat := 0xE00121E8
abbrev TIM_SAMPLE_REJ : Nat := 0xE00121EC
abbrev TIM_TXTS_DROP : Nat := 0xE00121F0
abbrev TIM_CMP_LATE : Nat := 0xE00121F4
abbrev TIM_CMP_CFG (i : Nat) : Nat := 0xE0012200 + 0x20 * i
abbrev TIM_CMP_NS (i : Nat) : Nat := 0xE0012204 + 0x20 * i
abbrev TIM_CMP_WRAP (i : Nat) : Nat := 0xE0012208 + 0x20 * i
abbrev TIM_CMP_PERIOD (i : Nat) : Nat := 0xE001220C + 0x20 * i
abbrev TIM_CMP_CTRL (i : Nat) : Nat := 0xE0012210 + 0x20 * i
abbrev TIM_CMP_STAT (i : Nat) : Nat := 0xE0012214 + 0x20 * i
abbrev TIM_CAP_CFG (i : Nat) : Nat := 0xE0012400 + 0x10 * i
abbrev TIM_CAP_NS (i : Nat) : Nat := 0xE0012404 + 0x10 * i
abbrev TIM_CAP_WRAP (i : Nat) : Nat := 0xE0012408 + 0x10 * i
abbrev TIM_CAP_SEQ (i : Nat) : Nat := 0xE001240C + 0x10 * i

/-! ## ING -/
abbrev ING_CFG : Nat := 0xE0013100
abbrev ING_HASH_CFG : Nat := 0xE0013104
abbrev ING_HASH_BASE_LO : Nat := 0xE0013108
abbrev ING_HASH_BASE_HI : Nat := 0xE001310C
abbrev ING_REC_BASE_LO : Nat := 0xE0013110
abbrev ING_REC_BASE_HI : Nat := 0xE0013114
abbrev ING_VPROF_BASE_LO : Nat := 0xE0013118
abbrev ING_VPROF_BASE_HI : Nat := 0xE001311C
abbrev ING_CPROF_BASE_LO : Nat := 0xE0013120
abbrev ING_CPROF_BASE_HI : Nat := 0xE0013124
abbrev ING_BATCH_CFG : Nat := 0xE0013128
abbrev ING_ACK_TIMEOUT : Nat := 0xE001312C
abbrev ING_ISLAND_TIMEOUT : Nat := 0xE0013130
abbrev ING_REPLAY_RATE : Nat := 0xE0013134
abbrev ING_CLK_HOLD_LIMIT : Nat := 0xE0013138
abbrev ING_TAMPER_WINDOW : Nat := 0xE001313C
abbrev ING_REG_ADDR_LO : Nat := 0xE0013180
abbrev ING_REG_ADDR_HI : Nat := 0xE0013184
abbrev ING_REG_ATTR0 : Nat := 0xE0013188
abbrev ING_REG_ATTR1 : Nat := 0xE001318C
abbrev ING_REG_CMD : Nat := 0xE0013190
abbrev ING_REG_STAT : Nat := 0xE0013194
abbrev ING_REG_INDEX : Nat := 0xE0013198
abbrev ING_REG_COUNT : Nat := 0xE001319C
abbrev ING_REG_HWM : Nat := 0xE00131A0
abbrev ING_REG_FREE_HEAD : Nat := 0xE00131A4
abbrev ING_IN_BASE_LO (i : Nat) : Nat := 0xE0013200 + 0x20 * i
abbrev ING_IN_BASE_HI (i : Nat) : Nat := 0xE0013204 + 0x20 * i
abbrev ING_IN_CFG (i : Nat) : Nat := 0xE0013208 + 0x20 * i
abbrev ING_IN_PROD (i : Nat) : Nat := 0xE001320C + 0x20 * i
abbrev ING_IN_CONS (i : Nat) : Nat := 0xE0013210 + 0x20 * i
abbrev ING_IN_COUNT (i : Nat) : Nat := 0xE0013214 + 0x20 * i
abbrev ING_EXC_BASE_LO : Nat := 0xE0013300
abbrev ING_EXC_BASE_HI : Nat := 0xE0013304
abbrev ING_EXC_CFG : Nat := 0xE0013308
abbrev ING_EXC_PROD : Nat := 0xE001330C
abbrev ING_EXC_CONS : Nat := 0xE0013310
abbrev ING_EXC_COUNT : Nat := 0xE0013314
abbrev ING_BATCH_SEQ : Nat := 0xE0013340
abbrev ING_ACKED_SEQ : Nat := 0xE0013344
abbrev ING_UNACKED : Nat := 0xE0013348
abbrev ING_JOURNAL_PEND : Nat := 0xE001334C
abbrev ING_ACCEPT_COUNT : Nat := 0xE0013400
abbrev ING_DUP_COUNT : Nat := 0xE0013404
abbrev ING_REPLAY_COUNT : Nat := 0xE0013408
abbrev ING_UNKNOWN_COUNT : Nat := 0xE001340C
abbrev ING_HOLD_COUNT : Nat := 0xE0013410
abbrev ING_LATE_COUNT : Nat := 0xE0013414
abbrev ING_BACKFILL_COUNT : Nat := 0xE0013418
abbrev ING_BATCH_DUP_COUNT : Nat := 0xE001341C
abbrev ING_BATCH_FAIL_COUNT : Nat := 0xE0013420
abbrev ING_BATCH_GAP_COUNT : Nat := 0xE0013424
abbrev ING_BATCH_BUSY_COUNT : Nat := 0xE0013428
abbrev ING_EXC_STALL_US : Nat := 0xE001342C
abbrev ING_RATE : Nat := 0xE0013430
abbrev ING_JOURNAL_SKIP : Nat := 0xE0013434
abbrev ING_TRIP_COUNT (i : Nat) : Nat := 0xE0013440 + 0x4 * i

/-! ## EPC -/
abbrev EPC_EPOCH_CFG : Nat := 0xE0014100
abbrev EPC_ORIGIN_LO : Nat := 0xE0014104
abbrev EPC_ORIGIN_HI : Nat := 0xE0014108
abbrev EPC_SIGN_SLOT : Nat := 0xE001410C
abbrev EPC_SITE_ID : Nat := 0xE0014110
abbrev EPC_EXTRAP_MAX : Nat := 0xE0014114
abbrev EPC_TUNC_MAX : Nat := 0xE0014118
abbrev EPC_INTERP_K : Nat := 0xE001411C
abbrev EPC_AMEND_HORIZON : Nat := 0xE0014120
abbrev EPC_FENCE_MAX : Nat := 0xE0014124
abbrev EPC_WORK_CAP : Nat := 0xE0014128
abbrev EPC_SET_CAP : Nat := 0xE001412C
abbrev EPC_WORK_BASE_LO : Nat := 0xE0014130
abbrev EPC_WORK_BASE_HI : Nat := 0xE0014134
abbrev EPC_SET0_BASE_LO : Nat := 0xE0014138
abbrev EPC_SET0_BASE_HI : Nat := 0xE001413C
abbrev EPC_SET1_BASE_LO : Nat := 0xE0014140
abbrev EPC_SET1_BASE_HI : Nat := 0xE0014144
abbrev EPC_EXP_BASE_LO : Nat := 0xE0014150
abbrev EPC_EXP_BASE_HI : Nat := 0xE0014154
abbrev EPC_EXP_CFG : Nat := 0xE0014158
abbrev EPC_EXP_PROD : Nat := 0xE001415C
abbrev EPC_EXP_CONS : Nat := 0xE0014160
abbrev EPC_EXP_COUNT : Nat := 0xE0014164
abbrev EPC_NEXT_BOUNDARY_LO : Nat := 0xE0014180
abbrev EPC_NEXT_BOUNDARY_HI : Nat := 0xE0014184
abbrev EPC_EPOCH_NO_LO : Nat := 0xE0014188
abbrev EPC_EPOCH_NO_HI : Nat := 0xE001418C
abbrev EPC_SEALED_NO_LO : Nat := 0xE0014190
abbrev EPC_SEALED_NO_HI : Nat := 0xE0014194
abbrev EPC_SEAL_SEQ_LO : Nat := 0xE0014198
abbrev EPC_SEAL_SEQ_HI : Nat := 0xE001419C
abbrev EPC_LIVE_SEQ_LO : Nat := 0xE00141A0
abbrev EPC_LIVE_SEQ_HI : Nat := 0xE00141A4
abbrev EPC_LIVE_FENCE : Nat := 0xE00141A8
abbrev EPC_VIEW_STAT : Nat := 0xE00141AC
abbrev EPC_SET_EPOCH0_LO : Nat := 0xE00141B0
abbrev EPC_SET_EPOCH0_HI : Nat := 0xE00141B4
abbrev EPC_SET_EPOCH1_LO : Nat := 0xE00141B8
abbrev EPC_SET_EPOCH1_HI : Nat := 0xE00141BC
abbrev EPC_SEAL_STATE : Nat := 0xE00141C0
abbrev EPC_LAST_ROOT (i : Nat) : Nat := 0xE00141C4 + 0x4 * i
abbrev EPC_SEAL_COUNT : Nat := 0xE0014200
abbrev EPC_AMEND_COUNT : Nat := 0xE0014204
abbrev EPC_AMEND_REFUSED : Nat := 0xE0014208
abbrev EPC_ESTIMATED_COUNT : Nat := 0xE001420C
abbrev EPC_UNCOVERED : Nat := 0xE0014210
abbrev EPC_SEAL_LAT_MS : Nat := 0xE0014214
abbrev EPC_STEP_FIRED : Nat := 0xE0014218

/-! ## TRF -/
abbrev TRF_CFG : Nat := 0xE0015100
abbrev TRF_SCHED_BASE_LO : Nat := 0xE0015104
abbrev TRF_SCHED_BASE_HI : Nat := 0xE0015108
abbrev TRF_UTC_BASE_LO : Nat := 0xE001510C
abbrev TRF_UTC_BASE_HI : Nat := 0xE0015110
abbrev TRF_SPLIT_MAX : Nat := 0xE0015114
abbrev TRF_CLOSE_BASE_LO : Nat := 0xE0015118
abbrev TRF_CLOSE_BASE_HI : Nat := 0xE001511C
abbrev TRF_TBL_ADDR_LO : Nat := 0xE0015120
abbrev TRF_TBL_ADDR_HI : Nat := 0xE0015124
abbrev TRF_TBL_CMD : Nat := 0xE0015128
abbrev TRF_TBL_STAT : Nat := 0xE001512C
abbrev TRF_TBL_OK_LO : Nat := 0xE0015130
abbrev TRF_TBL_OK_HI : Nat := 0xE0015134
abbrev TRF_SWITCH_MAP (i : Nat) : Nat := 0xE0015180 + 0x4 * i
abbrev TRF_NEXT_SWITCH_LO : Nat := 0xE00151A0
abbrev TRF_NEXT_SWITCH_HI : Nat := 0xE00151A4
abbrev TRF_NEXT_DEMAND_LO : Nat := 0xE00151A8
abbrev TRF_NEXT_DEMAND_HI : Nat := 0xE00151AC
abbrev TRF_PEND_CLOSE_LO : Nat := 0xE00151B0
abbrev TRF_PEND_CLOSE_HI : Nat := 0xE00151B4
abbrev TRF_LAST_CLOSE_LO : Nat := 0xE00151B8
abbrev TRF_LAST_CLOSE_HI : Nat := 0xE00151BC
abbrev TRF_SPLIT_COUNT : Nat := 0xE0015200
abbrev TRF_DEFAULT_COUNT : Nat := 0xE0015204
abbrev TRF_LONG_COUNT : Nat := 0xE0015208
abbrev TRF_INVERT_COUNT : Nat := 0xE001520C
abbrev TRF_RESPLIT_COUNT : Nat := 0xE0015210
abbrev TRF_BACKFILL_SKIP : Nat := 0xE0015214
abbrev TRF_DEM_LATE : Nat := 0xE0015218
abbrev TRF_CLOSE_DEFER : Nat := 0xE001521C
abbrev TRF_NOSCHEME_COUNT : Nat := 0xE0015220
abbrev TRF_SAT_COUNT : Nat := 0xE0015224

/-! ## OBJ -/
abbrev OBJ_CFG : Nat := 0xE0016100
abbrev OBJ_ROLE_EN : Nat := 0xE0016104
abbrev OBJ_RIGHTS_BASE_LO : Nat := 0xE0016108
abbrev OBJ_RIGHTS_BASE_HI : Nat := 0xE001610C
abbrev OBJ_USER_BASE_LO : Nat := 0xE0016110
abbrev OBJ_USER_BASE_HI : Nat := 0xE0016114
abbrev OBJ_REQ_BASE_LO : Nat := 0xE0016118
abbrev OBJ_REQ_BASE_HI : Nat := 0xE001611C
abbrev OBJ_REQ_CFG : Nat := 0xE0016120
abbrev OBJ_REQ_PROD : Nat := 0xE0016124
abbrev OBJ_REQ_CONS : Nat := 0xE0016128
abbrev OBJ_REQ_COUNT : Nat := 0xE001612C
abbrev OBJ_RSP_BASE_LO : Nat := 0xE0016130
abbrev OBJ_RSP_BASE_HI : Nat := 0xE0016134
abbrev OBJ_RSP_CFG : Nat := 0xE0016138
abbrev OBJ_RSP_PROD : Nat := 0xE001613C
abbrev OBJ_RSP_CONS : Nat := 0xE0016140
abbrev OBJ_RSP_COUNT : Nat := 0xE0016144
abbrev OBJ_AUD_BASE_LO : Nat := 0xE0016148
abbrev OBJ_AUD_BASE_HI : Nat := 0xE001614C
abbrev OBJ_AUD_CFG : Nat := 0xE0016150
abbrev OBJ_AUD_PROD : Nat := 0xE0016154
abbrev OBJ_AUD_CONS : Nat := 0xE0016158
abbrev OBJ_AUD_COUNT : Nat := 0xE001615C
abbrev OBJ_TBL_ADDR_LO : Nat := 0xE0016160
abbrev OBJ_TBL_ADDR_HI : Nat := 0xE0016164
abbrev OBJ_TBL_CMD : Nat := 0xE0016168
abbrev OBJ_TBL_STAT : Nat := 0xE001616C
abbrev OBJ_TBL_OK_LO : Nat := 0xE0016170
abbrev OBJ_TBL_OK_HI : Nat := 0xE0016174
abbrev OBJ_DENY_LAST : Nat := 0xE0016180
abbrev OBJ_DENY_SESSION : Nat := 0xE0016184
abbrev OBJ_GRANT_COUNT (i : Nat) : Nat := 0xE0016200 + 0x8 * i
abbrev OBJ_DENY_COUNT (i : Nat) : Nat := 0xE0016204 + 0x8 * i
abbrev OBJ_RETRY_COUNT : Nat := 0xE0016280
abbrev OBJ_UNAVAIL_COUNT : Nat := 0xE0016284

/-! ## BAL -/
abbrev BAL_CFG : Nat := 0xE0017100
abbrev BAL_TBL_BASE_LO : Nat := 0xE0017104
abbrev BAL_TBL_BASE_HI : Nat := 0xE0017108
abbrev BAL_MEMBER_CAP : Nat := 0xE001710C
abbrev BAL_FAST_LAG : Nat := 0xE0017110
abbrev BAL_BRIDGE_MAX : Nat := 0xE0017114
abbrev BAL_STATE_BASE_LO : Nat := 0xE0017118
abbrev BAL_STATE_BASE_HI : Nat := 0xE001711C
abbrev BAL_SAMP_BASE_LO : Nat := 0xE0017120
abbrev BAL_SAMP_BASE_HI : Nat := 0xE0017124
abbrev BAL_SAMP_CFG : Nat := 0xE0017128
abbrev BAL_SAMP_PROD : Nat := 0xE001712C
abbrev BAL_SAMP_CONS : Nat := 0xE0017130
abbrev BAL_SAMP_COUNT : Nat := 0xE0017134
abbrev BAL_SUSP_BASE_LO : Nat := 0xE0017138
abbrev BAL_SUSP_BASE_HI : Nat := 0xE001713C
abbrev BAL_SUSP_CFG : Nat := 0xE0017140
abbrev BAL_SUSP_PROD : Nat := 0xE0017144
abbrev BAL_SUSP_CONS : Nat := 0xE0017148
abbrev BAL_SUSP_COUNT : Nat := 0xE001714C
abbrev BAL_TBL_ADDR_LO : Nat := 0xE0017150
abbrev BAL_TBL_ADDR_HI : Nat := 0xE0017154
abbrev BAL_TBL_CAPV : Nat := 0xE0017158
abbrev BAL_TBL_CMD : Nat := 0xE001715C
abbrev BAL_TBL_STAT : Nat := 0xE0017160
abbrev BAL_TBL_FAIL : Nat := 0xE0017164
abbrev BAL_TBL_OK_LO : Nat := 0xE0017168
abbrev BAL_TBL_OK_HI : Nat := 0xE001716C
abbrev BAL_TBL_OK_CAP : Nat := 0xE0017170
abbrev BAL_ACK : Nat := 0xE0017180
abbrev BAL_FAST_LAST_LO : Nat := 0xE0017184
abbrev BAL_FAST_LAST_HI : Nat := 0xE0017188
abbrev BAL_EPOCH_LAST_LO : Nat := 0xE001718C
abbrev BAL_EPOCH_LAST_HI : Nat := 0xE0017190
abbrev BAL_SUSP_SEQ : Nat := 0xE0017194
abbrev BAL_PASS_US : Nat := 0xE0017198
abbrev BAL_EPOCH_COUNT : Nat := 0xE0017200
abbrev BAL_FAST_COUNT : Nat := 0xE0017204
abbrev BAL_INCOMPLETE_COUNT : Nat := 0xE0017208
abbrev BAL_SUSPECT_COUNT : Nat := 0xE001720C
abbrev BAL_FAST_SKIP : Nat := 0xE0017210
abbrev BAL_SAMPLE_DROP : Nat := 0xE0017214
abbrev BAL_SAMPLE_LATE : Nat := 0xE0017218
abbrev BAL_AMEND_COUNT : Nat := 0xE001721C
abbrev BAL_REBASE_COUNT : Nat := 0xE0017220

/-! ## DST -/
abbrev DST_CFG : Nat := 0xE0018100
abbrev DST_RATE_RAD : Nat := 0xE0018104
abbrev DST_RATE_PLC : Nat := 0xE0018108
abbrev DST_ROUNDS : Nat := 0xE001810C
abbrev DST_ACT_WAIT : Nat := 0xE0018110
abbrev DST_PUBKEY (i : Nat) : Nat := 0xE0018140 + 0x4 * i
abbrev DST_DONE_MAP : Nat := 0xE0018180
abbrev DST_C_IMG_LO (i : Nat) : Nat := 0xE0018200 + 0x40 * i
abbrev DST_C_IMG_HI (i : Nat) : Nat := 0xE0018204 + 0x40 * i
abbrev DST_C_TGT_LO (i : Nat) : Nat := 0xE0018208 + 0x40 * i
abbrev DST_C_TGT_HI (i : Nat) : Nat := 0xE001820C + 0x40 * i
abbrev DST_C_TGT_COUNT (i : Nat) : Nat := 0xE0018210 + 0x40 * i
abbrev DST_C_REGION (i : Nat) : Nat := 0xE0018214 + 0x40 * i
abbrev DST_C_DEADLINE_LO (i : Nat) : Nat := 0xE0018218 + 0x40 * i
abbrev DST_C_DEADLINE_HI (i : Nat) : Nat := 0xE001821C + 0x40 * i
abbrev DST_C_CTRL (i : Nat) : Nat := 0xE0018220 + 0x40 * i
abbrev DST_C_STAT (i : Nat) : Nat := 0xE0018224 + 0x40 * i
abbrev DST_C_FAIL_LIMIT (i : Nat) : Nat := 0xE0018228 + 0x40 * i
abbrev DST_C_COMPLETE (i : Nat) : Nat := 0xE001822C + 0x40 * i
abbrev DST_C_ACTIVE (i : Nat) : Nat := 0xE0018230 + 0x40 * i
abbrev DST_C_FAILED (i : Nat) : Nat := 0xE0018234 + 0x40 * i
abbrev DST_C_TACT (i : Nat) : Nat := 0xE0018238 + 0x40 * i
abbrev DST_C_SENT (i : Nat) : Nat := 0xE001823C + 0x40 * i
abbrev DST_LEAVE_DENY : Nat := 0xE0018400
abbrev DST_REPORT_COUNT : Nat := 0xE0018404
abbrev DST_DIGEST_FAIL : Nat := 0xE0018408
abbrev DST_SUPERSEDE_COUNT : Nat := 0xE001840C

/-! ## KEY -/
abbrev KEY_CFG : Nat := 0xE0019100
abbrev KEY_LINK : Nat := 0xE0019104
abbrev KEY_BLOB_BASE_LO : Nat := 0xE0019108
abbrev KEY_BLOB_BASE_HI : Nat := 0xE001910C
abbrev KEY_BLOB_COUNT : Nat := 0xE0019110
abbrev KEY_JOB_BASE_LO (i : Nat) : Nat := 0xE0019140 + 0x20 * i
abbrev KEY_JOB_BASE_HI (i : Nat) : Nat := 0xE0019144 + 0x20 * i
abbrev KEY_JOB_CFG (i : Nat) : Nat := 0xE0019148 + 0x20 * i
abbrev KEY_JOB_PROD (i : Nat) : Nat := 0xE001914C + 0x20 * i
abbrev KEY_JOB_CONS (i : Nat) : Nat := 0xE0019150 + 0x20 * i
abbrev KEY_JOB_COUNT (i : Nat) : Nat := 0xE0019154 + 0x20 * i
abbrev KEY_SLOT_SEL : Nat := 0xE0019180
abbrev KEY_SLOT_ATTR : Nat := 0xE0019184
abbrev KEY_SLOT_GEN : Nat := 0xE0019188
abbrev KEY_ORPHANED : Nat := 0xE001918C
abbrev KEY_VIOL_LAST : Nat := 0xE0019190
abbrev KEY_LC_LAST : Nat := 0xE0019194
abbrev KEY_RNG_STAT : Nat := 0xE0019198
abbrev KEY_L0_CHAL (i : Nat) : Nat := 0xE00191A0 + 0x4 * i
abbrev KEY_L0_CMD : Nat := 0xE00191B0
abbrev KEY_L0_STAT : Nat := 0xE00191B4
abbrev KEY_L0_RESP (i : Nat) : Nat := 0xE00191B8 + 0x4 * i
abbrev KEY_CACHE_HIT : Nat := 0xE0019200
abbrev KEY_CACHE_MISS : Nat := 0xE0019204
abbrev KEY_UNWRAP_FAIL : Nat := 0xE0019208
abbrev KEY_USE_VIOL : Nat := 0xE001920C
abbrev KEY_INVAL_COUNT : Nat := 0xE0019210
abbrev KEY_LINK_PREV : Nat := 0xE0019214
abbrev KEY_SIGN_COUNT : Nat := 0xE0019218

/-! ## REC -/
abbrev REC_CFG : Nat := 0xE001A100
abbrev REC_KEEP_MAX : Nat := 0xE001A104
abbrev REC_HOLD : Nat := 0xE001A108
abbrev REC_EVT_MASK0 : Nat := 0xE001A10C
abbrev REC_EVT_MASK1 : Nat := 0xE001A110
abbrev REC_SEV (i : Nat) : Nat := 0xE001A114 + 0x4 * i
abbrev REC_FW_CODE : Nat := 0xE001A180
abbrev REC_FW_DETAIL (i : Nat) : Nat := 0xE001A184 + 0x4 * i
abbrev REC_FW_SAMPLE (i : Nat) : Nat := 0xE001A194 + 0x4 * i
abbrev REC_CURSOR : Nat := 0xE001A1B0
abbrev REC_WIN_CMD : Nat := 0xE001A1B4
abbrev REC_WIN_STAT : Nat := 0xE001A1B8
abbrev REC_OLDEST_SEQ : Nat := 0xE001A1BC
abbrev REC_NEWEST_SEQ : Nat := 0xE001A1C0
abbrev REC_ACK_SEQ : Nat := 0xE001A1C4
abbrev REC_CLEAR : Nat := 0xE001A1C8
abbrev REC_KEPT : Nat := 0xE001A1CC
abbrev REC_RECORDS : Nat := 0xE001A200
abbrev REC_LOST : Nat := 0xE001A204
abbrev REC_DROP : Nat := 0xE001A208
abbrev REC_CHECK_FAIL_COUNT : Nat := 0xE001A20C
abbrev REC_CH_CFG (i : Nat) : Nat := 0xE001A300 + 0x10 * i
abbrev REC_CH_LO (i : Nat) : Nat := 0xE001A304 + 0x10 * i
abbrev REC_CH_W (i : Nat) : Nat := 0xE001A308 + 0x10 * i
abbrev REC_WIN (i : Nat) : Nat := 0xE001A400 + 0x4 * i

/-! ## RED -/
abbrev RED_CTRL : Nat := 0xE001B100
abbrev RED_PARTNER_STN : Nat := 0xE001B104
abbrev RED_HB : Nat := 0xE001B108
abbrev RED_KICK_TO : Nat := 0xE001B10C
abbrev RED_JOIN_WAIT : Nat := 0xE001B110
abbrev RED_KEY : Nat := 0xE001B114
abbrev RED_MIRROR_BASE_LO : Nat := 0xE001B118
abbrev RED_MIRROR_BASE_HI : Nat := 0xE001B11C
abbrev RED_MIRROR_CFG : Nat := 0xE001B120
abbrev RED_LAG_MAX : Nat := 0xE001B124
abbrev RED_FINAL_MAX : Nat := 0xE001B128
abbrev RED_PARTNER_EUI_LO : Nat := 0xE001B12C
abbrev RED_PARTNER_EUI_HI : Nat := 0xE001B130
abbrev RED_CMD : Nat := 0xE001B180
abbrev RED_KICK : Nat := 0xE001B184
abbrev RED_STATE : Nat := 0xE001B188
abbrev RED_MISMATCH_LAST : Nat := 0xE001B18C
abbrev RED_MISMATCH_EPOCH_LO : Nat := 0xE001B190
abbrev RED_MISMATCH_EPOCH_HI : Nat := 0xE001B194
abbrev RED_MIRROR_LAG : Nat := 0xE001B198
abbrev RED_RESYNC_LEFT : Nat := 0xE001B19C
abbrev RED_LAST_TAKEOVER_LO : Nat := 0xE001B1A0
abbrev RED_LAST_TAKEOVER_HI : Nat := 0xE001B1A4
abbrev RED_REGION_BASE_LO (i : Nat) : Nat := 0xE001B200 + 0x10 * i
abbrev RED_REGION_BASE_HI (i : Nat) : Nat := 0xE001B204 + 0x10 * i
abbrev RED_REGION_SIZE (i : Nat) : Nat := 0xE001B208 + 0x10 * i
abbrev RED_REGION_STAT (i : Nat) : Nat := 0xE001B20C + 0x10 * i
abbrev RED_TAKEOVER_COUNT : Nat := 0xE001B300
abbrev RED_MISMATCH_COUNT : Nat := 0xE001B304
abbrev RED_ISOLATED_COUNT : Nat := 0xE001B308
abbrev RED_LINK_FAIL : Nat := 0xE001B30C
abbrev RED_HB_CRC_ERR : Nat := 0xE001B310
abbrev RED_RESYNC_COUNT : Nat := 0xE001B314

/-! ## DSP -/
abbrev DSP_RATE : Nat := 0xE001C100
abbrev DSP_GEOM : Nat := 0xE001C104
abbrev DSP_ISEG : Nat := 0xE001C108
abbrev DSP_PHASE : Nat := 0xE001C10C
abbrev DSP_FB0_BASE_LO : Nat := 0xE001C110
abbrev DSP_FB0_BASE_HI : Nat := 0xE001C114
abbrev DSP_FB1_BASE_LO : Nat := 0xE001C118
abbrev DSP_FB1_BASE_HI : Nat := 0xE001C11C
abbrev DSP_FB_SEL : Nat := 0xE001C120
abbrev DSP_CMD : Nat := 0xE001C124
abbrev DSP_GREY (i : Nat) : Nat := 0xE001C140 + 0x4 * i
abbrev DSP_STAT : Nat := 0xE001C180
abbrev DSP_FRAME_NO : Nat := 0xE001C184
abbrev DSP_PMAX : Nat := 0xE001C188
abbrev DSP_FRAME_COUNT : Nat := 0xE001C200
abbrev DSP_FAULT_COUNT : Nat := 0xE001C204
abbrev DSP_DISCHARGE_COUNT : Nat := 0xE001C208

/-! ## MEM -/
abbrev MEM_SCRUB : Nat := 0xE001D100
abbrev MEM_SUMMARY_S : Nat := 0xE001D104
abbrev MEM_UNCORR_ADDR_LO : Nat := 0xE001D180
abbrev MEM_UNCORR_ADDR_HI : Nat := 0xE001D184
abbrev MEM_CORR_COUNT : Nat := 0xE001D200
abbrev MEM_UNCORR_COUNT : Nat := 0xE001D204

/-! ## NVS -/
abbrev NVS_SQ_BASE_LO : Nat := 0xE001E100
abbrev NVS_SQ_BASE_HI : Nat := 0xE001E104
abbrev NVS_CQ_BASE_LO : Nat := 0xE001E108
abbrev NVS_CQ_BASE_HI : Nat := 0xE001E10C
abbrev NVS_Q_CFG : Nat := 0xE001E110
abbrev NVS_DB_SQ : Nat := 0xE001E114
abbrev NVS_DB_CQ : Nat := 0xE001E118
abbrev NVS_JRN_LBA_LO : Nat := 0xE001E11C
abbrev NVS_JRN_LBA_HI : Nat := 0xE001E120
abbrev NVS_JRN_LEN : Nat := 0xE001E124
abbrev NVS_ARC_LBA_LO : Nat := 0xE001E128
abbrev NVS_ARC_LBA_HI : Nat := 0xE001E12C
abbrev NVS_ARC_LEN : Nat := 0xE001E130
abbrev NVS_TMO : Nat := 0xE001E134
abbrev NVS_JRN_TAIL : Nat := 0xE001E180
abbrev NVS_STAT : Nat := 0xE001E184

/-! ## PCI -/
abbrev PCI_CFG : Nat := 0xE001F100
abbrev PCI_STAT : Nat := 0xE001F180
abbrev PCI_CFG_ADDR : Nat := 0xE001F184
abbrev PCI_CFG_DATA : Nat := 0xE001F188
abbrev PCI_MEM_ADDR_LO : Nat := 0xE001F18C
abbrev PCI_MEM_ADDR_HI : Nat := 0xE001F190
abbrev PCI_MEM_DATA : Nat := 0xE001F194

/-! ## QARR -/
abbrev QRY_Q_QUOTA (q : Nat) : Nat := 0xE0100000 + 64 * q
abbrev QRY_Q_RESERVE (q : Nat) : Nat := 0xE0100004 + 64 * q
abbrev QRY_Q_CFG (q : Nat) : Nat := 0xE0100008 + 64 * q
abbrev QRY_Q_WR (q : Nat) : Nat := 0xE010000C + 64 * q
abbrev QRY_Q_CMD (q : Nat) : Nat := 0xE0100010 + 64 * q
abbrev QRY_Q_STAT (q : Nat) : Nat := 0xE0100014 + 64 * q
abbrev QRY_Q_COUNT (q : Nat) : Nat := 0xE0100018 + 64 * q
abbrev QRY_Q_BYTES (q : Nat) : Nat := 0xE010001C + 64 * q
abbrev QRY_Q_AP (q i : Nat) : Nat := 0xE0100020 + 64 * q + 4 * i

/-! ## LANE -/
abbrev LN_CFG (n : Nat) : Nat := 0xE0120000 + 128 * n
abbrev LN_PEER_LO (n : Nat) : Nat := 0xE0120004 + 128 * n
abbrev LN_PEER_HI (n : Nat) : Nat := 0xE0120008 + 128 * n
abbrev LN_CONN (n : Nat) : Nat := 0xE012000C + 128 * n
abbrev LN_ANCHOR (n : Nat) : Nat := 0xE0120010 + 128 * n
abbrev LN_HOP (n : Nat) : Nat := 0xE0120014 + 128 * n
abbrev LN_CHMAP (n i : Nat) : Nat := 0xE0120018 + 128 * n + 4 * i
abbrev LN_STATE (n : Nat) : Nat := 0xE0120028 + 128 * n
abbrev LN_LAST_RX_LO (n : Nat) : Nat := 0xE012002C + 128 * n
abbrev LN_LAST_RX_HI (n : Nat) : Nat := 0xE0120030 + 128 * n
abbrev LN_LINK_Q (n : Nat) : Nat := 0xE0120034 + 128 * n
abbrev LN_CMD (n : Nat) : Nat := 0xE0120038 + 128 * n
abbrev LN_TX_OK (n : Nat) : Nat := 0xE0120040 + 128 * n
abbrev LN_TX_FAIL (n : Nat) : Nat := 0xE0120044 + 128 * n
abbrev LN_RX_OK (n : Nat) : Nat := 0xE0120048 + 128 * n
abbrev LN_SEC_REJECT (n : Nat) : Nat := 0xE012004C + 128 * n
abbrev LN_EVT_SKIP (n : Nat) : Nat := 0xE0120050 + 128 * n

/-! ## LANEPLC -/
abbrev LN_PLC_TMAP_TX (n : Nat) : Nat := 0xE012000C + 128 * n
abbrev LN_PLC_TMAP_RX (n : Nat) : Nat := 0xE0120010 + 128 * n
abbrev LN_PLC_PHASE (n : Nat) : Nat := 0xE0120014 + 128 * n
abbrev LN_PLC_TMAP_TIME_LO (n : Nat) : Nat := 0xE0120018 + 128 * n
abbrev LN_PLC_TMAP_TIME_HI (n : Nat) : Nat := 0xE012001C + 128 * n
abbrev LN_TMAP_CHG (n : Nat) : Nat := 0xE0120050 + 128 * n
abbrev LN_UDP_PORT (n : Nat) : Nat := 0xE0120004 + 128 * n

end Sys2Proof.Machine
end

