-- ==== Sys2Proof/Machine/StateBase.lean ====
section
/-!
DEFINITION. The state of the shared machinery: the register file and its staging, the keystone, the bus, the time base
and the GPIO lands. Plain data; times called ticks count real 4 ns ticks of the TIME clock, times called ext are extended
times in ns (R236).
-/
namespace Sys2Proof.Machine

/-- A boundary-class register that a fire changed: the medium keeps running under the old word until its boundary (R41). -/
structure HeldWord where
  addr : Nat
  old : Word
  deriving DecidableEq, Repr

/-- The register file (R5 to R8, R22, R30). A word not listed in live or shadow holds its reset value. -/
structure RegSt where
  /-- Live words by address; the header words of a page included. -/
  live : RegMap := []
  /-- Staged words by LIVE address. -/
  shadow : RegMap := []
  /-- Live addresses of the shadow words written since the last fire or discard, rising. -/
  dirty : List Nat := []
  /-- Held _LO writes by the address written (R7). -/
  loHeld : RegMap := []
  /-- Latched _HI words by address, waiting for the next read of _HI (R7). -/
  hiLatch : RegMap := []
  /-- Boundary-class words whose old value still governs the medium (R41). -/
  medium : List HeldWord := []
  /-- Epoch-boundary words whose old value still governs until the next boundary (R76, R129). -/
  epochHeld : List HeldWord := []
  deriving DecidableEq, Repr

/-- The states of the keystone (R33). -/
inductive KsState where
  | idle | staging | checking | checked | armed | quiescing | firing
  deriving DecidableEq, Repr

/-- A retained configuration generation (R42): what pages 0x13 to 0x18 held before the fire at ext time fired. -/
structure GenRec where
  gen : Nat
  fired : Nat
  old : RegMap
  deriving DecidableEq, Repr

/-- The keystone (R31 to R44). -/
structure CmtSt where
  state : KsState := .idle
  owner : Option Requester := none
  /-- Tick of the owner's last shadow write or CMT command, and of the last entry into STAGING or CHECKED (R33). -/
  lastAccess : Nat := 0
  entered : Nat := 0
  /-- The target as it stood at CHECK, and whether it was written during CHECKING (R32, R39). -/
  checkTarget : Nat := 0
  targetMoved : Bool := false
  /-- The armed mode and the tick of GO (R37). -/
  armAt : Bool := false
  armQuiesce : Bool := false
  goTick : Nat := 0
  /-- Earliest fire tick of an AT = 0 arming, and the tick the drain started. -/
  fireTick : Nat := 0
  drainTick : Nat := 0
  /-- Bit p: page p is draining or holds drained (R44). -/
  draining : Nat := 0
  /-- The drain of the present arming has begun, and the queues that the check found to need draining (R36, R37). -/
  drainBegun : Bool := false
  named : List Nat := []
  /-- The recheck before the present fire has passed (R38). -/
  rechecked : Bool := false
  /-- Bit p: IN_SET of page p (R24). -/
  inSet : Nat := 0
  /-- Retained generations, oldest first (R42). -/
  gens : List GenRec := []
  deriving DecidableEq, Repr

/-- The answer to the last access of the bus (R27): the cause of a violation, and the data a read returned. -/
structure BusSt where
  cause : Option Nat := none
  data : Nat := 0
  /-- A debugger holds an application core halted (R24, DBG_FREEZE). -/
  halted : Bool := false
  deriving DecidableEq, Repr

/-- The clock validity classes (R251), in the order of TIM_STAT.CLASS. -/
inductive ClockClass where
  | synced | holdover | rtcOnly | invalid
  deriving DecidableEq, Repr

/-- One compare channel (R240 to R242); its configuration and target are registers. -/
structure CmpCh where
  armed : Bool := false
  fired : Bool := false
  ovf : Bool := false
  late : Bool := false
  /-- A FORERUNNER channel's target as an extended time, taken at arming (R241). -/
  fore : Int := 0
  /-- A forward step has passed the target (R242). -/
  stepped : Bool := false
  /-- End tick of the 1 µs pulse on the CMP_OUT land. -/
  pulseEnd : Option Nat := none
  deriving DecidableEq, Repr

/-- One transmit time-stamp (R245). -/
structure TxStamp where
  ext : Nat
  info : Nat
  deriving DecidableEq, Repr

/-- The time base, its channels and the RTC (R236 to R253). -/
structure TimeSt where
  /-- Ticks of 4 ns since the model's beginning; the model's own clock, which no reset touches. -/
  ticks : Nat := 0
  /-- The accumulator: TIM_NS in bits [63:32], the fraction in [31:0] (R236). -/
  acc : Nat := 0
  wrap : Nat := 0
  /-- A tick carried into TIM_WRAP and event 8 is still to be raised (R238). -/
  wrapPend : Bool := false
  cls : ClockClass := .invalid
  locked : Bool := false
  clamped : Bool := false
  integ : Int := 0
  run : Nat := 0
  /-- TIM_UNC outside SYNCED: its value at uncTick, from which it grows at TIM_HOLD_PPB (R252). -/
  uncBase : Nat := 0
  uncTick : Nat := 0
  /-- The SYNCED value at the last sample, and the tick of that sample (R252). -/
  syncUnc : Nat := 0
  sampleTick : Nat := 0
  /-- TIM_REF.CLASS of the last FIRMWARE sample (R251). -/
  refCls : ClockClass := .synced
  masterLost : Bool := false
  /-- HOLDOVER was entered by loss of lock, so each sample renews TIM_UNC (R252). -/
  holdByLock : Bool := false
  /-- Start of the loss timer of R250. -/
  lossTick : Nat := 0
  /-- Extended time of the previous edge of the PPS_IN capture channel (R248). -/
  ppsPrev : Option Nat := none
  cmps : List CmpCh := List.replicate 16 {}
  /-- End tick of the PPS_OUT pulse (R242). -/
  ppsEnd : Option Nat := none
  txts : List TxStamp := []
  /-- The RTC of the plinth: valid, its count at rtcTick in 2^-15 s, and the copy made of the time base (R253). -/
  rtcValid : Bool := false
  rtcCount : Nat := 0
  rtcTick : Nat := 0
  rtcCopyCount : Nat := 0
  rtcCopyUnc : Nat := 0
  deriving DecidableEq, Repr

/-- The ports a frame leaves by. -/
inductive OutPort where
  | radio | plc | trk0 | trk1 | upl | fb (n : Nat) | pair | hbWire | ring | panel | nvme | jtag
  deriving DecidableEq, Repr

/-- One thing the block has sent (a frame, a beacon, a burst): the model's own record of its outputs. -/
structure Sent where
  port : OutPort
  ext : Nat
  bytes : Bytes
  deriving DecidableEq, Repr

/-- The 32 GPIO lands as the outside drives them (R49, R388). Bit n of driven: something outside drives land n. -/
structure PinSt where
  driven : Nat := 0
  level : Nat := 0
  /-- The level each land last stood at for 20 ns. -/
  seen : Nat := 0
  deriving DecidableEq, Repr

end Sys2Proof.Machine
end

