-- ==== Sys2Proof/Machine/StateKey.lean ====
section
/-!
DEFINITION. The state of the key store beyond its registers (R256 to R275).
-/
namespace Sys2Proof.Machine

/-- One key slot: the fields of its attribute word (R257), its generation and its key (R259, R262). -/
structure KeySlot where
  /-- 0 EMPTY, 1 VALID, 2 ORPHANED. -/
  st : Nat := 0
  alg : Nat := 0
  usage : Nat := 0
  origin : Nat := 0
  scope : Nat := 0
  parent : Nat := 0
  gen : Nat := 0
  key : Bytes := []
  deriving DecidableEq, Repr

/-- One entry of the cache of unwrapped endpoint keys (R264). -/
structure CacheEntry where
  blob : Nat
  kek : Nat
  kekGen : Nat
  addr : Nat
  key : Bytes
  deriving DecidableEq, Repr

/-- The key store. -/
structure KeySt where
  slots : Assoc KeySlot := []
  /-- Most recently used first (R264). -/
  cache : List CacheEntry := []
  rngFault : Bool := false
  /-- A level-0 response is being computed, and the tick of the last GO (R272). -/
  l0Busy : Bool := false
  l0Last : Option Nat := none
  /-- Role code of the last requester that advanced KEY_JOB_PROD of ring 1 (R276, KEY_VIOL_LAST). -/
  ring1Role : Nat := 1
  deriving DecidableEq, Repr

end Sys2Proof.Machine
end

