-- ==== Sys2Proof/Machine/StateLink.lean ====
section
/-!
DEFINITION. The state of the meter links RAD, RMC and PLC beyond their registers (R177 to R215).
-/
namespace Sys2Proof.Machine

/-- The frame at the head of a lane's transmit queue as far as it has been tried: its MPDU with FCS, and the tries (R185). -/
structure LaneTx where
  tries : Nat := 0
  mpdu : Bytes := []
  deriving DecidableEq, Repr

/-- The CSMA/CA procedure in progress (R184). -/
structure Access where
  lane : Nat
  nb : Nat
  be : Nat
  deriving DecidableEq, Repr

/-- A frame that waits for its ACK: its lane, its SEQ, its number in the quarry (none: TONEMAP), and its end. -/
structure AckWait where
  lane : Nat
  seq : Nat
  frame : Option Nat
  tick : Nat
  deriving DecidableEq, Repr

/-- An ACK that the device owes (R185): for which frame, and whether the frame makes contact (R186). -/
structure AckOwed where
  src : Nat
  seq : Nat
  contact : Bool
  /-- The lane that a matching CONNECT_REQ connects (R190). -/
  connect : Option Nat
  tick : Nat
  deriving DecidableEq, Repr

/-- An accepted pair of source and frame counter (R185). -/
structure Pair where
  src : Nat
  fcnt : Nat
  tick : Nat
  deriving DecidableEq, Repr

/-- A received frame that waits for its key (R192): its MPDU without FCS, its stamp, and the three octets of its header. -/
structure RxFrame where
  mpdu : Bytes
  t : Nat
  tUnc : Nat
  info : Bytes
  cls : Nat
  deriving DecidableEq, Repr

/-- The MAC of one medium (R182 to R193, R204). -/
structure MacSt where
  seq : Nat := 0
  lanes : Assoc LaneTx := []
  access : Option Access := none
  ackWait : Option AckWait := none
  ackOwed : Option AckOwed := none
  pairs : List Pair := []
  waitKey : List RxFrame := []
  /-- End tick of the frame that is in the air or on the line. -/
  txEnd : Nat := 0
  deriving DecidableEq, Repr

/-- A connection lane (R190, R191): its state as LN_STATE codes it, the absolute global slot and the number of its next event,
the slot of its last event, whether the exchange there goes on, and the tick of the peer's last valid frame. -/
structure ConnLane where
  st : Nat := 0
  next : Nat := 0
  evt : Nat := 0
  last : Option Nat := none
  more : Bool := false
  lastRx : Nat := 0
  /-- The antenna of the last frame from the peer (R179). -/
  ant : Bool := false
  deriving DecidableEq, Repr

/-- CCAs of a channel since the last observation, and how many were busy (R195). -/
structure CcaCount where
  total : Nat := 0
  busy : Nat := 0
  deriving DecidableEq, Repr

/-- RAD and RMC. -/
structure RadSt where
  mac : MacSt := {}
  lock : Bool := true
  scan : Option Nat := none
  rssi : Nat := 0
  /-- The antenna that RF_ANT_SEL selects (R179). -/
  ant : Bool := false
  /-- The last superframe sent or skipped, plus one. -/
  sfDone : Nat := 0
  cca : Assoc CcaCount := []
  obs : Nat := 0
  conn : Assoc ConnLane := []
  /-- Lanes that owe a CONNECT_RSP, and the meter that a pending indirect frame follows its ACK to (R186). -/
  connectDue : Option Nat := none
  indDue : Option Nat := none
  /-- Frames of the INDIRECT queue sent or dropped and not yet released. -/
  indGone : List Nat := []
  deriving DecidableEq, Repr

/-- The agreement of a peer's phase (R210): the class of the run. -/
structure PhaseRun where
  cls : Nat := 0
  run : Nat := 0
  deriving DecidableEq, Repr

/-- PLC. -/
structure PlcSt where
  mac : MacSt := {}
  /-- The last beacon sent or skipped, plus one; the extended times at which the last one sent started and ended. -/
  bcnDone : Nat := 0
  bcnStart : Nat := 0
  bcnEnd : Nat := 0
  /-- Noise symbols of the beacon period, and event 17 has been raised in it (R211). -/
  noise : Nat := 0
  burst : Bool := false
  /-- Zero crossings (R208): the previous edge, the last accepted edges (newest first), good intervals in a row, and ZC_OK. -/
  zcPrev : Option Nat := none
  zcEdges : List Nat := []
  zcRun : Nat := 0
  zcOk : Bool := false
  zcTick : Nat := 0
  /-- Tone maps to report, by lane: LN_PLC_TMAP_RX as it will stand, the lowest SNR; lanes served in this period (R207). -/
  tmapDue : Assoc (Nat × Nat) := []
  tmapDone : List Nat := []
  phase : Assoc PhaseRun := []
  deriving DecidableEq, Repr

end Sys2Proof.Machine
end

