-- ==== Sys2Proof/Machine/StatePwr.lean ====
section
/-!
DEFINITION. The state of the supply and the power governor beyond its registers (R301 to R315).
-/
namespace Sys2Proof.Machine

/-- Who asks for leave: the page of the block, and a number of the block's own for its several uses. -/
structure Client where
  page : Nat
  tag : Nat
  deriving DecidableEq, Repr

/-- A grant or a queued request (R312): its class, who holds it, the tick it started, and whether it has overrun (R313). -/
structure Leave where
  cls : Nat
  who : Client
  since : Nat
  overrun : Bool := false
  deriving DecidableEq, Repr

/-- The supply, the power-fail logic and the governor. -/
structure PwrSt where
  grants : List Leave := []
  /-- Queued requests: by priority, then arrival (R312). -/
  queue : List Leave := []
  /-- A power-fail warning has fired and its reset has not come (R305). -/
  pfActive : Bool := false
  pfTick : Nat := 0
  /-- The highest flush step completed, and the flush has ended (R307). -/
  flushStep : Nat := 0
  flushDone : Bool := false
  /-- The PFW_N land: low from the warning to the reset. -/
  pfwN : Bool := true
  thermDerate : Bool := false
  isOver : Bool := false
  /-- Tick at which POWER_OVER was entered. -/
  overTick : Nat := 0
  /-- The supply inputs and measurements as the last command that carried them gave them. -/
  vinMv : Nat := 0
  pin : Nat := 0
  tempMk : Int := 0
  vbatMv : Nat := 0
  /-- The last power-up step completed (R303), 7 when the power-on reset has been released. -/
  upStep : Nat := 7
  deriving DecidableEq, Repr

end Sys2Proof.Machine
end

