-- ==== Sys2Proof/Machine/StateQry.lean ====
section
/-!
DEFINITION. The state of the quarry beyond its configuration registers (R158 to R176).
-/
namespace Sys2Proof.Machine

/-- A committed frame (R160), held by up to four queues (R166). -/
structure Frame where
  data : Bytes
  producer : Nat
  /-- Queue in which the frame was committed. -/
  queue : Nat
  t : Nat
  tUnc : Nat
  fseq : Nat
  holders : List Nat
  /-- The queue its cells are charged to (R167). -/
  charged : Nat
  shared : Bool := false
  poisoned : Bool := false
  /-- Words found uncorrectable (R158, R159). -/
  bad : List Nat := []
  deriving DecidableEq, Repr

/-- A frame being written through QRY_Q_WR (R162, R163). -/
structure OpenFrame where
  data : Bytes := []
  cells : Nat := 0
  tooLong : Bool := false
  refused : Bool := false
  deriving DecidableEq, Repr

/-- One queue: its frames by number, oldest first, the pointers as counts from HEAD, and its port (R162 to R165). -/
structure Queue where
  ids : List Nat := []
  mark : Nat := 0
  rd : Nat := 0
  ap : Nat := 0
  /-- The latched aperture word (R165). -/
  lat : Option Bytes := none
  res : Nat := 0
  fseq : Nat := 0
  corr : Nat := 0
  /-- QRY_Q_BYTES as a read of QRY_Q_COUNT latched it (R169). -/
  bytesLatch : Option Nat := none
  port : Option OpenFrame := none
  deriving DecidableEq, Repr

/-- The owner of a leased lane (R170): its code in QRY_Q_STAT.OWNER, its session, and the tick of its last renewal. -/
structure LaneOwner where
  code : Nat
  id : Nat
  renewed : Nat
  deriving DecidableEq, Repr

/-- The quarry. -/
structure QrySt where
  frames : Assoc Frame := []
  nextId : Nat := 0
  queues : Assoc Queue := []
  owners : Assoc LaneOwner := []
  fenced : List Nat := []
  /-- Lane under sweep, and lanes that wait for theirs, ascending (R172). -/
  sweeping : Option Nat := none
  waiting : List Nat := []
  retired : Nat := 0
  /-- Queues a keystone drains, with the occupancy each must reach (R44). -/
  drain : Assoc Nat := []
  deriving DecidableEq, Repr

end Sys2Proof.Machine
end

