-- ==== Sys2Proof/Machine/StateRec.lean ====
section
/-!
DEFINITION. The state of the condition recorder beyond its registers (R277 to R285).
-/
namespace Sys2Proof.Machine

/-- An open histogram span (R278, R279). Times are extended times; next is the end of the span. -/
structure Span where
  start : Nat
  next : Nat
  /-- SPAN as it stood when the span opened: 1 hour, 2 day. -/
  kind : Nat
  part : Bool
  stepped : Bool := false
  worst : Nat
  bins : List Nat := List.replicate 16 0
  min : Int := 0
  max : Int := 0
  tMin : Nat := 0
  tMax : Nat := 0
  sum : Int := 0
  count : Nat := 0
  deriving DecidableEq, Repr

/-- The open condition record (R280); tick is the tick of its first occurrence. -/
structure OpenCond where
  code : Nat
  sev : Nat
  first : Nat
  last : Nat
  tick : Nat
  detail : Bytes
  repeats : Nat
  worst : Nat
  stepped : Bool := false
  deriving DecidableEq, Repr

/-- A slot of the recorder area that is not erased (R277, R282); ok: it holds a record whose check passed. -/
structure RecSlot where
  slot : Nat
  seq : Nat
  sev : Nat
  ok : Bool
  deriving DecidableEq, Repr

/-- The condition recorder. -/
structure RecSt where
  /-- The start-up scan of R282 has been done, and event 42 has been raised since. -/
  ready : Bool := false
  failed : Bool := false
  nextSeq : Nat := 0
  spans : Assoc Span := []
  cond : Option OpenCond := none
  /-- Closed records that wait to be written, oldest first (R281). -/
  buf : List Bytes := []
  /-- A CLEAR whose sectors are still to be erased (R284). -/
  clearing : Bool := false
  /-- The slots that are not erased, in the order they were written. -/
  slots : List RecSlot := []
  /-- The slot written last. -/
  pos : Option Nat := none
  /-- The running totals of channels 5 to 7 at their last sample (R278). -/
  waitLast : Nat := 0
  memLast : Nat := 0
  qryLast : Nat := 0
  deriving DecidableEq, Repr

end Sys2Proof.Machine
end

