-- ==== Sys2Proof/Machine/StateRed.lean ====
section
/-!
DEFINITION. The state of the active and standby pair beyond its registers (R286 to R300).
-/
namespace Sys2Proof.Machine

/-- RED_STATE.STATE (R289). -/
inductive RedState where
  | solo | active | standby | resync
  deriving DecidableEq, Repr

/-- What a claim on the fence is for (R289, R290). -/
inductive ClaimWhy where
  | takeover | join | force
  deriving DecidableEq, Repr

/-- A claim on ACTIVE_N: since which tick it waits its turn, and since which tick it drives and watches (R290). -/
structure Claim where
  why : ClaimWhy
  since : Nat
  driving : Option Nat := none
  deriving DecidableEq, Repr

/-- One item of the armature stream kept until it is acknowledged (R293). -/
structure Mirrored where
  seq : Nat
  tick : Nat
  item : ArmItem
  deriving DecidableEq, Repr

/-- A root or digest waiting for its counterpart (R294): of which epoch, and whose. -/
structure RootRec where
  own : Bool
  epoch : Nat
  typ : Nat
  amend : Nat
  root : Bytes
  digest : Bytes
  deriving DecidableEq, Repr

/-- An armature item that the standby has handed to its drive: its sequence, and the journal write that must complete. -/
structure JournalWait where
  seq : Nat
  write : Nat
  deriving DecidableEq, Repr

/-- The pair (R286 to R300). -/
structure RedSt where
  state : RedState := .solo
  armValid : Bool := false
  isolated : Bool := false
  pathA : Bool := false
  pathB : Bool := false
  suspectArm : Bool := false
  /-- The partner's last valid heartbeat. -/
  partner : Option Heartbeat := none
  lastA : Nat := 0
  lastB : Nat := 0
  /-- Own hold on ACTIVE_N, and whether the partner holds the line low. -/
  driving : Bool := false
  outsideLow : Bool := false
  faulted : Bool := false
  /-- Tick of the last kick, and RED_KICK_TO has expired since (R291). -/
  kickTick : Nat := 0
  kicked : Bool := false
  hbSeq : Nat := 0
  hbTickA : Nat := 0
  hbTickB : Nat := 0
  yielding : Bool := false
  claim : Option Claim := none
  joinTick : Nat := 0
  /-- Tick at which a TOKEN or CLAIM from the partner's station was last seen on the ring (R290). -/
  ringSeen : Option Nat := none
  /-- Sequence of the next armature item, the highest acknowledged, and the items between (R293). -/
  nextSeq : Nat := 0
  ackedSeq : Nat := 0
  stream : List Mirrored := []
  /-- The armature is unfit and both waits of R293 have ended. -/
  unfit : Bool := false
  /-- Items of the stream that the engines have not taken yet: the joiner holds them until its final pass ends (R298). -/
  held : List ArmItem := []
  /-- Standby: items on their way to the drive, oldest first (R293). -/
  journalWaits : List JournalWait := []
  /-- Extended times at which the last heartbeat went out on path A (R288). -/
  sentExt : Nat := 0
  /-- What the partner's last path-A heartbeat carried (R297). -/
  view : Option PairView := none
  resyncing : Bool := false
  /-- MiB still to copy. -/
  copyLeft : Nat := 0
  /-- A final pass holds ING's apply stage (R298). -/
  finalHold : Bool := false
  /-- Mismatch causes of R297 already raised. -/
  causes : List Nat := []
  roots : List RootRec := []
  deriving DecidableEq, Repr

end Sys2Proof.Machine
end

