-- ==== Sys2Proof/Machine/StateSys.lean ====
section
/-!
DEFINITION. The state of clocks, reset, boot, life cycle, NOR, watchdog, memory, journal drive and PCIe beyond their registers
(R316 to R339).
-/
namespace Sys2Proof.Machine

/-- The fuses (R325 to R327, R322). A part leaves the factory in FACTORY, state 1. -/
structure FuseSt where
  lc : Nat := 1
  /-- A life-cycle group that a fired transition has begun: its target (R327). -/
  partialLc : Option Nat := none
  /-- Owner hashes by index, and the mask of revoked ones. -/
  owners : Assoc Bytes := []
  revoked : Nat := 0
  svn : Nat := 0
  deriving DecidableEq, Repr

/-- The clocks (R316 to R318). -/
structure ClkSt where
  rootOk : Bool := true
  sysPll : Bool := true
  dramPll : Bool := true
  onFallback : Bool := false
  refExt : Bool := false
  lossTick : Nat := 0
  deriving DecidableEq, Repr

/-- Where boot stands (R323, R324). -/
inductive BootPhase where
  | inReset | running | holding | noBank
  deriving DecidableEq, Repr

/-- Reset, boot and life cycle (R319 to R331). -/
structure RstSt where
  fuse : FuseSt := {}
  /-- The life-cycle shadow of the plinth. -/
  lcShadow : Nat := 1
  phase : BootPhase := .inReset
  warm : Bool := false
  /-- Tick of the last reset's release, or of the start of a wait for a bank. -/
  phaseTick : Nat := 0
  /-- Boots failed per bank since the reset, and the trial has failed (R323). -/
  fails : Assoc Nat := []
  trialFailed : Bool := false
  /-- Custody class of slot 0 (R256). -/
  custody : Nat := 0
  /-- A life-cycle transition has fired at this tick and its FULL reset is due (R327). -/
  lcReset : Option Nat := none
  /-- BOOT_SEL as sampled at the last reset's release (R321). -/
  bootSel : Nat := 0
  /-- An authorisation in verification: its target, address and the nonce it must cover (R326). -/
  authJob : Option (Nat × Nat × Bytes) := none
  tamperPinHigh : Bool := true
  /-- The plinth has lost its contents since the last start-up (R301, R328). -/
  vbatLost : Bool := false
  /-- A tamper latch made while VIN was absent waits for the next start-up (R328). -/
  tamperWaits : Bool := false
  deriving DecidableEq, Repr

/-- The NOR controller, the image check, the microcode loader and the watchdog (R329 to R333). -/
structure SysSt where
  /-- A NOR operation in progress: 1 ERASE or 2 PROGRAM, offset, source. -/
  norJob : Option (Nat × Nat × Nat) := none
  imgJob : Option Nat := none
  ucJob : Option Nat := none
  /-- Tick of the last kick, or of the warning since; the tick at which a halted core began to hold the watchdog. -/
  wdtTick : Nat := 0
  wdtWarned : Bool := false
  wdtHeld : Option Nat := none
  /-- The security core's firmware runs. -/
  secRunning : Bool := false
  /-- Interrupts that SYS_MBOX_TO_SEC has raised on the security core (R336). -/
  secIrqs : Nat := 0
  /-- Restarts of the application cores at SYS_APP_VECTOR (R319). -/
  coreStarts : Nat := 0
  deriving DecidableEq, Repr

/-- What an NVMe command that NVS has submitted is for (R335). -/
inductive NvsKind where
  | journal | archive (sealSeq : Nat) | generation (gen : Nat) | flush
  deriving DecidableEq, Repr

/-- One submitted NVMe command. -/
structure NvsCmd where
  kind : NvsKind
  tick : Nat
  blocks : Nat
  deriving DecidableEq, Repr

/-- MEM, NVS and PCI (R334, R335). -/
structure IoSt where
  initBusy : Bool := false
  /-- Bit p: the engine of page p has read an uncorrectable word and takes no new work until its SOFT_RST (R334). -/
  stopped : Nat := 0
  scrubbing : Bool := false
  summaryTick : Nat := 0
  summaryCount : Nat := 0
  /-- Head of the journal range, and the blocks the archive holds. -/
  jrnHead : Nat := 0
  arcHead : Nat := 0
  /-- The head of the journal range has reached NVS_JRN_TAIL (R335). -/
  jrnFull : Bool := false
  outstanding : List NvsCmd := []
  /-- Commands that wait for leave of class 13 (R335). -/
  nvsWait : List NvsCmd := []
  /-- Journal writes completed since reset, and submitted. -/
  jrnDone : Nat := 0
  jrnSent : Nat := 0
  linkUp : Bool := false
  /-- Size of the NVMe drive behind the link in GB, 0 none (R11). -/
  driveGb : Nat := 0
  perstTick : Option Nat := none
  perstHigh : Bool := false
  deriving DecidableEq, Repr

/-- PG_STAT.STATE of the panel (R349). -/
inductive PanelState where
  | off | rampUp | run | rampDown | fault
  deriving DecidableEq, Repr

/-- The status panel driver (R340 to R349). -/
structure DspSt where
  st : PanelState := .off
  /-- Steps of the switch-on sequence completed (R344): rails VCOML, VCOMH, VSNK, VSEG. -/
  step : Nat := 0
  /-- The on-die frame store (R343). -/
  store : Bytes := []
  shown : Bool := false
  /-- Start tick of the frame being scanned. -/
  frame : Option Nat := none
  /-- Start tick of the off sequence; its discharge has been counted; it ends in FAULT. -/
  offTick : Nat := 0
  discharged : Bool := false
  toFault : Bool := false
  /-- FAULT_RAIL: VSEG, VCOMH, VCOML, VSNK. -/
  faultRail : Nat := 0
  /-- The PANEL_RST output (R344, R345). -/
  rstHigh : Bool := false
  deriving DecidableEq, Repr

/-- The instructions of the test access port (R368). -/
inductive TapInstr where
  | idcode | sample | extest | clamp | highz | reset | dtmcs | dmi | bypass
  deriving DecidableEq, Repr

/-- The test access port (R368, R369). Bit n of boundary is cell n. -/
structure JtagSt where
  instr : TapInstr := .idcode
  boundary : Nat := 0
  deriving DecidableEq, Repr

end Sys2Proof.Machine
end

