-- ==== Sys2Proof/Machine/StateWire.lean ====
section
/-!
DEFINITION. The state of the trunk ring, the uplink and the field buses beyond their registers (R216 to R235).
-/
namespace Sys2Proof.Machine

/-- A ring port (R222): PCS synchronisation, whether it counts as down, its HELLOs, and the neighbour's READY. -/
structure RingPort where
  sync : Bool := false
  down : Bool := false
  helloTick : Option Nat := none
  helloSent : Nat := 0
  /-- Tick since which a down port runs clean, and its READY. -/
  clean : Option Nat := none
  ready : Bool := false
  peerReady : Bool := false
  deriving DecidableEq, Repr

/-- The ring station (R216 to R223). -/
structure TrkSt where
  p0 : RingPort := {}
  p1 : RingPort := {}
  gen : Nat := 0
  admitted : Bool := false
  master : Bool := false
  /-- The station may become master: its enable, a keystone or a takeover stands since it last yielded. -/
  mayMaster : Bool := false
  unwrapReq : Bool := false
  join : Nat := 0
  /-- Tick of a refusal after which the station does not yet ask again (R221). -/
  refused : Option Nat := none
  members : List Nat := []
  rot : Nat := 0
  masterStn : Nat := 0
  /-- Tick at which the token left the master, and at which its CLAIM did (R220). -/
  tokenOut : Option Nat := none
  claimOut : Option Nat := none
  deriving DecidableEq, Repr

/-- A management session (R227, R228): tick of its last request, and the frame of its cached reply. -/
structure Session where
  tick : Nat := 0
  reply : Option Bytes := none
  deriving DecidableEq, Repr

/-- The uplink. -/
structure UplSt where
  /-- A PAUSE holds transmission until this tick. -/
  pauseEnd : Nat := 0
  sessions : Assoc Session := []
  deriving DecidableEq, Repr

/-- The transaction in progress on a field bus (R231). -/
structure FbTrans where
  /-- The poll list entry; none for a job of the transmit queue. -/
  entry : Option Nat
  mbus : Bool
  bcast : Bool
  req : Bytes
  tmo : Nat
  retries : Nat
  pollCnt : Nat
  tries : Nat := 0
  /-- Tick of the request's last stop bit. -/
  sent : Nat
  deriving DecidableEq, Repr

/-- An entry that is due, and since which extended time. -/
structure PollDue where
  entry : Nat
  due : Nat
  deriving DecidableEq, Repr

/-- A field bus port. -/
structure FbSt where
  trans : Option FbTrans := none
  waiting : List PollDue := []
  /-- Due instants handled, by entry; instants up to since are not taken. -/
  handled : Assoc Nat := []
  since : Nat := 0
  deriving DecidableEq, Repr

end Sys2Proof.Machine
end

