-- ==== Sys2Proof/Machine/State.lean ====
section
/-!
DEFINITION. The state of the block, the reasons a step can stop, and the state after reset.
-/
namespace Sys2Proof.Machine

/-- An event as it was raised, waiting for the condition recorder (R280). -/
structure Raised where
  event : Nat
  page : Nat
  ext : Nat
  cls : Nat
  faultAddr : Nat
  faultInfo : Nat
  deriving DecidableEq, Repr

/-- The device: everything but the queue of waiting commands. -/
structure Dev where
  reg : RegSt := {}
  mem : Cells := []
  cmt : CmtSt := {}
  bus : BusSt := {}
  time : TimeSt := {}
  pin : PinSt := {}
  pwr : PwrSt := {}
  red : RedSt := {}
  key : KeySt := {}
  clk : ClkSt := {}
  rst : RstSt := {}
  sys : SysSt := {}
  io : IoSt := {}
  qry : QrySt := {}
  ing : IngSt := {}
  epc : EpcSt := {}
  trf : TrfSt := {}
  bal : BalSt := {}
  obj : ObjSt := {}
  dst : DstSt := {}
  rad : RadSt := {}
  plc : PlcSt := {}
  trk : TrkSt := {}
  upl : UplSt := {}
  fb : Assoc FbSt := []
  rcd : RecSt := {}
  dsp : DspSt := {}
  jtag : JtagSt := {}
  /-- Events raised and not yet taken by the recorder, oldest first. -/
  evq : List Raised := []
  /-- What the block has sent, oldest first; the model's own record, no register of the part. -/
  out : List Sent := []
  /-- The model's own counter of free values taken; no register of the part. -/
  free : Nat := 0
  deriving DecidableEq, Repr

/-- The machine: the device, and the commands that wait, first in, first out. -/
structure State where
  dev : Dev
  pending : List Instr
  deriving DecidableEq, Repr

/-- Why a step can fault. -/
inductive Fault where
  /-- Raised by a command whose operand no environment of the hardware can present (a frame longer than its medium
  carries, a land that does not exist). Safe: the model stops where the hardware has no such input. -/
  | impossibleOperand (mnemonic : String)
  deriving DecidableEq, Repr

/-- Why a step can be refused. -/
inductive Refusal where
  /-- The command has no meaning in the model yet. Safe: the model stops where the hardware goes on. -/
  | notModelled (mnemonic : String)
  deriving DecidableEq, Repr

/-- The life-cycle nonce that a reset draws (R326): free values. -/
def nonceAtReset : RegMap := (List.range 8).map fun i => (0xE00041A0 + 4 * i, Config.freeWord i)

/-- The device after reset: after a power-on reset, which sets its bit of RST_CAUSE (R320). -/
def Dev.reset : Dev := { reg := { live := (0xE0004180, 1#32) :: nonceAtReset }, free := 8 }

/-- The machine after reset: every register at its reset value, nothing waiting. -/
def State.reset : State := { dev := Dev.reset, pending := [] }

/-- The outcome of a command that changes the device and leaves the queue alone. -/
def State.act (s : State) (f : Dev → Dev) : Host.Outcome State Fault Refusal :=
  .next { s with dev := f s.dev }

end Sys2Proof.Machine
end

