-- ==== Sys2Proof/Machine/Ops.lean ====
section
/-!
DEFINITION. The named operations over the register file, the time base's value, memory, events and the fault log that the
meanings share.
-/
namespace Sys2Proof.Machine

/-! ## Registers -/

/-- The live word at an address, as a number. -/
def Dev.rd (d : Dev) (a : Nat) : Nat := (RegMap.get resetWord d.reg.live a).toNat

/-- Store a live word. -/
def Dev.wr (d : Dev) (a v : Nat) : Dev :=
  { d with reg := { d.reg with live := RegMap.put d.reg.live a (BitVec.ofNat 32 v) } }

/-- The staged word of a live address (R30). -/
def Dev.rdShadow (d : Dev) (a : Nat) : Nat := (RegMap.get resetWord d.reg.shadow a).toNat

/-- Store a shadow word, without touching its dirty flag. -/
def Dev.wrShadow (d : Dev) (a v : Nat) : Dev :=
  { d with reg := { d.reg with shadow := RegMap.put d.reg.shadow a (BitVec.ofNat 32 v) } }

/-- A live S word written by the hardware: a clean shadow follows it (DEDUCED from R30). -/
def Dev.wrS (d : Dev) (a v : Nat) : Dev :=
  if d.reg.dirty.contains a then d.wr a v else (d.wr a v).wrShadow a v

/-- Field [hi:lo] of a live word. -/
def Dev.fld (d : Dev) (a hi lo : Nat) : Nat := bitsOf (d.rd a) hi lo

/-- Bit i of a live word. -/
def Dev.bit (d : Dev) (a i : Nat) : Bool := (d.rd a).testBit i

/-- Replace field [hi:lo] of a live word. -/
def Dev.wrFld (d : Dev) (a hi lo v : Nat) : Dev := d.wr a (setFld (d.rd a) hi lo v)

/-- The 64-bit pair whose _LO half is at an address (R7). -/
def Dev.rd64 (d : Dev) (a : Nat) : Nat := d.rd a + 2 ^ 32 * d.rd (a + 4)

/-- Store a 64-bit pair. -/
def Dev.wr64 (d : Dev) (a v : Nat) : Dev := (d.wr a v).wr (a + 4) (v / 2 ^ 32)

/-- A C counter goes up by n and saturates at its all-ones value (R5). -/
def Dev.bump (d : Dev) (a : Nat) (n : Nat := 1) : Dev := d.wr a (satNat (d.rd a + n) m32)

/-- The word of the merged configuration (R30): staged where dirty, live elsewhere. -/
def Dev.mrd (d : Dev) (a : Nat) : Nat := if d.reg.dirty.contains a then d.rdShadow a else d.rd a

/-- The word that governs the medium: the old one until the boundary of a boundary-class register (R41). -/
def Dev.gov (d : Dev) (a : Nat) : Nat :=
  match d.reg.medium.find? (fun h => h.addr == a) with
  | some h => h.old.toNat
  | none => d.rd a

/-- The 64-bit pair that governs the medium. -/
def Dev.gov64 (d : Dev) (a : Nat) : Nat := d.gov a + 2 ^ 32 * d.gov (a + 4)

/-- A medium has reached its boundary: the addresses that meet a test are governed by their live words from here (R41). -/
def Dev.boundary (d : Dev) (f : Nat → Bool) : Dev :=
  { d with reg := { d.reg with medium := d.reg.medium.filter fun h => !f h.addr } }

/-- The addresses of page p, and of lane n. -/
def onPage (p a : Nat) : Bool := match regionOf a with | .page q _ => q == p | _ => false
def onLane (n a : Nat) : Bool := match regionOf a with | .lane m _ _ => m == n | _ => false

/-- The word that governs until the next epoch boundary for an epoch-boundary register (R76, R129). -/
def Dev.govEpoch (d : Dev) (a : Nat) : Nat :=
  match d.reg.epochHeld.find? (fun h => h.addr == a) with
  | some h => h.old.toNat
  | none => d.rd a

/-- The 64-bit pair that governs until the next epoch boundary. -/
def Dev.govEpoch64 (d : Dev) (a : Nat) : Nat := d.govEpoch a + 2 ^ 32 * d.govEpoch (a + 4)

/-- A word under the generations of R42: the earliest fire later than t that changed it holds its value at t. -/
def cfgAtIn (t a : Nat) (now : Nat) : List GenRec → Nat
  | [] => now
  | g :: rest =>
    if t < g.fired then
      match g.old.find? (fun e => e.1 == a) with
      | some e => e.2.toNat
      | none => cfgAtIn t a now rest
    else cfgAtIn t a now rest

/-- A data-engine word under the generation that was live at extended time t (R42). -/
def Dev.cfgAt (d : Dev) (t a : Nat) : Nat := cfgAtIn t a (d.rd a) d.cmt.gens

/-- A 64-bit pair of a data engine under the generation live at t. -/
def Dev.cfgAt64 (d : Dev) (t a : Nat) : Nat := d.cfgAt t a + 2 ^ 32 * d.cfgAt t (a + 4)

/-- PG_CTRL.EN of page p. -/
def Dev.en (d : Dev) (p : Nat) : Bool := d.bit (PG_CTRL p) 0

/-! ## Time -/

/-- The extended time in ns (R236). -/
def Dev.ext (d : Dev) : Nat := d.time.wrap * 2 ^ 32 + d.time.acc / 2 ^ 32

/-- Ticks of 4 ns in n µs and in n ms. -/
abbrev usTicks (n : Nat) : Nat := n * 250
abbrev msTicks (n : Nat) : Nat := n * 250000

/-- n ticks have passed since tick t. -/
def Dev.past (d : Dev) (t n : Nat) : Bool := decide (t + n ≤ d.time.ticks)

/-! ## Free values -/

/-- The next free value, a word no proof can know. -/
def Dev.freeVal (d : Dev) : Nat := (Config.freeWord d.free).toNat

/-- The counter of free values moved on by n. -/
def Dev.tookFree (d : Dev) (n : Nat := 1) : Dev := { d with free := d.free + n }

/-- n free bytes from the counter, one free value for each byte. -/
def freeBytesFrom : Nat → Nat → Bytes
  | _, 0 => []
  | k, n + 1 => BitVec.ofNat 8 (Config.freeWord k).toNat :: freeBytesFrom (k + 1) n

/-- n free bytes at the present counter. -/
def Dev.freeBytes (d : Dev) (n : Nat) : Bytes := freeBytesFrom d.free n

/-! ## Memory (R15, R334) -/

/-- Addresses that a store reaches: DRAM and the two SRAMs. -/
def storable (a : Nat) : Bool :=
  match regionOf a with
  | .coreSram => true
  | .secureSram => true
  | .dram => true
  | _ => false

/-- The canonical form of memory: rising addresses, no entry equal to what an unlisted address reads as. -/
def Memory.wf (m : Cells) : Bool := Cells.wf memDflt m

/-- One byte of memory. -/
def Dev.ldByte (d : Dev) (a : Nat) : Byte := Cells.get memDflt d.mem a

/-- Store one byte of memory, whatever region holds it. -/
def Dev.putByte (d : Dev) (a : Nat) (v : Byte) : Dev := { d with mem := Cells.put memDflt d.mem a v }

/-- Store one byte where a store reaches memory; elsewhere nothing is stored (R16). -/
def Dev.stByte (d : Dev) (a : Nat) (v : Byte) : Dev := if storable a then d.putByte a v else d

/-- n bytes of memory from an address. -/
def Dev.ldBytes (d : Dev) : Nat → Nat → Bytes
  | _, 0 => []
  | a, n + 1 => d.ldByte a :: d.ldBytes (a + 1) n

/-- Store a byte string. -/
def Dev.stBytes (d : Dev) : Nat → Bytes → Dev
  | _, [] => d
  | a, b :: t => (d.stByte a b).stBytes (a + 1) t

/-- Put a byte string, whatever region holds it (the NOR controller, R329). -/
def Dev.putBytes (d : Dev) : Nat → Bytes → Dev
  | _, [] => d
  | a, b :: t => (d.putByte a b).putBytes (a + 1) t

/-- The little-endian number of n bytes (R4). -/
def Dev.ld (d : Dev) (a n : Nat) : Nat := leNat (d.ldBytes a n)

/-- Store a number as n little-endian bytes (R4). -/
def Dev.st (d : Dev) (a n v : Nat) : Dev := d.stBytes a (leBytes n v)

/-- A block of n bytes from a lies within DRAM. -/
def inDram (a n : Nat) : Bool :=
  decide (Config.dramBase ≤ a) && decide (a + n ≤ Config.dramBase + Config.dramSize)

/-- An area of n bytes at a would run past the end of DRAM (R94, R112, R145, R276). -/
def pastEnd (a n : Nat) : Bool := decide (Config.dramBase + Config.dramSize < a + n)

/-! ## Events (R24, R28, R29) -/

/-- The events of a page in ascending number, bit 0 first (R24). -/
def pageEvents (p : Nat) : List Nat :=
  match p with
  | 0 => [56, 59, 63]
  | 1 => [5, 6, 7]
  | 2 => [0, 1, 2, 3]
  | 3 => [4]
  | 4 => [57]
  | 5 => [58]
  | 7 => [24, 25]
  | 8 => [15, 61]
  | 9 => [12, 13, 14]
  | 10 => [16, 17, 18, 19, 62]
  | 11 => [20, 21]
  | 13 => [23]
  | 14 => [22, 60]
  | 15 => [22, 60]
  | 16 => [22, 60]
  | 17 => [22, 60]
  | 18 => [8, 9, 10, 11]
  | 19 => [26, 27]
  | 20 => [28, 29, 30]
  | 21 => [31, 32, 33]
  | 23 => [34, 35]
  | 24 => [36, 37]
  | 25 => [38, 39, 40]
  | 26 => [41, 42]
  | 27 => [43, 44, 45, 46, 47]
  | 28 => [48, 49]
  | 29 => [50, 51]
  | 30 => [52, 53]
  | 31 => [54]
  | _ => []

/-- The event at bit b of page p; bit 31 of every page is event 55. -/
def eventAt (p b : Nat) : Nat := if b = 31 then 55 else (pageEvents p).getD b 55

/-- TIM_STAT.CLASS code of a class. -/
def ClockClass.code : ClockClass → Nat
  | .synced => 0
  | .holdover => 1
  | .rtcOnly => 2
  | .invalid => 3

/-- The worse of two classes, in the order SYNCED, HOLDOVER, RTC_ONLY, INVALID (R251). -/
def ClockClass.worse (a b : ClockClass) : ClockClass := if a.code < b.code then b else a

/-- The pair has this module in STANDBY or RESYNC (R48, notes d and e). -/
def Dev.pairSlave (d : Dev) : Bool := d.red.state == .standby || d.red.state == .resync

/-- The effective correction mode (R48, note e): 0 MANUAL, 1 SERVO, 2 ASSISTED. -/
def Dev.timMode (d : Dev) : Nat := if d.pairSlave then 1 else d.fld TIM_CORR 1 0

/-- The effective sample source: 0 PPS_IN, 1 FIRMWARE, 4 PAIR. -/
def Dev.timSrc (d : Dev) : Nat := if d.pairSlave then 4 else d.fld TIM_CORR 3 2

/-- TIM_STAT.CLASS: with the FIRMWARE source the worse of the table's class and the reference's (R251). -/
def Dev.cls (d : Dev) : ClockClass :=
  if d.timMode ≠ 0 ∧ d.timSrc = 1 then d.time.cls.worse d.time.refCls else d.time.cls

/-- Send a byte string by a port. -/
def Dev.send (d : Dev) (p : OutPort) (bs : Bytes) : Dev :=
  { d with out := d.out ++ [{ port := p, ext := d.ext, bytes := bs }] }

/-- Set pending bit b of page p. -/
def Dev.setPend (d : Dev) (p b : Nat) : Dev := d.wr (PG_EVT_PEND p) (d.rd (PG_EVT_PEND p) ||| 2 ^ b)

/-- Raise the event at bit b of page p: PG_EVT_EN lets it set its pending bit; bit 31 always sets (R24, R28).
The raising is kept for the condition recorder (R280). -/
def Dev.raise (d : Dev) (p b : Nat) : Dev :=
  let e : Raised := { event := eventAt p b, page := p, ext := d.ext, cls := d.cls.code,
                      faultAddr := d.rd (PG_FAULT_ADDR p), faultInfo := d.rd (PG_FAULT_INFO p) }
  let d := { d with evq := d.evq ++ [e] }
  if b = 31 ∨ d.bit (PG_EVT_EN p) b then d.setPend p b else d

/-- The recorder's open records take a time step, and a clock class (R277). -/
def RecSt.noteStep (r : RecSt) : RecSt :=
  let ss : Assoc Span := r.spans.map fun (s : Nat × Span) => (s.1, { s.2 with stepped := true })
  { r with spans := ss, cond := r.cond.map fun c => { c with stepped := true } }
def RecSt.noteClass (r : RecSt) (c : Nat) : RecSt :=
  let ss : Assoc Span := r.spans.map fun (s : Nat × Span) => (s.1, { s.2 with worst := max s.2.worst c })
  { r with spans := ss, cond := r.cond.map fun o => { o with worst := max o.worst c } }

/-- A time step as EPC sees it (R75, R85, R379): the open epoch, and the unsealed ones the step reaches back into, are
STEPPED; the span of a forward step is kept. Open records of the recorder are STEPPED too (R277). -/
def Dev.noteStep (d : Dev) (old new : Nat) : Dev :=
  let e := d.epc
  let d := { d with rcd := d.rcd.noteStep }
  { d with epc := { e with
    stepped := true,
    stepFrom := if old < new then old else e.stepFrom, stepTo := if old < new then new else e.stepTo,
    unsealed := e.unsealed.map fun r => if new < r.tEnd then { r with stepped := true } else r } }

/-- The clock class as the engines follow it: the epoch's worst class (R85), and event 32 once per stay in INVALID (R99). -/
def Dev.noteClass (d : Dev) : Dev :=
  let d := { d with epc := { d.epc with worst := max d.epc.worst d.cls.code } }
  let d := { d with rcd := d.rcd.noteClass d.cls.code }
  let inv : Bool := d.cls == .invalid
  let fresh := inv && !d.trf.invalidRaised && d.en pTRF
  let d := { d with trf := { d.trf with invalidRaised := inv } }
  if fresh then d.raise pTRF 1 else d

/-- What a block makes of a write that the access rules admit: stored by its class, refused with a cause of R27, or done. -/
inductive WriteRes where
  | plain
  | refuse (cause : Nat)
  | done (d : Dev)

/-! ## Violations (R27, R28) -/

/-- The code of a requester role in PG_FAULT_INFO.ROLE (R24). -/
def roleCode : ReqRole → Nat
  | .sec => 0
  | .sys => 1
  | .app => 2
  | .ext => 3
  | .dbg => 4

abbrev NO_REG : Nat := 1
abbrev ROLE_DENIED : Nat := 2
abbrev STAGED_ONLY : Nat := 3
abbrev COMMIT_LOCK : Nat := 4
abbrev WIDTH : Nat := 5
abbrev LIFECYCLE : Nat := 6
abbrev ENGINE_BUSY : Nat := 7

/-- Page p logs a violation: the first in full, with FAULT and event 55; a later one only counts (R28). -/
def Dev.logFault (d : Dev) (p addr cause : Nat) (role : ReqRole) (write : Bool) : Dev :=
  let info := d.rd (PG_FAULT_INFO p)
  if info = 0 then
    let d := d.wr (PG_FAULT_ADDR p) addr
    let d := d.wr (PG_FAULT_INFO p) (cause + 16 * roleCode role + 128 * b2n write)
    d.raise p 31
  else if bitsOf info 15 8 < 255 then d.wr (PG_FAULT_INFO p) (info + 256)
  else d

/-- The page that logs a violation at an address (R28). -/
def faultPage (a : Nat) : Nat :=
  match regionOf a with
  | .page p _ => p
  | .queue _ _ _ => pQRY
  | .lane _ _ _ => pRMC
  | _ => pSYS

/-- A violation: error response, 0 for a read, logged by the page that holds the address (R27, R28). -/
def Dev.violate (d : Dev) (r : Requester) (addr cause : Nat) (write : Bool) : Dev :=
  let d := d.logFault (faultPage addr) addr cause r.role write
  { d with bus := { d.bus with cause := some cause, data := 0 } }

/-- The answer of an access that went through. -/
def Dev.answer (d : Dev) (v : Nat) : Dev := { d with bus := { d.bus with cause := none, data := v } }

/-- Clear a page's fault log and FAULT (R28). -/
def Dev.clearFault (d : Dev) (p : Nat) : Dev :=
  let d := d.wr (PG_FAULT_ADDR p) 0
  let d := d.wr (PG_FAULT_INFO p) 0
  d.wr (PG_EVT_PEND p) (setBit (d.rd (PG_EVT_PEND p)) 31 false)

/-! ## Whether a block runs -/

/-- The life-cycle state of the fuses (R325): 0 RAW to 5 SCRAPPED. -/
def Dev.lc (d : Dev) : Nat := d.rst.fuse.lc

/-- The DBG role is enabled: RAW, FACTORY and RETURNED (R26). -/
def Dev.dbgOn (d : Dev) : Bool := d.lc == 0 || d.lc == 1 || d.lc == 4

/-- DBG_FREEZE holds page p (R24). -/
def Dev.frozen (d : Dev) (p : Nat) : Bool := d.bus.halted && d.bit (PG_CTRL p) 2 && d.dbgOn

/-- DRAM accesses go through (R318): not held in self-refresh. -/
def Dev.dramUp (d : Dev) : Bool := d.clk.rootOk && d.clk.dramPll

/-- The block of page p runs: enabled and not frozen (R24). -/
def Dev.runs (d : Dev) (p : Nat) : Bool := d.en p && !d.frozen p

/-- Page p drains or holds drained for a keystone (R44). -/
def Dev.drains (d : Dev) (p : Nat) : Bool := d.cmt.draining.testBit p

/-- The engine of page p may go on with an operation: it runs, DRAM answers (R318), no uncorrectable word has stopped it (R334),
and the device does not hold after a power-fail flush (R305). -/
def Dev.continues (d : Dev) (p : Nat) : Bool := d.runs p && d.dramUp && !d.io.stopped.testBit p && !d.pwr.flushDone

/-- The engine of page p may start a new operation: it may go on, and does not drain (R44). -/
def Dev.starts (d : Dev) (p : Nat) : Bool := d.continues p && !d.drains p

/-- A link block may start a frame: it may start, and no power-fail warning has fired (R307, step 1). -/
def Dev.linkStarts (d : Dev) (p : Nat) : Bool := d.starts p && !d.pwr.pfActive

/-! ## Modes -/

/-- The live role: 0 FIELD, 1 HEAD_END, 2 COMBINED (R45). -/
def Dev.role (d : Dev) : Nat := d.fld SYS_ROLE 1 0

/-- Do f for each element of a list, from the left. -/
def Dev.each {α : Type} (d : Dev) (l : List α) (f : Dev → α → Dev) : Dev := l.foldl f d

/-- Do f when a condition holds. -/
def Dev.iff (d : Dev) (c : Bool) (f : Dev → Dev) : Dev := if c then f d else d

end Sys2Proof.Machine
end

