-- ==== Sys2Proof/Machine/Operands.lean ====
section
/-!
DEFINITION. The operand forms of the engines: the record layouts that commands read from memory and write to it (R56, R58,
R59, R63, R64), each as a structure with its reader and its writer.
-/
namespace Sys2Proof.Machine

/-- A signed little-endian number of n bytes at an offset. -/
def sleAt (bs : Bytes) (o n : Nat) : Int := sext (8 * n) (leAt bs o n)

/-- The reading record (R59). -/
structure Reading where
  addr : Nat
  t : Nat
  raw : Int
  aux1 : Nat
  aux2 : Int
  seq : Nat
  unit : Nat
  exp : Int
  src : Nat
  quality : Nat
  rule : Nat
  status : Nat
  tUnc : Nat
  deriving DecidableEq, Repr

/-- A reading record from its 48 bytes. -/
def Reading.ofBytes (b : Bytes) : Reading :=
  { addr := leAt b 0 8, t := leAt b 8 8, raw := sleAt b 0x10 8, aux1 := leAt b 0x18 4, aux2 := sleAt b 0x1C 4,
    seq := leAt b 0x20 4, unit := leAt b 0x24 1, exp := sleAt b 0x25 1, src := leAt b 0x26 2,
    quality := leAt b 0x28 1, rule := leAt b 0x29 1, status := leAt b 0x2A 2, tUnc := leAt b 0x2C 4 }

/-- The 48 bytes of a reading record. -/
def Reading.toBytes (r : Reading) : Bytes :=
  leBytes 8 r.addr ++ leBytes 8 r.t ++ leBytes 8 (enc 64 r.raw) ++ leBytes 4 r.aux1 ++ leBytes 4 (enc 32 r.aux2) ++
  leBytes 4 r.seq ++ leBytes 1 r.unit ++ leBytes 1 (enc 8 r.exp) ++ leBytes 2 r.src ++ leBytes 1 r.quality ++
  leBytes 1 r.rule ++ leBytes 2 r.status ++ leBytes 4 r.tUnc

/-- The clock validity class of a reading (R59, SRC [14:13]). -/
def Reading.cls (r : Reading) : Nat := bitsOf r.src 14 13

/-- The compact form of a reading (R58); t = 0 is an absent reading. -/
structure Compact where
  t : Nat
  raw : Int
  aux1 : Nat
  aux2 : Int
  seq : Nat
  quality : Nat
  rule : Nat
  status : Nat
  deriving DecidableEq, Repr

/-- A compact reading from its 32 bytes. -/
def Compact.ofBytes (b : Bytes) : Compact :=
  { t := leAt b 0 8, raw := sleAt b 8 8, aux1 := leAt b 0x10 4, aux2 := sleAt b 0x14 4, seq := leAt b 0x18 4,
    quality := leAt b 0x1C 1, rule := leAt b 0x1D 1, status := leAt b 0x1E 2 }

/-- The compact bytes of a reading. -/
def Reading.compact (r : Reading) : Bytes :=
  leBytes 8 r.t ++ leBytes 8 (enc 64 r.raw) ++ leBytes 4 r.aux1 ++ leBytes 4 (enc 32 r.aux2) ++ leBytes 4 r.seq ++
  leBytes 1 r.quality ++ leBytes 1 r.rule ++ leBytes 2 r.status

/-! Offsets of the endpoint record (R58). -/
abbrev rADDR : Nat := 0x000
abbrev rIDX_STATE : Nat := 0x008
abbrev rASSIGN : Nat := 0x00C
abbrev rASSIGN2 : Nat := 0x010
abbrev rREG_GEN : Nat := 0x014
abbrev rREG_TIME : Nat := 0x018
abbrev rNEWEST : Nat := 0x020
abbrev rOLDER : Nat := 0x040
abbrev rCUM_FWD : Nat := 0x080
abbrev rCUM_REV : Nat := 0x088
abbrev rCUM_EDIT : Nat := 0x090
abbrev rCUM_METER : Nat := 0x098
abbrev rTARIFF : Nat := 0x0A0
abbrev rMAXDEM : Nat := 0x0E0
abbrev rDEMAND : Nat := 0x110
abbrev rTRIP_MASK : Nat := 0x150
abbrev rSTUCK_RUN : Nat := 0x152
abbrev rCONSEC_TRIPS : Nat := 0x154
abbrev rREPLAY_RUN : Nat := 0x156
abbrev rLAST_TAMPER : Nat := 0x158
abbrev rZONES : Nat := 0x160
abbrev rSECURITY : Nat := 0x170

/-- States of a hash entry and of a record (R56). -/
abbrev stEMPTY : Nat := 0
abbrev stLIVE : Nat := 1
abbrev stSUSPENDED : Nat := 2
abbrev stTOMBSTONE : Nat := 3

/-- A validation profile (R63). -/
structure VProf where
  actions : Nat
  pMin : Nat
  pMax : Nat
  tMin : Int
  tMax : Int
  stuckN : Nat
  gapMax : Nat
  rateMax : Nat
  decreaseTol : Nat
  rollover : Nat
  deriving DecidableEq, Repr

/-- A validation profile from its 64 bytes. -/
def VProf.ofBytes (b : Bytes) : VProf :=
  { actions := leAt b 0 4, pMin := leAt b 4 4, pMax := leAt b 8 4, tMin := sleAt b 0xC 4, tMax := sleAt b 0x10 4,
    stuckN := leAt b 0x14 2, gapMax := leAt b 0x18 4, rateMax := leAt b 0x20 8, decreaseTol := leAt b 0x28 8,
    rollover := leAt b 0x30 8 }

/-- The action of rule k: 0 OFF, 1 FLAG, 2 HOLD, 3 reserved. -/
def VProf.act (v : VProf) (k : Nat) : Nat := bitsOf v.actions (2 * k - 1) (2 * k - 2)

/-- SIGNED and USES_AUX. -/
def VProf.signed (v : VProf) : Bool := v.actions.testBit 16
def VProf.usesAux (v : VProf) : Bool := v.actions.testBit 17

/-- Some rule's action is the reserved encoding (R63). -/
def VProf.reserved (v : VProf) : Bool := (List.range 8).any fun k => v.act (k + 1) == 3

/-- A conversion profile (R64). -/
structure CProf where
  mode : Nat
  saturated : Bool
  gauge : Bool
  pAtm : Nat
  tRef : Nat
  pRef : Nat
  deriving DecidableEq, Repr

/-- A conversion profile from its 32 bytes. -/
def CProf.ofBytes (b : Bytes) : CProf :=
  { mode := leAt b 0 1, saturated := (leAt b 1 1).testBit 0, gauge := (leAt b 1 1).testBit 1, pAtm := leAt b 4 4,
    tRef := leAt b 8 4, pRef := leAt b 0xC 4 }

end Sys2Proof.Machine
end

