-- ==== Sys2Proof/Machine/Flags.lean ====
section
/-!
DEFINITION. The quality flags of a reading (R66) and the tests over them.
-/
namespace Sys2Proof.Machine

abbrev qVALID : Nat := 1
abbrev qESTIMATED : Nat := 2
abbrev qEDITED : Nat := 4
abbrev qSUSPECT : Nat := 8
abbrev qLATE : Nat := 16
abbrev qREPLAY : Nat := 32
abbrev qCLOCK : Nat := 64
abbrev qTAMPER : Nat := 128

/-- The flags of which one suffices to refuse VALID (R66). -/
abbrev qBAD : Nat := qSUSPECT + qREPLAY + qCLOCK + qTAMPER

/-- VALID decided afresh: set when no bad flag is set, cleared otherwise (R66). -/
def decideValid (q : Nat) : Nat :=
  let q := setBit (q % 256) 0 false
  if q &&& qBAD = 0 then q + qVALID else q

/-- The flag rule k sets (R62). -/
def ruleFlag (k : Nat) : Nat := if k = 1 then qCLOCK else if k = 3 then qTAMPER else qSUSPECT

/-- A reading with flags added and VALID decided. -/
def Reading.withFlags (r : Reading) (q : Nat) : Reading := { r with quality := decideValid (r.quality ||| q) }

end Sys2Proof.Machine
end

