-- ==== Sys2Proof/Machine/Frac.lean ====
section
/-!
DEFINITION. Exact fractions, in which the model reads the "double" of the manual's formulas (DEDUCED: a formula rounds only
where it says so), with the roundings the formulas name and the square roots they take.
-/
namespace Sys2Proof.Machine

/-- A fraction, not reduced; den is positive. -/
structure Frac where
  num : Int
  den : Nat := 1
  deriving DecidableEq, Repr

/-- An integer as a fraction. -/
def Frac.ofInt (i : Int) : Frac := { num := i }

/-- A quotient; one with divisor 0 is 0. -/
def frac (n : Int) (m : Int) : Frac :=
  if m = 0 then { num := 0 } else if m < 0 then { num := -n, den := m.natAbs } else { num := n, den := m.natAbs }

/-- The sum of two fractions. -/
def Frac.add (a b : Frac) : Frac := { num := a.num * b.den + b.num * a.den, den := a.den * b.den }

/-- The difference of two fractions. -/
def Frac.sub (a b : Frac) : Frac := { num := a.num * b.den - b.num * a.den, den := a.den * b.den }

/-- The product of two fractions. -/
def Frac.mul (a b : Frac) : Frac := { num := a.num * b.num, den := a.den * b.den }

/-- The quotient of two fractions; by 0 it is 0. -/
def Frac.div (a b : Frac) : Frac := frac (a.num * b.den) (b.num * a.den)

/-- The absolute value. -/
def Frac.abs (a : Frac) : Frac := { num := a.num.natAbs, den := a.den }

/-- The square. -/
def Frac.sq (a : Frac) : Frac := a.mul a

/-- a ≤ b. -/
def Frac.le (a b : Frac) : Bool := decide (a.num * b.den ≤ b.num * a.den)

/-- a < b. -/
def Frac.lt (a b : Frac) : Bool := !b.le a

/-- The larger and the smaller of two fractions. -/
def Frac.max (a b : Frac) : Frac := if a.le b then b else a
def Frac.min (a b : Frac) : Frac := if a.le b then a else b

/-- Rounded to the nearest integer, ties away from zero. -/
def Frac.round (a : Frac) : Int := roundAway a.num a.den

/-- Rounded up. -/
def Frac.ceil (a : Frac) : Int := -((-a.num) / (a.den : Int))

/-- Rounded down. -/
def Frac.floor (a : Frac) : Int := a.num / (a.den : Int)

/-- The square root of a fraction, rounded up to an integer. -/
def Frac.sqrtUp (a : Frac) : Nat := isqrtUp a.ceil.toNat

/-- a / sqrt v in units of 2^-16, rounded to nearest, ties away from zero; v is positive. -/
def Frac.overSqrt (a v : Frac) : Int :=
  let q := (((Frac.ofInt (2 ^ 17)).mul a).sq.div v).floor.toNat
  let m := (isqrt q + 1) / 2
  if a.num < 0 then -(m : Int) else (m : Int)

/-- A sum of fractions. -/
def Frac.sum (l : List Frac) : Frac := l.foldl Frac.add (Frac.ofInt 0)

/-- Ten to an integer power. -/
def Frac.pow10 (e : Int) : Frac := if e < 0 then { num := 1, den := 10 ^ e.natAbs } else { num := 10 ^ e.natAbs }

end Sys2Proof.Machine
end

