-- ==== Sys2Proof/Machine/ConvOps.lean ====
section
/-!
DEFINITION. Conversion of a raw delta to a billed delta (R64, R65). The property functions are constants of Config; pressures
here are in µPa and temperatures in 10^-6 mK.
-/
namespace Sys2Proof.Machine

/-- The user overlay of the calibration page as the tables use it at extended time t (R332); empty: the fused tables. -/
def Dev.overlay (d : Dev) (t : Nat) : Bytes :=
  if (d.cfgAt t SYS_CAL).testBit 0 then d.ldBytes 0xD0020000 0x10000 else []

/-- A quantity in 10^-12. -/
def pico (i : Int) : Frac := { num := i, den := 10 ^ 12 }

/-- A pressure in µPa lies within 611.2 Pa to 10 MPa. -/
def pSteam (p : Nat) : Bool := decide (611200000 ≤ p) && decide (p ≤ 10000000000000)

/-- Density and enthalpy of steam (R65), region 2, or region 4 where saturated or at most 1 K below saturation; none outside
the supported range. -/
def steam (saturated : Bool) (p t : Nat) : Option (Frac × Frac) :=
  let vapour := some (pico (Config.vapourRho p), pico (Config.vapourH p))
  if !pSteam p then none
  else if saturated then vapour
  else if t < 273150000000 ∨ 863150000000 < t then none
  else if p ≤ Config.pSat t then some (pico (Config.steamRho p t), pico (Config.steamH p t))
  else if Config.tSat p ≤ t + 1000000000 then vapour
  else none

/-- Enthalpy of water, region 1 (R65): the reference enthalpy. -/
def hRef (p t : Nat) : Option Frac :=
  if t < 273150000000 ∨ 623150000000 < t ∨ p < Config.pSat t ∨ 10000000000000 < p then none
  else some (pico (Config.waterH p t))

/-- Z of air (R65). -/
def zAir (ov : Bytes) (p t : Nat) : Option Frac :=
  if p < 50000000000 ∨ 4000000000000 < p ∨ t < 233150000000 ∨ 373150000000 < t then none
  else some (pico (Config.airZ ov p t))

/-- Density of water (R65): 64 points from 0 °C in steps of 2 K, linear between them. -/
def rhoWater (ov : Bytes) (t : Nat) : Option Frac :=
  if t < 273150000000 ∨ 399150000000 < t then none
  else
    let x := t - 273150000000
    let k := x / 2000000000
    let a := pico (Config.waterPoint ov k)
    if x % 2000000000 = 0 then some a
    else
      let b := pico (Config.waterPoint ov (k + 1))
      some (a.add ((b.sub a).mul { num := (x % 2000000000 : Nat), den := 2000000000 }))

/-- M / R_m of R64 in kg·K/J, for a temperature in K. -/
def airConst : Frac := { num := 28964700, den := 8314462618 }

/-- The UNIT codes that mode 0 takes for a QUANTITY (R64). -/
def unitsOf (q : Nat) : List Nat :=
  match q with
  | 1 => [2]
  | 2 => [3, 5]
  | 3 => [4]
  | 4 => [2]
  | 5 => [1]
  | 6 => [2]
  | _ => []

/-- P_REF and T_REF, 0 giving the defaults of R64 (DEDUCED). -/
def CProf.pRefU (c : CProf) : Nat := 1000000 * (if c.pRef = 0 then 101325 else c.pRef)
def CProf.tRefU (c : CProf) (dflt : Nat) : Nat := 1000000 * (if c.tRef = 0 then dflt else c.tRef)

/-- What one raw unit of the register converts to, in billed units, under mean pressure p and temperature t: none is
CONV_RANGE. -/
def factor (ov : Bytes) (c : CProf) (quantity unit : Nat) (p t : Nat) : Option Frac :=
  match c.mode with
  | 0 =>
    if !(unitsOf quantity).contains unit then none
    else some (if unit = 5 then { num := 36, den := 10 } else Frac.ofInt 1)
  | 1 => if quantity ≠ 1 ∨ unit ≠ 1 then none else (steam c.saturated p t).map (·.1)
  | 2 =>
    if quantity ≠ 2 ∨ unit ≠ 1 then none
    else match steam c.saturated p t, hRef c.pRefU (c.tRefU 0) with
      | some (rho, h), some h0 => some ((rho.mul (h.sub h0)).mul { num := 1, den := 1000 })
      | _, _ => none
  | 3 =>
    if quantity ≠ 2 ∨ unit ≠ 2 then none
    else match steam c.saturated p t, hRef c.pRefU (c.tRefU 0) with
      | some (_, h), some h0 => some ((h.sub h0).mul { num := 1, den := 1000 })
      | _, _ => none
  | 4 =>
    if quantity ≠ 3 ∨ unit ≠ 1 then none
    else
      let p0 := c.pRefU
      let t0 := c.tRefU 273150
      match zAir ov p t, zAir ov p0 t0 with
      | some z, some z0 => some (((frac p p0).mul (frac t0 t)).mul (z0.div z))
      | _, _ => none
  | 5 =>
    if quantity ≠ 4 ∨ unit ≠ 1 then none
    else (zAir ov p t).map fun z => ((frac (1000 * p) t).mul airConst).div z
  | 6 =>
    if quantity ≠ 5 ∨ unit ≠ 1 then none
    else match rhoWater ov t, rhoWater ov (c.tRefU 288150) with
      | some r, some r0 => some (r.div r0)
      | _, _ => none
  | 7 => if quantity ≠ 6 ∨ unit ≠ 1 then none else rhoWater ov t
  | _ => none

/-- The mean over two readings in 10^-6 of their unit, held at 0 from below. -/
def meanU (a b : Int) : Nat := ((a + b) * 500000).toNat

/-- AUX1 made absolute (R64). -/
def CProf.absolute (c : CProf) (aux1 : Nat) : Nat := if c.gauge then aux1 + c.pAtm else aux1

/-- The billed delta of a raw delta (R64), in 10^-3 billed units, rounded to nearest, ties away from zero; none trips rule 9. -/
def billedDelta (ov : Bytes) (c : CProf) (quantity : Nat) (n : Compact) (r : Reading) (draw : Int) : Option Int :=
  if r.exp < -9 ∨ 3 < r.exp then none
  else
    let p := meanU (c.absolute n.aux1 : Int) (c.absolute r.aux1 : Int)
    let t := meanU n.aux2 r.aux2
    (factor ov c quantity r.unit p t).map fun f =>
      (((Frac.ofInt draw).mul (Frac.pow10 (r.exp + 3))).mul f).round

/-- The deviation bound of R78 in ppm for a conversion mode. -/
def devPpm (mode : Nat) : Nat :=
  match mode with
  | 1 => 50
  | 2 => 54
  | 3 => 54
  | 4 => 142
  | 5 => 100
  | 6 => 29
  | 7 => 20
  | _ => 0

end Sys2Proof.Machine
end

