-- ==== Sys2Proof/Machine/BalTables.lean ====
section
/-!
DEFINITION. The tables of the balance engine (R124 to R128) and the content of an inventory item (R127, R132).
-/
namespace Sys2Proof.Machine

/-- A zone descriptor (R125). -/
structure Zone where
  no : Nat
  unit : Nat
  epochEn : Bool
  fastEn : Bool
  itemCount : Nat
  memberFirst : Nat
  memberCount : Nat
  pRef : Nat
  tRef : Nat
  lossPpm : Nat
  lossRate : Nat
  lossUncPpm : Nat
  kEpoch : Nat
  hEpoch : Nat
  kFast : Nat
  hFast : Nat
  stepZ : Nat
  revMin : Nat
  itemFirst : Nat
  deriving DecidableEq, Repr

/-- A member (R126). -/
structure Member where
  pos : Nat
  index : Nat
  leaves : Bool
  oneWay : Bool
  scale : Nat
  uPpm : Nat
  uFloor : Nat
  deriving DecidableEq, Repr

/-- An inventory item (R127). -/
structure Item where
  no : Nat
  model : Nat
  gauge : Bool
  saturated : Bool
  zone : Nat
  volume : Nat
  strap : Nat
  pAtm : Nat
  aBias : Nat
  aRand : Nat
  tBias : Nat
  tRand : Nat
  vPpm : Nat
  staleMax : Nat
  deriving DecidableEq, Repr

/-- Offsets of the parts of a table block (R124). -/
abbrev tblItems : Nat := 0x400000
abbrev tblStraps : Nat := 0x500000
abbrev tblMembers : Nat := 0x700000

/-- Zone z of the block at tbl. -/
def Dev.zone (d : Dev) (tbl z : Nat) : Zone :=
  let b := d.ldBytes (tbl + 64 * z) 64
  { no := z, unit := leAt b 0 1, epochEn := (leAt b 1 1).testBit 0, fastEn := (leAt b 1 1).testBit 1,
    itemCount := leAt b 2 2, memberFirst := leAt b 4 4 % 2 ^ 27, memberCount := leAt b 8 2, pRef := leAt b 0xC 4,
    tRef := leAt b 0x10 4, lossPpm := leAt b 0x14 4, lossRate := leAt b 0x18 4, lossUncPpm := leAt b 0x1C 4,
    kEpoch := leAt b 0x20 2, hEpoch := leAt b 0x22 2, kFast := leAt b 0x24 2, hFast := leAt b 0x26 2,
    stepZ := leAt b 0x28 2, revMin := leAt b 0x2C 4, itemFirst := leAt b 0x30 2 % 2 ^ 14 }

/-- Member at position p of the member array. -/
def Dev.memberAt (d : Dev) (tbl p : Nat) : Member :=
  let b := d.ldBytes (tbl + tblMembers + 16 * p) 16
  let w := leAt b 0 4
  { pos := p, index := bitsOf w 24 0, leaves := w.testBit 25, oneWay := w.testBit 26, scale := leAt b 4 4,
    uPpm := leAt b 8 4, uFloor := leAt b 0xC 4 }

/-- Item i. -/
def Dev.itemAt (d : Dev) (tbl i : Nat) : Item :=
  let b := d.ldBytes (tbl + tblItems + 64 * i) 64
  { no := i, model := leAt b 0 1, gauge := (leAt b 1 1).testBit 0, saturated := (leAt b 1 1).testBit 1,
    zone := leAt b 2 2, volume := leAt b 4 4, strap := leAt b 8 2 % 2 ^ 12, pAtm := leAt b 0xC 4, aBias := leAt b 0x10 4,
    aRand := leAt b 0x14 4, tBias := leAt b 0x18 4, tRand := leAt b 0x1C 4, vPpm := leAt b 0x20 4, staleMax := leAt b 0x24 4 }

/-- The used zones of a block, its members and its items. -/
def Dev.zones (d : Dev) (tbl : Nat) : List Zone :=
  ((List.range 65536).filter fun z => d.ld (tbl + 64 * z) 1 != 0).map (d.zone tbl)
def Dev.membersOf (d : Dev) (tbl : Nat) (z : Zone) : List Member :=
  (List.range z.memberCount).map fun k => d.memberAt tbl (z.memberFirst + k)
def Dev.itemsOf (d : Dev) (tbl : Nat) (z : Zone) : List Item :=
  ((List.range z.itemCount).map fun k => d.itemAt tbl (z.itemFirst + k)).filter (·.model != 0)

/-- What distinguishes a zone between two generations: its descriptor, member run and items (R129). -/
def Dev.zoneShape (d : Dev) (tbl : Nat) (z : Zone) : Bytes :=
  d.ldBytes (tbl + 64 * z.no) 64 ++ d.ldBytes (tbl + tblMembers + 16 * z.memberFirst) (16 * z.memberCount) ++
  d.ldBytes (tbl + tblItems + 64 * z.itemFirst) (64 * z.itemCount)

/-! ## Content (R127, R128) -/

/-- The used points of strap table t: level in µm, volume in 10^-3 m³. -/
def Dev.strapPoints (d : Dev) (tbl t : Nat) : List (Nat × Nat) :=
  ((List.range 64).map fun k => (d.ld (tbl + tblStraps + 512 * t + 8 * k) 4, d.ld (tbl + tblStraps + 512 * t + 8 * k + 4) 4)).takeWhile
    fun e => e.1 != 0xFFFFFFFF

/-- S(level) of R128 for a level in 10^-6 µm, in 10^-3 m³; none outside the table. -/
def strapVolume (a : Nat) : List (Nat × Nat) → Option Frac
  | (x, v) :: (y, w) :: rest =>
    if a < 1000000 * x then none
    else if a ≤ 1000000 * y then
      if x = y then some (Frac.ofInt v)
      else some ((Frac.ofInt v).add ((frac ((a - 1000000 * x : Nat) : Int) ((1000000 * (y - x) : Nat) : Int)).mul
        (Frac.ofInt ((w : Int) - v))))
    else strapVolume a ((y, w) :: rest)
  | _ => none

/-- The content per m³ of an item under a zone (R127): none outside the ranges, or for a pairing the table does not list. -/
def itemFactor (ov : Bytes) (z : Zone) (i : Item) (p t : Nat) : Option Frac :=
  let c : CProf := { mode := 0, saturated := i.saturated, gauge := false, pAtm := 0, tRef := z.tRef, pRef := z.pRef }
  match i.model, z.unit with
  | 1, 2 => factor ov { c with mode := 5 } 4 1 p t
  | 1, 4 => if z.pRef = 0 ∨ z.tRef = 0 then none else factor ov { c with mode := 4 } 3 1 p t
  | 2, 2 => factor ov { c with mode := 1 } 1 1 p t
  | 2, 3 => if z.pRef = 0 then none else factor ov { c with mode := 2 } 2 1 p t
  | 3, 1 => if z.tRef = 0 then none else factor ov { c with mode := 6 } 5 1 p t
  | 3, 2 => factor ov { c with mode := 7 } 6 1 p t
  | _, _ => none

/-- model(i, a, t) of R132 in 10^-3 units of the zone: input A in µPa or 10^-6 µm, input T in 10^-6 mK. -/
def Dev.content (d : Dev) (tbl : Nat) (ov : Bytes) (z : Zone) (i : Item) (a t : Int) : Option Frac :=
  if a < 0 ∨ t < 0 then none
  else if i.model = 3 then
    match strapVolume a.toNat (d.strapPoints tbl i.strap), itemFactor ov z i 0 t.toNat with
    | some v, some f => some (v.mul f)
    | _, _ => none
  else
    let p := a.toNat + (if i.gauge then 1000000 * i.pAtm else 0)
    (itemFactor ov z i p t.toNat).map fun f => (Frac.ofInt i.volume).mul f

/-- The change of an item's content and its variance (R132). -/
structure Change where
  delta : Frac
  var : Frac

/-- rnd² of R132. -/
def rndSq (m : Int → Int → Option Frac) (i : Item) (a t : Int) : Option Frac :=
  match m a t, m (a + 1000000 * i.aRand) t, m a (t + 1000000 * i.tRand) with
  | some x, some y, some w => some ((y.sub x).sq.add (w.sub x).sq)
  | _, _, _ => none

/-- The change between two states of an item, and inv_unc² (R132). -/
def changeOf (m : Int → Int → Option Frac) (i : Item) (a0 t0 a1 t1 : Int) : Option Change :=
  let up := fun (a : Int) => roundAway (a * (1000000 + i.aBias)) 1000000
  let tb : Int := 1000000 * i.tBias
  match m a0 t0, m a1 t1, m (up a0) t0, m (up a1) t1, m a0 (t0 + tb), m a1 (t1 + tb), rndSq m i a0 t0, rndSq m i a1 t1 with
  | some x0, some x1, some g0, some g1, some h0, some h1, some r0, some r1 =>
    let dl := x1.sub x0
    let ba := (g1.sub g0).sub dl
    let bt := (h1.sub h0).sub dl
    let bv := dl.abs.mul (frac i.vPpm 1000000)
    some { delta := dl, var := Frac.sum [ba.sq, bt.sq, bv.sq, r0, r1] }
  | _, _, _, _, _, _, _, _ => none

end Sys2Proof.Machine
end

