-- ==== Sys2Proof/Machine/Crypto.lean ====
section
/-!
DEFINITION. The cryptographic and check-sum functions the manual names: SHA-256, HMAC-SHA-256, AES-128 and AES-256 with
CMAC, GCM and CCM*, the counter-mode KDF of R260, P-256, and the CRCs. PRESUMED: each is the public standard of its name
(FIPS 180-4, FIPS 198-1, FIPS 197, SP 800-38B, SP 800-38D, SP 800-38C and IEEE 802.15.4, FIPS 186-5); the manual cites them.
-/
namespace Sys2Proof.Machine

/-! ## SHA-256 -/

/-- The SHA-256 round constants, constant i in bits [32 i + 31 : 32 i]. -/
def shaK : Nat :=
  0xc67178f2bef9a3f7a4506ceb90befffa8cc7020884c8781478a5636f748f82ee682e6ff35b9cca4f4ed8aa4a391c0cb334b0bcb52748774c1e376c0819a4c116106aa070f40e3585d6990624d192e819c76c51a3c24b8b70a81a664ba2bfe8a192722c8581c2c92e766a0abb650a735453380d134d2c6dfc2e1b213827b70a851429296706ca6351d5a79147c6e00bf3bf597fc7b00327c8a831c66d983e515276f988da5cb0a9dc4a7484aa2de92c6f240ca1cc0fc19dc6efbe4786e49b69c1c19bf1749bdc06a780deb1fe72be5d74550c7dc3243185be12835b01d807aa98ab1c5ed5923f82a459f111f13956c25be9b5dba5b5c0fbcf71374491428a2f98

/-- The SHA-256 initial hash words, packed in the same way. -/
def shaH : Nat :=
  0x5be0cd191f83d9ab9b05688c510e527fa54ff53a3c6ef372bb67ae856a09e667

/-- Word i of a packed table of w-bit words. -/
def packed (w t i : Nat) : Nat := (t >>> (w * i)) % 2 ^ w

/-- A 32-bit rotation right by n. -/
def rotr32 (x n : Nat) : Nat := ((x >>> n) ||| (x <<< (32 - n))) % 2 ^ 32

/-- The eight working words. -/
structure ShaSt where
  a : Nat
  b : Nat
  c : Nat
  d : Nat
  e : Nat
  f : Nat
  g : Nat
  h : Nat
  deriving DecidableEq, Repr

/-- One round with the schedule word w and constant k. -/
def shaRound (s : ShaSt) (w k : Nat) : ShaSt :=
  let s1 := rotr32 s.e 6 ^^^ rotr32 s.e 11 ^^^ rotr32 s.e 25
  let ch := (s.e &&& s.f) ^^^ ((m32 - s.e) &&& s.g)
  let t1 := s.h + s1 + ch + k + w
  let s0 := rotr32 s.a 2 ^^^ rotr32 s.a 13 ^^^ rotr32 s.a 22
  let maj := (s.a &&& s.b) ^^^ (s.a &&& s.c) ^^^ (s.b &&& s.c)
  ⟨(t1 + s0 + maj) % 2 ^ 32, s.a, s.b, s.c, (s.d + t1) % 2 ^ 32, s.e, s.f, s.g⟩

/-- The next schedule word from the last sixteen. -/
def shaNext (w : List Nat) : Nat :=
  let x := w.getD 1 0
  let y := w.getD 14 0
  let s0 := rotr32 x 7 ^^^ rotr32 x 18 ^^^ (x >>> 3)
  let s1 := rotr32 y 17 ^^^ rotr32 y 19 ^^^ (y >>> 10)
  (w.getD 0 0 + s0 + w.getD 9 0 + s1) % 2 ^ 32

/-- n rounds from round t, with the window of the last sixteen schedule words. -/
def shaRounds : Nat → Nat → List Nat → ShaSt → ShaSt
  | 0, _, _, s => s
  | n + 1, t, w, s => shaRounds n (t + 1) (w.tail ++ [shaNext w]) (shaRound s (w.getD 0 0) (packed 32 shaK t))

/-- The big-endian words of a block. -/
def beWords : Nat → Bytes → List Nat
  | 0, _ => []
  | n + 1, bs => beNat (bs.take 4) :: beWords n (bs.drop 4)

/-- The compression of one 64-byte block. -/
def shaBlock (s : ShaSt) (blk : Bytes) : ShaSt :=
  let r := shaRounds 64 0 (beWords 16 blk) s
  ⟨(s.a + r.a) % 2 ^ 32, (s.b + r.b) % 2 ^ 32, (s.c + r.c) % 2 ^ 32, (s.d + r.d) % 2 ^ 32,
   (s.e + r.e) % 2 ^ 32, (s.f + r.f) % 2 ^ 32, (s.g + r.g) % 2 ^ 32, (s.h + r.h) % 2 ^ 32⟩

/-- n blocks. -/
def shaBlocks : Nat → Bytes → ShaSt → ShaSt
  | 0, _, s => s
  | n + 1, bs, s => shaBlocks n (bs.drop 64) (shaBlock s (bs.take 64))

/-- SHA-256. -/
def sha256 (m : Bytes) : Bytes :=
  let z := (119 - m.length % 64) % 64
  let p := m ++ [0x80#8] ++ zeroBytes z ++ beBytes 8 (8 * m.length)
  let i := packed 32 shaH
  let s := shaBlocks (p.length / 64) p ⟨i 0, i 1, i 2, i 3, i 4, i 5, i 6, i 7⟩
  beBytes 4 s.a ++ beBytes 4 s.b ++ beBytes 4 s.c ++ beBytes 4 s.d ++
  beBytes 4 s.e ++ beBytes 4 s.f ++ beBytes 4 s.g ++ beBytes 4 s.h

/-- HMAC-SHA-256 with a key of at most 64 bytes. -/
def hmac (key m : Bytes) : Bytes :=
  let k := padTo 64 key
  sha256 (k.map (· ^^^ 0x5C#8) ++ sha256 (k.map (· ^^^ 0x36#8) ++ m))

/-! ## AES -/

/-- The AES substitution box, entry i in bits [8 i + 7 : 8 i]. -/
def aesBox : Nat :=
  0x16bb54b00f2d99416842e6bf0d89a18cdf2855cee9871e9b948ed9691198f8e19e1dc186b95735610ef6034866b53e708a8bbd4b1f74dde8c6b4a61c2e2578ba08ae7a65eaf4566ca94ed58d6d37c8e779e4959162acd3c25c2406490a3a32e0db0b5ede14b8ee4688902a22dc4f816073195d643d7ea7c41744975fec130ccdd2f3ff1021dab6bcf5389d928f40a351a89f3c507f02f94585334d43fbaaefd0cf584c4a39becb6a5bb1fc20ed00d153842fe329b3d63b52a05a6e1b1a2c830975b227ebe28012079a059618c323c7041531d871f1e5a534ccf73f362693fdb7c072a49cafa2d4adf04759fa7dc982ca76abd7fe2b670130c56f6bf27b777c63

/-- One byte through the substitution box. -/
def subByte (b : Nat) : Nat := packed 8 aesBox b

/-- Doubling in the AES field. -/
def xtime (b : Nat) : Nat := if b < 128 then 2 * b else (2 * b - 256) ^^^ 0x1B

/-- The rotated, substituted word of the key schedule with its round constant. -/
def keyCore (w : List Nat) (rcon : Nat) : List Nat :=
  match w with
  | [a, b, c, d] => [subByte b ^^^ rcon, subByte c, subByte d, subByte a]
  | _ => w

/-- Exclusive or of two lists of numbers. -/
def xorNats (a b : List Nat) : List Nat := List.zipWith (· ^^^ ·) a b

/-- n more words of the key schedule from word i; ws holds the words so far, newest first. -/
def keySchedule (nk : Nat) : Nat → Nat → Nat → List (List Nat) → List (List Nat)
  | 0, _, _, ws => ws
  | n + 1, i, rcon, ws =>
    let prev := ws.headD []
    let t := if i % nk = 0 then keyCore prev rcon else if nk = 8 ∧ i % 8 = 4 then prev.map subByte else prev
    let rcon := if i % nk = 0 then xtime rcon else rcon
    keySchedule nk n (i + 1) rcon (xorNats (ws.getD (nk - 1) []) t :: ws)

/-- Bytes in groups of four. -/
def quads : Nat → List Nat → List (List Nat)
  | 0, _ => []
  | n + 1, l => l.take 4 :: quads n (l.drop 4)

/-- The round keys of a 16- or 32-byte key, each of 16 bytes. -/
def roundKeys (key : Bytes) : List (List Nat) :=
  let nk := if key.length = 32 then 8 else 4
  let nr := nk + 6
  let ks := (padTo (4 * nk) key).map BitVec.toNat
  let ws := (keySchedule nk (4 * (nr + 1) - nk) nk 1 (quads nk ks).reverse).reverse
  (List.range (nr + 1)).map fun r => (List.range 4).flatMap fun j => ws.getD (4 * r + j) []

/-- The row shift on the 16 state bytes, column by column. -/
def shiftRows (s : List Nat) : List Nat :=
  (List.range 16).map fun i => s.getD ((i + 4 * (i % 4)) % 16) 0

/-- One mixed column. -/
def mixColumn (c : List Nat) : List Nat :=
  match c with
  | [a, b, c, d] =>
    [xtime a ^^^ (xtime b ^^^ b) ^^^ c ^^^ d, a ^^^ xtime b ^^^ (xtime c ^^^ c) ^^^ d,
     a ^^^ b ^^^ xtime c ^^^ (xtime d ^^^ d), (xtime a ^^^ a) ^^^ b ^^^ c ^^^ xtime d]
  | _ => c

/-- The rounds after the first key addition; the last one mixes no columns. -/
def aesRounds : List (List Nat) → List Nat → List Nat
  | [], s => s
  | [k], s => xorNats (shiftRows (s.map subByte)) k
  | k :: t, s => aesRounds t (xorNats ((quads 4 (shiftRows (s.map subByte))).flatMap mixColumn) k)

/-- AES encryption of one 16-byte block under expanded keys. -/
def aesBlockK (ks : List (List Nat)) (blk : Bytes) : Bytes :=
  let s := (padTo 16 blk).map BitVec.toNat
  match ks with
  | [] => padTo 16 blk
  | k :: t => (aesRounds t (xorNats s k)).map (BitVec.ofNat 8)

/-- AES encryption of one block. -/
def aesBlock (key blk : Bytes) : Bytes := aesBlockK (roundKeys key) blk

/-! ## CMAC -/

/-- Doubling of a 128-bit value in the CMAC field. -/
def cmacDouble (n : Nat) : Nat := if n < 2 ^ 127 then 2 * n else (2 * n - 2 ^ 128) ^^^ 0x87

/-- Cipher-block chaining of n blocks. -/
def cbcMac (ks : List (List Nat)) : Nat → Bytes → Bytes → Bytes
  | 0, _, x => x
  | n + 1, m, x => cbcMac ks n (m.drop 16) (aesBlockK ks (xorBytes x (padTo 16 (m.take 16))))

/-- AES-CMAC. -/
def cmac (key m : Bytes) : Bytes :=
  let ks := roundKeys key
  let l := beNat (aesBlockK ks (zeroBytes 16))
  let k1 := cmacDouble l
  let full := m.length % 16 = 0 ∧ m ≠ []
  let n := if m = [] then 1 else (m.length + 15) / 16
  let head := m.take (16 * (n - 1))
  let last := m.drop (16 * (n - 1))
  let last := if full then xorBytes last (beBytes 16 k1)
    else xorBytes (padTo 16 (last ++ [0x80#8])) (beBytes 16 (cmacDouble k1))
  aesBlockK ks (xorBytes (cbcMac ks (n - 1) head (zeroBytes 16)) last)

/-! ## Counter mode, GCM, CCM* -/

/-- n blocks of key stream from a 16-byte counter block whose last w bytes count. -/
def keyStream (ks : List (List Nat)) (pre : Bytes) (w : Nat) : Nat → Nat → Bytes
  | 0, _ => []
  | n + 1, c => aesBlockK ks (pre ++ beBytes w c) ++ keyStream ks pre w n (c + 1)

/-- Counter-mode encryption, which is its own inverse. -/
def ctrCrypt (ks : List (List Nat)) (pre : Bytes) (w c : Nat) (m : Bytes) : Bytes :=
  xorBytes m (keyStream ks pre w ((m.length + 15) / 16) c)

/-- Multiplication in the GHASH field, n bits of x from bit i down. -/
def ghashMul : Nat → Nat → Nat → Nat → Nat
  | 0, _, _, z => z
  | n + 1, x, v, z =>
    ghashMul n x (if v % 2 = 0 then v / 2 else (v / 2) ^^^ (0xE1 * 2 ^ 120)) (if x.testBit n then z ^^^ v else z)

/-- GHASH over n blocks. -/
def ghash (h : Nat) : Nat → Bytes → Nat → Nat
  | 0, _, y => y
  | n + 1, m, y => ghash h n (m.drop 16) (ghashMul 128 (y ^^^ beNat (padTo 16 (m.take 16))) h 0)

/-- The GCM tag of a ciphertext under a 12-byte nonce. -/
def gcmTag (ks : List (List Nat)) (nonce aad ct : Bytes) : Bytes :=
  let h := beNat (aesBlockK ks (zeroBytes 16))
  let pad := fun (b : Bytes) => padTo ((b.length + 15) / 16 * 16) b
  let m := pad aad ++ pad ct ++ beBytes 8 (8 * aad.length) ++ beBytes 8 (8 * ct.length)
  xorBytes (beBytes 16 (ghash h (m.length / 16) m 0)) (aesBlockK ks (nonce ++ beBytes 4 1))

/-- AES-GCM seal: the ciphertext, then its 16-byte tag. -/
def gcmSeal (key nonce aad pt : Bytes) : Bytes :=
  let ks := roundKeys key
  let ct := ctrCrypt ks nonce 4 2 pt
  ct ++ gcmTag ks nonce aad ct

/-- AES-GCM open of a ciphertext and tag; none when the tag does not match. -/
def gcmOpen (key nonce aad ct tag : Bytes) : Option Bytes :=
  let ks := roundKeys key
  if gcmTag ks nonce aad ct = tag then some (ctrCrypt ks nonce 4 2 ct) else none

/-- The CCM* authentication field over aad and message, with an M-byte MIC and a 13-byte nonce (L = 2). -/
def ccmMac (ks : List (List Nat)) (m : Nat) (nonce aad pt : Bytes) : Bytes :=
  let pad := fun (b : Bytes) => padTo ((b.length + 15) / 16 * 16) b
  let flags := (if aad = [] then 0 else 64) + 8 * ((m - 2) / 2) + 1
  let b0 := BitVec.ofNat 8 flags :: nonce ++ beBytes 2 pt.length
  let a := if aad = [] then [] else pad (beBytes 2 aad.length ++ aad)
  let x := b0 ++ a ++ pad pt
  (cbcMac ks (x.length / 16) x (zeroBytes 16)).take m

/-- CCM* seal: the ciphertext and the encrypted MIC. -/
def ccmSeal (key : Bytes) (m : Nat) (nonce aad pt : Bytes) : Bytes × Bytes :=
  let ks := roundKeys key
  let mac := ccmMac ks m nonce aad pt
  let pre := 0x01#8 :: nonce
  (ctrCrypt ks pre 2 1 pt, ctrCrypt ks pre 2 0 mac)

/-- CCM* open; none when the MIC does not match. -/
def ccmOpen (key : Bytes) (m : Nat) (nonce aad ct mic : Bytes) : Option Bytes :=
  let ks := roundKeys key
  let pre := 0x01#8 :: nonce
  let pt := ctrCrypt ks pre 2 1 ct
  if ctrCrypt ks pre 2 0 (ccmMac ks m nonce aad pt) = mic then some pt else none

/-! ## KDF (R260) -/

/-- n blocks of PRF output from counter i. -/
def kdfBlocks (key fixed : Bytes) : Nat → Nat → Bytes
  | 0, _ => []
  | n + 1, i => cmac key (beBytes 4 i ++ fixed) ++ kdfBlocks key fixed n (i + 1)

/-- The counter-mode KDF of R260 with an output of L bits. -/
def kdf (key label ctx : Bytes) (bits : Nat) : Bytes :=
  (kdfBlocks key (label ++ [0#8] ++ ctx ++ beBytes 4 bits) ((bits + 127) / 128) 1).take (bits / 8)

/-! ## P-256 -/

/-- The field prime, the curve's b, the group order and the base point of P-256. -/
def p256p : Nat := 2 ^ 256 - 2 ^ 224 + 2 ^ 192 + 2 ^ 96 - 1
def p256b : Nat := 0x5AC635D8AA3A93E7B3EBBD55769886BC651D06B0CC53B0F63BCE3C3E27D2604B
def p256n : Nat := 0xFFFFFFFF00000000FFFFFFFFFFFFFFFFBCE6FAADA7179E84F3B9CAC2FC632551
def p256gx : Nat := 0x6B17D1F2E12C4247F8BCE6E563A440F277037D812DEB33A0F4A13945D898C296
def p256gy : Nat := 0x4FE342E2FE1A7F9B8EE7EB4A7C0F9E162BCE33576B315ECECBB6406837BF51F5

/-- b ^ e mod m over the low n bits of e. -/
def powMod (m : Nat) : Nat → Nat → Nat → Nat
  | 0, _, _ => 1 % m
  | n + 1, b, e => (if e % 2 = 1 then b else 1) * powMod m n (b * b % m) (e / 2) % m

/-- The inverse modulo a 256-bit prime. -/
def invMod (m a : Nat) : Nat := powMod m 256 (a % m) (m - 2)

/-- A point of the curve; none is the point at infinity. -/
abbrev EcPoint := Option (Nat × Nat)

/-- Difference in the field. -/
def subP (a b : Nat) : Nat := (a + p256p - b % p256p) % p256p

/-- Addition of points. -/
def ecAdd (a b : EcPoint) : EcPoint :=
  match a, b with
  | none, q => q
  | q, none => q
  | some (x1, y1), some (x2, y2) =>
    if x1 = x2 ∧ (y1 + y2) % p256p = 0 then none
    else
      let l := if x1 = x2 then (3 * x1 * x1 + p256p - 3) * invMod p256p (2 * y1) % p256p
        else subP y2 y1 * invMod p256p (subP x2 x1) % p256p
      let x := subP (l * l) (x1 + x2)
      some (x, subP (l * subP x1 x) y1)

/-- Scalar multiplication over the low n bits of k. -/
def ecMul : Nat → Nat → EcPoint → EcPoint
  | 0, _, _ => none
  | n + 1, k, p => ecAdd (if k % 2 = 1 then p else none) (ecMul n (k / 2) (ecAdd p p))

/-- The base point. -/
def p256g : EcPoint := some (p256gx, p256gy)

/-- A point as X then Y, big-endian. -/
def pointBytes (p : EcPoint) : Bytes :=
  match p with
  | none => zeroBytes 64
  | some (x, y) => beBytes 32 x ++ beBytes 32 y

/-- The point of 64 bytes, when it lies on the curve. -/
def pointOf (bs : Bytes) : EcPoint :=
  let x := beAt bs 0 32
  let y := beAt bs 32 32
  if bs.length = 64 ∧ x < p256p ∧ y < p256p ∧ (y * y) % p256p = (x * x * x + (p256p - 3) * x + p256b) % p256p
  then some (x, y) else none

/-- The public key of a private scalar. -/
def pubOf (d : Bytes) : Bytes := pointBytes (ecMul 256 (beNat d) p256g)

/-- An ECDSA signature over a 32-byte digest with the per-signature number k: r then s, big-endian. -/
def ecdsaSign (d digest : Bytes) (k : Nat) : Bytes :=
  let k := k % (p256n - 1) + 1
  let r := match ecMul 256 k p256g with | none => 0 | some (x, _) => x % p256n
  let s := invMod p256n k * (beNat digest + r * beNat d) % p256n
  beBytes 32 r ++ beBytes 32 s

/-- Whether a signature over a digest matches a public key. -/
def ecdsaVerify (pub digest sig : Bytes) : Bool :=
  let r := beAt sig 0 32
  let s := beAt sig 32 32
  match pointOf pub with
  | none => false
  | some q =>
    if sig.length = 64 ∧ 0 < r ∧ r < p256n ∧ 0 < s ∧ s < p256n then
      let w := invMod p256n s
      match ecAdd (ecMul 256 (beNat digest * w % p256n) p256g) (ecMul 256 (r * w % p256n) (some q)) with
      | none => false
      | some (x, _) => x % p256n == r
    else false

/-- The shared X coordinate of ECDH; none when the peer's key is not on the curve. -/
def ecdh (d peer : Bytes) : Option Bytes :=
  match pointOf peer with
  | none => none
  | some q => match ecMul 256 (beNat d) (some q) with | none => none | some (x, _) => some (beBytes 32 x)

/-! ## Check sums -/

/-- n steps of a reflected CRC register. -/
def crcBitsR (poly : Nat) : Nat → Nat → Nat
  | 0, c => c
  | n + 1, c => crcBitsR poly n (if c % 2 = 1 then (c / 2) ^^^ poly else c / 2)

/-- A reflected CRC over bytes. -/
def crcR (poly init : Nat) (bs : Bytes) : Nat := bs.foldl (fun c b => crcBitsR poly 8 (c ^^^ b.toNat)) init

/-- n steps of an unreflected CRC register of w bits. -/
def crcBitsF (w poly : Nat) : Nat → Nat → Nat
  | 0, c => c
  | n + 1, c => crcBitsF w poly n (if c.testBit (w - 1) then (2 * c % 2 ^ w) ^^^ poly else 2 * c % 2 ^ w)

/-- An unreflected CRC of w bits over bytes. -/
def crcF (w poly init : Nat) (bs : Bytes) : Nat :=
  bs.foldl (fun c b => crcBitsF w poly 8 (c ^^^ (b.toNat * 2 ^ (w - 8)))) init

/-- CRC-32C. -/
def crc32c (bs : Bytes) : Nat := crcR 0x82F63B78 m32 bs ^^^ m32

/-- CRC-32 of IEEE 802. -/
def crc32 (bs : Bytes) : Nat := crcR 0xEDB88320 m32 bs ^^^ m32

/-- The CRC-16 of R287: polynomial 0x1021, initial value 0xFFFF. -/
def crc16 (bs : Bytes) : Nat := crcF 16 0x1021 0xFFFF bs

/-- The Modbus CRC-16. -/
def crcModbus (bs : Bytes) : Nat := crcR 0xA001 0xFFFF bs

end Sys2Proof.Machine
end

