-- ==== Sys2Proof/Machine/MirrorOps.lean ====
section
/-!
DEFINITION. The armature stream as the engines of the active append to it (R292, R293).
-/
namespace Sys2Proof.Machine

/-- The partner's last heartbeat shows STANDBY. -/
def Dev.partnerStandby (d : Dev) : Bool := match d.red.partner with | none => false | some h => h.state.val == 2

/-- The active keeps an armature stream: its partner is STANDBY, or a resynchronisation runs (R292, R298). -/
def Dev.mirrors (d : Dev) : Bool := d.red.state == .active && (d.partnerStandby || d.red.resyncing) && !d.red.unfit

/-- Append an item to the armature stream. -/
def Dev.mirror (d : Dev) (i : ArmItem) : Dev :=
  if d.mirrors then
    { d with red := { d.red with
      nextSeq := d.red.nextSeq + 1,
      stream := d.red.stream ++ [{ seq := d.red.nextSeq, tick := d.time.ticks, item := i }] } }
  else d

/-- The mirror acknowledgement covers every item below a sequence, or no longer counts (R293). -/
def Dev.mirrored (d : Dev) (seq : Nat) : Bool := !d.mirrors || decide (seq ≤ d.red.ackedSeq)

end Sys2Proof.Machine
end

