-- ==== Sys2Proof/Machine/PwrOps.lean ====
section
/-!
DEFINITION. The power governor (R310 to R314): ceilings, headroom, requests for leave and their return.
-/
namespace Sys2Proof.Machine

/-- The kinds of operation class (R311). -/
inductive ClassKind where
  | static | try' | queued
  deriving DecidableEq, Repr

/-- The kind of class c (R311). -/
def classKind (c : Nat) : ClassKind :=
  if c = 0 ∨ c = 1 ∨ c = 3 ∨ c = 5 ∨ c = 14 then .static
  else if c = 2 ∨ c = 4 then .try'
  else .queued

/-- The pages that draw on a class (R311); BASE is always drawn. -/
def classPages (c : Nat) : List Nat :=
  match c with
  | 1 => [pRAD, pRMC]
  | 2 => [pRAD, pRMC, pDST]
  | 3 => [pPLC]
  | 4 => [pPLC, pDST]
  | 5 => [pTRK0, pTRK1, pUPL, 14, 15, 16, 17, pRED]
  | 6 => [pING]
  | 7 => [pEPC]
  | 8 => [pTRF]
  | 9 => [pBAL]
  | 10 => [pKEY]
  | 11 => [pREC]
  | 12 => [pRED]
  | 13 => [pNVS]
  | 14 => [pDSP]
  | _ => []

/-- The BASE budget of a role in 10 mW (R311). -/
def baseBudget (role : Nat) : Nat := if role = 0 then 150 else 400

/-- ROLE_MAX of a role in 10 mW (R48, note c). -/
def roleMax (role : Nat) : Nat := if role = 0 then 550 else 1200

/-- The least REDUCED ceiling of a role in 10 mW (R312). -/
def roleMin (role : Nat) : Nat := if role = 0 then 200 else if role = 1 then 800 else 900

/-- PWR_CLS_CFG of class c: class 0 is computed from the role (R311). -/
def Dev.clsCfg (d : Dev) (c : Nat) : Nat :=
  if c = 0 then 16 * baseBudget d.role + 1 else d.rd (PWR_CLS_CFG c)

/-- The sum of the static budgets: BASE, and every enabled class that an enabled block draws on (R312). -/
def Dev.staticSum (d : Dev) : Nat :=
  baseBudget d.role +
    ((List.range 16).filter fun c => c != 0 && (d.clsCfg c).testBit 0 && (classPages c).any d.en).foldl
      (fun s c => s + bitsOf (d.clsCfg c) 15 4) 0

/-- The ceiling in 10 mW before derating (R45, R48 note c). -/
def Dev.ceiling (d : Dev) : Nat :=
  let c := d.fld PWR_CEIL 15 0
  if c = 0 then roleMax d.role else c

/-- The effective ceiling (R310): derated, never below the static sum. -/
def Dev.ceilEff (d : Dev) : Nat :=
  if d.pwr.thermDerate then
    let cut := d.ceiling * (100 - d.fld PWR_THERM 15 8) / 100
    if cut < d.staticSum then min d.ceiling d.staticSum else cut
  else d.ceiling

/-- GRANT of class c in 10 mW. -/
def Dev.clsGrant (d : Dev) (c : Nat) : Nat := bitsOf (d.clsCfg c) 27 16

/-- PRIO of class c. -/
def Dev.clsPrio (d : Dev) (c : Nat) : Nat := bitsOf (d.clsCfg c) 3 1

/-- The sum of the outstanding grants in 10 mW. -/
def Dev.grantSum (d : Dev) : Nat := d.pwr.grants.foldl (fun s g => s + d.clsGrant g.cls) 0

/-- The headroom in 10 mW (R312); below 0 when the ceiling has fallen under what is granted. -/
def Dev.headroom (d : Dev) : Int := (d.ceilEff : Int) - d.staticSum - d.grantSum

/-- Client w holds a grant of class c. -/
def Dev.granted (d : Dev) (c : Nat) (w : Client) : Bool := d.pwr.grants.any fun g => g.cls == c && g.who == w

/-- Client w has a queued request of class c. -/
def Dev.queuedFor (d : Dev) (c : Nat) (w : Client) : Bool := d.pwr.queue.any fun g => g.cls == c && g.who == w

/-- Grant leave: the clock for MAX_US starts (R312). -/
def Dev.grantLeave (d : Dev) (c : Nat) (w : Client) : Dev :=
  let d := { d with pwr := { d.pwr with grants := d.pwr.grants ++ [({ cls := c, who := w, since := d.time.ticks } : Leave)] } }
  d.bump PWR_GRANT_COUNT

/-- Insert a request behind every one of the same or a higher priority (R312). -/
def enqueueLeave (prio : Nat → Nat) (l : Leave) : List Leave → List Leave
  | [] => [l]
  | q :: t => if prio q.cls ≤ prio l.cls then q :: enqueueLeave prio l t else l :: q :: t

/-- Set a bit of PWR_DENY_MAP; 0 to 1 raises event 1 PWR_LEAVE_DENIED (R312). -/
def Dev.denyBit (d : Dev) (c : Nat) : Dev :=
  let was := d.bit PWR_DENY_MAP c
  let d := d.wr PWR_DENY_MAP (d.rd PWR_DENY_MAP ||| 2 ^ c)
  d.iff (!was) (·.raise pPWR 1)

/-- A request for leave of class c (R312): granted, denied or queued. With PWR disabled every request is granted (R314). -/
def Dev.request (d : Dev) (c : Nat) (w : Client) : Dev :=
  if d.granted c w || d.queuedFor c w then d
  else if !d.en pPWR then d.grantLeave c w
  else if d.pwr.pfActive then d
  else if d.pwr.isOver || d.pwr.queue.any (fun q => decide (d.clsPrio q.cls ≤ d.clsPrio c))
      || decide (d.headroom < (d.clsGrant c : Int)) then
    let d := (d.bump PWR_DENY_COUNT).denyBit c
    if classKind c = .try' then d
    else { d with pwr := { d.pwr with
      queue := enqueueLeave d.clsPrio { cls := c, who := w, since := d.time.ticks } d.pwr.queue } }
  else d.grantLeave c w

/-- µs between two ticks. -/
def usBetween (a b : Nat) : Nat := (b - a) / 250

/-- Serve the queue (on_return of R312): no bypass, stop at the first misfit. -/
def serveQueue : Nat → Dev → Dev
  | 0, d => d
  | fuel + 1, d =>
    match d.pwr.queue with
    | [] => d
    | q :: t =>
      if d.pwr.isOver || d.pwr.pfActive || decide (d.headroom < (d.clsGrant q.cls : Int)) then d
      else
        let d := { d with pwr := { d.pwr with queue := t } }
        let d := d.bump (PWR_CLS_WAIT q.cls) (usBetween q.since d.time.ticks)
        serveQueue fuel (d.grantLeave q.cls q.who)

/-- The governor serves its queue. -/
def Dev.onReturn (d : Dev) : Dev := serveQueue d.pwr.queue.length d

/-- Client w's grant of class c ends, or its queued request is withdrawn, and the queue is served (R312, R391). -/
def Dev.giveBack (d : Dev) (c : Nat) (w : Client) : Dev :=
  let mine := fun (g : Leave) => g.cls == c && g.who == w
  let waited := (d.pwr.queue.filter mine).foldl (fun n g => n + usBetween g.since d.time.ticks) 0
  let d := { d with pwr := { d.pwr with
    grants := d.pwr.grants.filter (fun g => !mine g), queue := d.pwr.queue.filter (fun g => !mine g) } }
  (d.iff (decide (0 < waited)) (·.bump (PWR_CLS_WAIT c) waited)).onReturn

/-- Every grant and request of page p is returned: its enable changed (R313). -/
def Dev.giveBackPage (d : Dev) (p : Nat) : Dev :=
  ({ d with pwr := { d.pwr with
    grants := d.pwr.grants.filter (fun g => g.who.page != p),
    queue := d.pwr.queue.filter (fun g => g.who.page != p) } }).onReturn

/-- The queued requests of page p are withdrawn: the page drains (R380, R391). -/
def Dev.withdrawPage (d : Dev) (p : Nat) : Dev :=
  ({ d with pwr := { d.pwr with queue := d.pwr.queue.filter (fun g => g.who.page != p) } }).onReturn

/-- The governor cancels every queued request (R307, step 1). -/
def Dev.cancelQueue (d : Dev) : Dev := { d with pwr := { d.pwr with queue := [] } }

/-- A QUEUED grant has outlived its MAX_US and has not been counted as an overrun yet (R313). -/
def Dev.overrunDue (d : Dev) (g : Leave) : Bool :=
  classKind g.cls == .queued && !g.overrun && decide (usTicks (d.rd (PWR_CLS_MAX g.cls)) ≤ d.time.ticks - g.since)

/-- Mark the first overdue grant as overrun. -/
def markOverrun (due : Leave → Bool) : List Leave → List Leave
  | [] => []
  | g :: t => if due g then { g with overrun := true } :: t else g :: markOverrun due t

/-- The first overdue grant overruns (R313): throttled, its map bit set, event 2 on 0 to 1, counted. -/
def Dev.leaveOverrun (d : Dev) : Dev :=
  match d.pwr.grants.find? d.overrunDue with
  | none => d
  | some g =>
    if !d.en pPWR then d else
    let was := d.bit PWR_OVERRUN_MAP g.cls
    let due := d.overrunDue
    let d := { d with pwr := { d.pwr with grants := markOverrun due d.pwr.grants } }
    let d := (d.wr PWR_OVERRUN_MAP (d.rd PWR_OVERRUN_MAP ||| 2 ^ g.cls)).bump PWR_OVERRUN_COUNT
    d.iff (!was) (·.raise pPWR 2)

/-- The firmware's client of class 15 (R314). -/
abbrev fwClient : Client := ⟨pPWR, 0⟩

/-- PWR_FW_STAT with RESULT r (R314). -/
def Dev.fwStat (d : Dev) (r : Nat) : Dev :=
  d.wr PWR_FW_STAT (b2n (d.granted 15 fwClient) + 2 * b2n (d.queuedFor 15 fwClient) + 16 * r)

/-- PWR_FW_CMD REQUEST (R314). -/
def Dev.fwRequest (d : Dev) : Dev :=
  if d.granted 15 fwClient || d.queuedFor 15 fwClient then d.fwStat 1
  else (d.request 15 fwClient).fwStat 0

/-- PWR_FW_CMD RETURN (R314): ends the grant or withdraws the request. -/
def Dev.fwReturn (d : Dev) : Dev := (d.giveBack 15 fwClient).fwStat 0

/-- The computed registers of the PWR page (R315); none: the stored word. -/
def pwrRead (d : Dev) (off : Nat) : Option Nat :=
  if off = 0x180 then
    some ((if d.headroom < 0 then 0 else satNat d.headroom.toNat 0xFFFF) + 0x10000 * satNat d.grantSum 0xFFFF)
  else if off = 0x184 then some (satNat d.staticSum 0xFFFF)
  else if off = 0x188 then some (satNat d.ceilEff 0xFFFF)
  else if off = 0x18C then some (satNat d.pwr.vinMv 0xFFFF)
  else if off = 0x190 then some (satNat d.pwr.pin 0xFFFF)
  else if off = 0x194 then some (enc 32 d.pwr.tempMk)
  else if off = 0x198 then some (satNat d.pwr.vbatMv 0xFFFF)
  else if off = 0x1AC then
    some (b2n (d.granted 15 fwClient) + 2 * b2n (d.queuedFor 15 fwClient) + (d.rd PWR_FW_STAT / 16) * 16)
  else if off = 0x200 then some (d.clsCfg 0)
  else if 0x200 ≤ off ∧ off < 0x300 ∧ off % 16 = 8 then
    let c := (off - 0x200) / 16
    let gs := d.pwr.grants.filter fun g => g.cls == c
    some (satNat gs.length 255 + 256 * satNat (d.pwr.queue.filter fun g => g.cls == c).length 255
      + 65536 * b2n (gs.any (·.overrun)))
  else none

/-- The block bits of PWR PG_STAT (R315). -/
def pwrStat (d : Dev) : Nat :=
  4 * b2n d.pwr.pfActive + 8 * b2n d.pwr.thermDerate + 16 * b2n d.pwr.isOver + 32 * b2n (!d.pwr.queue.isEmpty)

end Sys2Proof.Machine
end

