-- ==== Sys2Proof/Machine/RegistryOps.lean ====
section
/-!
DEFINITION. The endpoint registry (R55 to R58, R386, R387): lookup, the commands of ING_REG_CMD, and the fields of the
endpoint record.
-/
namespace Sys2Proof.Machine

/-! ## Layout -/

/-- Address of endpoint record i (R56). -/
def Dev.recBase (d : Dev) (i : Nat) : Nat := d.rd64 ING_REC_BASE_LO + 384 * i

/-- A field of n bytes of endpoint record i, unsigned and signed, and its replacement. -/
def Dev.recGet (d : Dev) (i off n : Nat) : Nat := d.ld (d.recBase i + off) n
def Dev.recGetS (d : Dev) (i off n : Nat) : Int := sext (8 * n) (d.recGet i off n)
def Dev.recPut (d : Dev) (i off n v : Nat) : Dev := d.st (d.recBase i + off) n v

/-- A compact reading of a record, and its replacement by bytes. -/
def Dev.recCompact (d : Dev) (i off : Nat) : Compact := Compact.ofBytes (d.ldBytes (d.recBase i + off) 32)
def Dev.recBytes (d : Dev) (i off n : Nat) : Bytes := d.ldBytes (d.recBase i + off) n
def Dev.recPutBytes (d : Dev) (i off : Nat) (b : Bytes) : Dev := d.stBytes (d.recBase i + off) b

/-- The state of record i (R58, IDX_STATE [31:29]). -/
def Dev.recState (d : Dev) (i : Nat) : Nat := bitsOf (d.recGet i rIDX_STATE 4) 31 29

/-- The index space of a role (R55). -/
def indexSpace (role : Nat) : Nat := if role = 0 then 65536 else if role = 1 then 33554432 else 1048576

/-- The end of the free list (R58). -/
abbrev noIndex : Nat := 0x01FFFFFF

/-- Hash parameters (R73). -/
def Dev.hashLog (d : Dev) : Nat := d.fld ING_HASH_CFG 4 0
def Dev.probeMax (d : Dev) : Nat := d.fld ING_HASH_CFG 13 8

/-- Address of hash entry s. -/
def Dev.hashAddr (d : Dev) (s : Nat) : Nat := d.rd64 ING_HASH_BASE_LO + 16 * s

/-- The home slot of an address (R56). -/
def homeSlot (addr log2 : Nat) : Nat := addr * 0x9E3779B97F4A7C15 % 2 ^ 64 / 2 ^ (64 - log2)

/-- The state and index words of a hash entry. -/
def Dev.hashState (d : Dev) (s : Nat) : Nat := bitsOf (d.ld (d.hashAddr s + 8) 4) 31 29
def Dev.hashIdx (d : Dev) (s : Nat) : Nat := bitsOf (d.ld (d.hashAddr s + 8) 4) 24 0
def Dev.hashKey (d : Dev) (s : Nat) : Nat := d.ld (d.hashAddr s) 8

/-- A hash entry found: its slot, its index and its state. -/
structure Hit where
  slot : Nat
  idx : Nat
  state : Nat
  deriving DecidableEq, Repr

/-- The probe loop of R56: fuel is what PROBE_MAX leaves. -/
def Dev.probe (d : Dev) (addr : Nat) : Nat → Nat → Option Hit
  | 0, _ => none
  | fuel + 1, s =>
    let st := d.hashState s
    if st = stEMPTY then none
    else if d.hashKey s = addr ∧ st ≠ stTOMBSTONE then some { slot := s, idx := d.hashIdx s, state := st }
    else d.probe addr fuel ((s + 1) % 2 ^ d.hashLog)

/-- Lookup (R56). -/
def Dev.lookup (d : Dev) (addr : Nat) : Option Hit := d.probe addr d.probeMax (homeSlot addr d.hashLog)

/-- The first TOMBSTONE or EMPTY slot on the chain (R56). -/
def Dev.freeSlot (d : Dev) : Nat → Nat → Option Nat
  | 0, _ => none
  | fuel + 1, s =>
    let st := d.hashState s
    if st = stEMPTY ∨ st = stTOMBSTONE then some s else d.freeSlot fuel ((s + 1) % 2 ^ d.hashLog)

/-- Every allocated index whose state a test admits, ascending. -/
def Dev.endpoints (d : Dev) (ok : Nat → Bool) : List Nat :=
  (List.range (d.fld ING_REG_HWM 25 0)).filter fun i => ok (d.recState i)

/-- LIVE or SUSPENDED. -/
def known (st : Nat) : Bool := st == stLIVE || st == stSUSPENDED

/-! ## CFG_INVALID (R73) -/

/-- A block of n bytes does not lie in DRAM. -/
def outside (a n : Nat) : Bool := !inDram a n

/-- Entries waiting on a ring with free-running indexes. -/
def Dev.waiting (d : Dev) (prod cons : Nat) : Nat := (d.rd prod + 2 ^ 32 - d.rd cons) % 2 ^ 32

/-- LOG2 of input ring n. -/
def Dev.inLog (d : Dev) (n : Nat) : Nat := d.fld (ING_IN_CFG n) 4 0

/-- ING_IN_COUNT of ring n. -/
def Dev.inCount (d : Dev) (n : Nat) : Nat := d.waiting (ING_IN_PROD n) (ING_IN_CONS n)

/-- CFG_INVALID of ING. -/
def ingCfgInvalid (d : Dev) : Bool :=
  outside (d.rd64 ING_HASH_BASE_LO) (16 * 2 ^ d.hashLog) ||
  outside (d.rd64 ING_REC_BASE_LO) (384 * indexSpace d.role) ||
  outside (d.rd64 ING_VPROF_BASE_LO) (256 * 64) || outside (d.rd64 ING_CPROF_BASE_LO) (1024 * 32) ||
  (List.range 8).any (fun n => d.inLog n != 0 && outside (d.rd64 (ING_IN_BASE_LO n)) (48 * 2 ^ d.inLog n)) ||
  (d.fld ING_EXC_CFG 4 0 != 0 && outside (d.rd64 ING_EXC_BASE_LO) (64 * 2 ^ d.fld ING_EXC_CFG 4 0))

/-! ## Commands (R57, R386) -/

/-- Codes of ING_REG_CMD. -/
abbrev cmdADD : Nat := 1
abbrev cmdREMOVE : Nat := 2
abbrev cmdSUSPEND : Nat := 3
abbrev cmdRESUME : Nat := 4
abbrev cmdRESEQ : Nat := 5
abbrev cmdLOOKUP : Nat := 6
abbrev cmdFREE : Nat := 7

/-- The new state of an entry, in the hash table and in its record. -/
def Dev.setEntryState (d : Dev) (h : Hit) (st : Nat) : Dev :=
  let w := h.idx + 2 ^ 29 * st
  (d.st (d.hashAddr h.slot + 8) 4 w).recPut h.idx rIDX_STATE 4 w

/-- RESEQ stands for an index, or no longer. -/
def Dev.setReseq (d : Dev) (i : Nat) (on : Bool) : Dev :=
  let l := d.ing.reseq.filter (· != i)
  { d with ing := { d.ing with reseq := if on then i :: l else l } }

/-- Endpoints registered with LOCAL = 1 (R55). -/
def Dev.localCount (d : Dev) : Nat :=
  ((d.endpoints fun st => st != stEMPTY).filter fun i => (d.recGet i rASSIGN2 4).testBit 31).length

/-- No index is left for one more endpoint (R55, R57). -/
def Dev.indexFull (d : Dev) : Bool :=
  (d.fld ING_REG_FREE_HEAD 24 0 == noIndex && decide (indexSpace d.role ≤ d.fld ING_REG_HWM 25 0)) ||
  (d.role == 2 && d.bit ING_REG_ATTR1 31 && decide (65536 ≤ d.localCount))

/-- ADD: the result, and the device. -/
def Dev.regAdd (d : Dev) (addr : Nat) : Dev × Nat :=
  match d.lookup addr with
  | some _ => (d, 1)
  | none =>
    if d.indexFull then (d, 3)
    else match d.freeSlot d.probeMax (homeSlot addr d.hashLog) with
      | none => (d, 4)
      | some s =>
        let head := d.fld ING_REG_FREE_HEAD 24 0
        let fresh : Bool := head == noIndex
        let i := if fresh then d.fld ING_REG_HWM 25 0 else head
        let gen := if fresh then 1 else (d.recGet i rREG_GEN 4 + 1) % 2 ^ 32
        let d := if fresh then d.wrS ING_REG_HWM (i + 1) else d.wrS ING_REG_FREE_HEAD (bitsOf (d.recGet i rADDR 8) 24 0)
        let w := i + 2 ^ 29 * stLIVE
        let d := d.stBytes (d.hashAddr s) (leBytes 8 addr ++ leBytes 4 w ++ leBytes 4 gen)
        let d := d.recPutBytes i 0 (leBytes 8 addr ++ leBytes 4 w ++ leBytes 4 (d.rd ING_REG_ATTR0) ++
          leBytes 4 (d.rd ING_REG_ATTR1) ++ leBytes 4 gen ++ leBytes 8 d.ext ++ zeroBytes 352)
        let d := (d.wr ING_REG_COUNT (d.rd ING_REG_COUNT + 1)).wr ING_REG_INDEX w
        let d := d.setReseq i false
        ({ d with epc := { d.epc with points := Assoc.del d.epc.points i },
                  trf := { d.trf with close := Assoc.del d.trf.close i } }, 0)

/-- The commands that act on an entry found by its address: REMOVE, SUSPEND, RESUME, RESEQ and LOOKUP. -/
def Dev.regOnEntry (d : Dev) (cmd addr : Nat) : Dev × Nat :=
  match d.lookup addr with
  | none => (d, 2)
  | some h =>
    if cmd = cmdREMOVE then ((d.setEntryState h stTOMBSTONE).setReseq h.idx false, 0)
    else if cmd = cmdSUSPEND then if h.state = stLIVE then (d.setEntryState h stSUSPENDED, 0) else (d, 6)
    else if cmd = cmdRESUME then if h.state = stSUSPENDED then (d.setEntryState h stLIVE, 0) else (d, 6)
    else if cmd = cmdRESEQ then (d.setReseq h.idx true, 0)
    else (d.wr ING_REG_INDEX (h.idx + 2 ^ 29 * h.state), 0)

/-- The settle window and the grid now in force (R74, R81). -/
def epochNs (code : Nat) : Nat :=
  60000000000 * (if code = 0 then 1 else if code = 1 then 5 else if code = 2 then 15 else if code = 3 then 30 else 60)
def Dev.epochLen (d : Dev) : Nat := epochNs (bitsOf (d.govEpoch EPC_EPOCH_CFG) 2 0)
def Dev.settle (d : Dev) : Nat := bitsOf (d.govEpoch EPC_EPOCH_CFG) 12 8
def Dev.origin (d : Dev) : Nat := d.govEpoch64 EPC_ORIGIN_LO

/-- The end boundary of the newest sealed epoch. -/
def Dev.newestSealed (d : Dev) : Option EpochRec :=
  ((d.epc.ashlars.filter fun a => a.typ == 0 && !a.header.isEmpty).getLast?).map (·.epoch)

/-- The reference boundary of R387. -/
def Dev.reference (d : Dev) : Option Nat :=
  if d.role = 0 then
    let back := d.settle * d.epochLen
    if d.origin + back ≤ d.ext then some (d.ext - back - (d.ext - back - d.origin) % d.epochLen) else none
  else d.newestSealed.map (·.tEnd)

/-- FREE: the index is put on the free list (R57, R387). -/
def Dev.regFree (d : Dev) (i : Nat) : Dev × Nat :=
  let t := d.recGet i rNEWEST 8
  if d.fld ING_REG_HWM 25 0 ≤ i ∨ d.recState i ≠ stTOMBSTONE then (d, 6)
  else if t ≠ 0 ∧ d.reference.all (fun b => decide (b < t)) then (d, 5)
  else
    let d := d.recPut i rADDR 8 (d.fld ING_REG_FREE_HEAD 24 0)
    let d := d.recPut i rIDX_STATE 4 i
    let d := (d.wrS ING_REG_FREE_HEAD i).wr ING_REG_COUNT (d.rd ING_REG_COUNT - 1)
    (d.setReseq i false, 0)

/-- A registry command by its code, on an address or, for FREE, on an index in its low bits. -/
def Dev.regCommand (d : Dev) (cmd addr : Nat) : Dev × Nat :=
  if ingCfgInvalid d then (d, 7)
  else if cmd = cmdADD then d.regAdd addr
  else if cmd = cmdFREE then d.regFree (addr % 2 ^ 25)
  else d.regOnEntry cmd addr

/-- The registry layout is being staged in a set (R57). -/
def Dev.regLocked (d : Dev) : Bool :=
  d.cmt.inSet.testBit pING &&
  [ING_HASH_CFG, ING_HASH_BASE_LO, ING_HASH_BASE_HI, ING_REC_BASE_LO, ING_REC_BASE_HI, ING_REG_HWM,
    ING_REG_FREE_HEAD].any d.reg.dirty.contains

/-- REG_CMD_DONE: the running command acts, and its result stands (R57). -/
def Dev.regDone (d : Dev) : Dev :=
  if d.ing.cmd = 0 then d
  else
    let cmd := d.ing.cmd
    let addr := d.rd64 ING_REG_ADDR_LO
    let (d, res) := d.regCommand cmd addr
    let d := d.mirror (.regCmd cmd (d.rd ING_REG_ATTR0) (d.rd ING_REG_ATTR1) addr)
    let d := { d with ing := { d.ing with cmd := 0 } }
    d.wr ING_REG_STAT (16 * res)

end Sys2Proof.Machine
end

