-- ==== Sys2Proof/Machine/TrfOps.lean ====
section
/-!
DEFINITION. The tariff engine (R95 to R111): the calendar, allocation among the tariff registers, the demand ring and the
maximum-demand registers, closings, the events of switches and evaluation points, and the validation of a scheme table.
-/
namespace Sys2Proof.Machine

/-! ## The scheme table (R95, R96) -/

/-- Address of scheme s under the table live at extended time t. -/
def Dev.scheme (d : Dev) (t s : Nat) : Nat := d.cfgAt64 t TRF_SCHED_BASE_LO + 0x2000 * s

/-- Fields of the scheme at address a. -/
def Dev.schUsed (d : Dev) (a : Nat) : Bool := d.ld a 2 != 0
def Dev.schDstEn (d : Dev) (a : Nat) : Bool := (d.ld (a + 2) 1).testBit 0
def Dev.schDefault (d : Dev) (a : Nat) : Nat := d.ld (a + 3) 1 % 8
def Dev.schTz (d : Dev) (a : Nat) : Int := sext 16 (d.ld (a + 4) 2)
def Dev.schShift (d : Dev) (a : Nat) : Nat := d.ld (a + 6) 1
def Dev.schDemMin (d : Dev) (a : Nat) : Nat := d.ld (a + 0xA) 1
def Dev.schDemSub (d : Dev) (a : Nat) : Nat := d.ld (a + 0xB) 1
def Dev.schMask (d : Dev) (a k : Nat) : Nat := d.ld (a + 0xC + k) 1

/-- ns in a minute and in a day. -/
abbrev minNs : Int := 60000000000
abbrev dayNs : Int := 86400000000000

/-- UTC in ns of an extended time (R98). -/
def Dev.utc (d : Dev) (t : Int) : Int := t + sext 64 (d.cfgAt64 t.toNat TRF_UTC_BASE_LO)

/-- The extended time of a UTC instant, under the base live at t. -/
def Dev.extOf (d : Dev) (t : Nat) (utc : Int) : Int := utc - sext 64 (d.cfgAt64 t TRF_UTC_BASE_LO)

/-- The DST intervals of a scheme in UTC seconds: an entry of zeros ends the list. -/
def Dev.dstList (d : Dev) (a : Nat) : List (Nat × Nat) :=
  if !d.schDstEn a then []
  else ((List.range 32).map fun i => (d.ld (a + 0x80 + 8 * i) 4, d.ld (a + 0x84 + 8 * i) 4)).takeWhile
    fun e => e.1 != 0 || e.2 != 0

/-- The DST interval that holds a UTC instant in ns. -/
def Dev.dstAt (d : Dev) (a : Nat) (u : Int) : Option (Nat × Nat) :=
  let sec := u / 1000000000
  (d.dstList a).find? fun e => decide ((e.1 : Int) ≤ sec) && decide (sec < e.2)

/-- Local time in ns of a UTC instant (R98). -/
def Dev.localNs (d : Dev) (a : Nat) (u : Int) : Int :=
  u + d.schTz a * minNs + (if (d.dstAt a u).isSome then (d.schShift a : Int) * minNs else 0)

/-- Year, month and day of a day number since 2000-01-01. -/
def civil (day : Int) : Int × Nat × Nat :=
  let z := day + 730425
  let era := z / 146097
  let doe := (z % 146097).toNat
  let yoe := (doe - doe / 1460 + doe / 36524 - doe / 146096) / 365
  let doy := doe - (365 * yoe + yoe / 4 - yoe / 100)
  let mp := (5 * doy + 2) / 153
  let dd := doy - (153 * mp + 2) / 5 + 1
  let m := if mp < 10 then mp + 3 else mp - 9
  ((yoe : Int) + era * 400 + (if m ≤ 2 then 1 else 0), m, dd)

/-- Entry i of the special days, when used. -/
def Dev.special (d : Dev) (a i : Nat) : Option Nat :=
  let w := d.ld (a + 0xA80 + 4 * i) 4
  if w.testBit 23 then some w else none

/-- The special day of a date. -/
def Dev.specialOf (d : Dev) (a : Nat) (day : Int) : Option Nat :=
  let (y, m, dd) := civil day
  (List.range (d.ld (a + 8) 2)).findSome? fun i =>
    match d.special a i with
    | none => none
    | some w => if (bitsOf w 6 0 : Int) + 2000 = y ∧ bitsOf w 10 7 = m ∧ bitsOf w 15 11 = dd then some w else none

/-- The season in force on a date: the latest start on or before it, else the last of the list. -/
def Dev.seasonOf (d : Dev) (a : Nat) (m dd : Nat) : Nat :=
  let n := d.ld (a + 7) 1
  let entries := (List.range n).map fun i => d.ld (a + 0x40 + 4 * i) 4
  let begun := entries.filter fun w => decide (32 * bitsOf w 3 0 + bitsOf w 8 4 ≤ 32 * m + dd)
  (begun.getLast?).getD (entries.getLast?.getD 0)

/-- The day profile of a local day: special day, else season, week, weekday. -/
def Dev.profileOf (d : Dev) (a : Nat) (day : Int) : Nat :=
  match d.specialOf a day with
  | some w => bitsOf w 21 16
  | none =>
    let (_, m, dd) := civil day
    let week := d.ld (a + 0x180 + 8 * bitsOf (d.seasonOf a m dd) 13 9) 8
    let wd := ((day + 5) % 7).toNat
    bitsOf week (6 * wd + 5) (6 * wd)

/-- The used switch points of a day profile: minute and register. -/
def Dev.points (d : Dev) (a p : Nat) : List (Nat × Nat) :=
  ((List.range 16).map fun k => d.ld (a + 0x280 + 32 * p + 2 * k) 2).filterMap fun w =>
    if w.testBit 15 then some (bitsOf w 10 0, bitsOf w 13 11) else none

/-- The register of the last used point of a local day at or before minute m. -/
def Dev.pointBefore (d : Dev) (a : Nat) (day : Int) (m : Nat) : Option Nat :=
  (((d.points a (d.profileOf a day)).filter fun e => decide (e.1 ≤ m)).getLast?).map (·.2)

/-- tariff_at for the scheme at address a and UTC instant u (R98). -/
def Dev.tariffUtc (d : Dev) (a : Nat) (u : Int) : Nat :=
  let x := d.localNs a (u - 1)
  let day := x / dayNs
  let m := ((x - day * dayNs) / minNs).toNat
  match d.pointBefore a day m with
  | some k => k
  | none => (d.pointBefore a (day - 1) 1439).getD (d.schDefault a)

/-- The register in force at extended time t in scheme s, for a clock class (R98, R99); the table is the one live just
before t (R376). -/
def Dev.tariffAt (d : Dev) (s t : Nat) (invalid : Bool) : Nat :=
  let a := d.scheme (t - 1) s
  if !d.schUsed a then 0
  else if invalid then d.schDefault a
  else d.tariffUtc a (d.utc ((t : Int) - 1) + 1)

/-! ## Instants of a local time -/

/-- The UTC instants at which a scheme's local time reaches day and minute: twice where local time repeats, and the first
instant after the jump where it is skipped (R98). -/
def Dev.instants (d : Dev) (a : Nat) (day : Int) (m : Nat) : List Int :=
  let u0 := day * dayNs + (m : Int) * minNs - d.schTz a * minNs
  let u1 := u0 - (d.schShift a : Int) * minNs
  let in0 := d.dstAt a u0
  let in1 := d.dstAt a u1
  match in0, in1 with
  | none, none => [u0]
  | none, some _ => if u0 = u1 then [u0] else [u1, u0]
  | some _, some _ => [u1]
  | some e, none => [(e.1 : Int) * 1000000000]

/-- A number into a rising list without repeats. -/
def insertUniq (n : Nat) : List Nat → List Nat
  | [] => [n]
  | m :: t => if n < m then n :: m :: t else if n = m then m :: t else m :: insertUniq n t

/-- A rising list without repeats. -/
def sortUniq (l : List Nat) : List Nat := l.foldl (fun acc n => insertUniq n acc) []

/-- The local days that an interval of UTC instants touches, one more at each side. -/
def Dev.daysOf (d : Dev) (a : Nat) (u v : Int) : List Int :=
  let lo := d.localNs a u / dayNs - 1
  let hi := d.localNs a v / dayNs + 1
  (List.range ((hi - lo).toNat + 1)).map fun (i : Nat) => lo + (i : Int)

/-- The switch instants of the scheme at address a in the extended-time interval (t, e], rising (R98): its switch points, and
the DST jumps at which the register in force changes. -/
def Dev.switches (d : Dev) (a t e : Nat) : List Nat :=
  let u := d.utc t
  let v := d.utc e
  let pts := (d.daysOf a u v).flatMap fun day =>
    (d.points a (d.profileOf a day)).flatMap fun p => d.instants a day p.1
  let jumps := ((d.dstList a).flatMap fun i => [(i.1 : Int) * 1000000000, (i.2 : Int) * 1000000000]).filter
    fun x => d.tariffUtc a x != d.tariffUtc a (x + 1)
  sortUniq (((pts ++ jumps).map fun x => (d.extOf t x).toNat).filter fun x => decide (t < x) && decide (x ≤ e))

/-! ## Allocation (R100, R101) -/

/-- Fire ticks after t and before e of keystones that changed a data-engine word (R42). -/
def Dev.firesIn (d : Dev) (t e : Nat) : List Nat :=
  (d.cmt.gens.map (·.fired)).filter fun f => decide (t < f) && decide (f < e)

/-- The ends x over which an interval (t, e] is divided (R100), rising, e last. -/
def Dev.cuts (d : Dev) (s t e : Nat) (extra : List Nat) : List Nat :=
  let fires := d.firesIn t e
  let all := (t :: fires).flatMap fun g => if d.schUsed (d.scheme g s) then d.switches (d.scheme g s) t e else []
  sortUniq ((all ++ fires ++ extra.filter (fun x => decide (t < x) && decide (x < e))) ++ [e])

/-- db × (x − t) / (e − t), rounded (R100). -/
def share (db : Int) (t e x : Nat) : Int := roundAway (db * ((x - t : Nat) : Int)) (e - t)

/-- The parts of a delta over (t, e]: end, register, amount; they sum to db exactly (R100). -/
def Dev.parts (d : Dev) (s t e : Nat) (db : Int) (extra : List Nat) : List (Nat × Nat × Int) :=
  ((d.cuts s t e extra).foldl (fun (acc : List (Nat × Nat × Int) × Int) x =>
    let cum := share db t e x
    (acc.1 ++ [(x, d.tariffAt s x false, cum - acc.2)], cum)) ([], 0)).1

/-- One reading as allocation sees it: stamp, clock class. -/
structure Stamp where
  t : Nat
  cls : Nat
  deriving DecidableEq, Repr

/-- Why a delta goes whole to one register (R101), in the order of its table. -/
inductive Whole where
  | invalid | long | inverted | negative
  deriving DecidableEq, Repr

/-- The case of R101 that an interval falls under. -/
def Dev.whole (d : Dev) (a c : Stamp) (db : Int) : Option Whole :=
  if a.cls = 3 ∨ c.cls = 3 then some .invalid
  else if db < 0 then some .negative
  else if c.t ≤ a.t then some .inverted
  else if d.cfgAt c.t TRF_SPLIT_MAX * 1000000000 < c.t - a.t then some .long
  else none

/-- The allocation of a delta over (a.t, c.t] as R100 and R101 give it. -/
def Dev.allocation (d : Dev) (s : Nat) (a c : Stamp) (db : Int) (extra : List Nat) : List (Nat × Nat × Int) :=
  if db = 0 then []
  else match d.whole a c db with
    | some .invalid => [(c.t, d.schDefault (d.scheme c.t s), db)]
    | some .long => [(c.t, d.schDefault (d.scheme c.t s), db)]
    | some .inverted => [(c.t, d.tariffAt s a.t false, db)]
    | some .negative => [(c.t, d.tariffAt s c.t false, db)]
    | none => d.parts s a.t c.t db extra

/-- The eight tariff registers of endpoint i. -/
def Dev.tariffs (d : Dev) (i : Nat) : List Int := (List.range 8).map fun k => d.recGetS i (rTARIFF + 8 * k) 8

/-- Registers with an amount added to one of them. -/
def addTo (l : List Int) (k : Nat) (x : Int) : List Int := l.set k (l.getD k 0 + x)

/-- Registers with an allocation added, or taken away. -/
def addParts (l : List Int) (ps : List (Nat × Nat × Int)) : List Int := ps.foldl (fun l p => addTo l p.2.1 p.2.2) l
def subParts (l : List Int) (ps : List (Nat × Nat × Int)) : List Int := ps.foldl (fun l p => addTo l p.2.1 (-p.2.2)) l

/-- Write the eight tariff registers. -/
def Dev.putTariffs (d : Dev) (i : Nat) (l : List Int) : Dev :=
  d.recPutBytes i rTARIFF (l.flatMap fun x => leBytes 8 (enc 64 x))

/-! ## Demand (R102 to R104) -/

/-- ns in a sub-interval of the scheme at a. -/
def Dev.subNs (d : Dev) (a : Nat) : Nat := d.schDemMin a * 60000000000 / max 1 (d.schDemSub a)

/-- Local standard time of an extended time. -/
def Dev.stdNs (d : Dev) (a : Nat) (t : Int) : Int := d.utc t + d.schTz a * minNs

/-- The sub-interval that contains an extended time: (j L, (j + 1) L]. -/
def Dev.subNo (d : Dev) (a : Nat) (t : Nat) : Int :=
  if d.subNs a = 0 then 0 else (d.stdNs a (t : Int) - 1) / (d.subNs a : Int)

/-- The extended time at which sub-interval j ends. -/
def Dev.subEnd (d : Dev) (a t : Nat) (j : Int) : Int := (j + 1) * (d.subNs a : Int) - d.schTz a * minNs - (d.utc t - t)

/-- The sliding-demand ring of a record (R103). -/
structure DemRing where
  openSlot : Nat
  fill : Nat
  subNo : Nat
  carry : Bool
  slots : List Nat
  deriving DecidableEq, Repr

/-- Read and write the ring. -/
def Dev.ring (d : Dev) (i : Nat) : DemRing :=
  let w := d.recGet i rDEMAND 4
  { openSlot := bitsOf w 3 0, fill := bitsOf w 7 4, subNo := bitsOf w 30 8, carry := w.testBit 31,
    slots := (List.range 15).map fun k => d.recGet i (rDEMAND + 4 + 4 * k) 4 }
def Dev.putRing (d : Dev) (i : Nat) (r : DemRing) : Dev :=
  d.recPutBytes i rDEMAND (leBytes 4 (r.openSlot % 16 + 16 * (r.fill % 16) + 256 * (r.subNo % 2 ^ 23) + 2 ^ 31 * b2n r.carry) ++
    r.slots.flatMap (leBytes 4))

/-- ring_reset: every slot cleared, sub-interval j open (R103). -/
def DemRing.reset (r : DemRing) (j : Int) : DemRing :=
  { r with openSlot := 0, fill := 0, subNo := enc 23 j, slots := List.replicate 15 0 }

/-- Maximum-demand register k: value and window end; and its replacement. -/
def Dev.maxDem (d : Dev) (i k : Nat) : Nat × Nat := (d.recGet i (rMAXDEM + 12 * k) 4, d.recGet i (rMAXDEM + 12 * k + 4) 8)
def Dev.putMaxDem (d : Dev) (i k : Nat) (v : Nat × Nat) : Dev :=
  d.recPutBytes i (rMAXDEM + 12 * k) (leBytes 4 v.1 ++ leBytes 8 v.2)

/-- The closing work of endpoint i, and its replacement. -/
def Dev.closeRec (d : Dev) (i : Nat) : CloseRec := Assoc.get {} d.trf.close i
def Dev.putClose (d : Dev) (i : Nat) (c : CloseRec) : Dev := { d with trf := { d.trf with close := Assoc.put d.trf.close i c } }

/-- The scheme of an endpoint (R58). -/
def Dev.schemeNo (d : Dev) (i : Nat) : Nat := bitsOf (d.recGet i rASSIGN 4) 15 8

/-- The boundary of the pending closing when endpoint i takes part in it (R105, R107). -/
def Dev.pendingFor (d : Dev) (i : Nat) : Option Nat :=
  let b := d.rd64 TRF_PEND_CLOSE_LO
  if b ≠ 0 ∧ d.trf.closing.contains (d.schemeNo i) ∧ i < d.rd EPC_WORK_CAP then some b else none

/-- The demand registers move to the closing copy and restart from 0 (R106). -/
def Dev.moveDemand (d : Dev) (i : Nat) : Dev :=
  let c := d.closeRec i
  if c.oldDemand.isSome then d
  else
    let old := (List.range 4).map (d.maxDem i)
    let d := d.each (List.range 4) fun d k => d.putMaxDem i k (0, 0)
    d.putClose i { c with oldDemand := some old, oldSat := c.satMask, satMask := 0 }

/-- md_update (R104): the larger demand, the earlier of two equal ones; sat: the value saturated. -/
def Dev.mdUpdate (d : Dev) (i k v t : Nat) (sat : Bool) : Dev :=
  let mark := fun (m : Nat) => if sat then m ||| 2 ^ k else m
  match d.pendingFor i, (d.closeRec i).oldDemand with
  | some b, some old =>
    if t ≤ b then
      let o := old.getD k (0, 0)
      let c := d.closeRec i
      if o.1 < v then d.putClose i { c with oldDemand := some (old.set k (v, t)), oldSat := mark c.oldSat } else d
    else if (d.maxDem i k).1 < v then
      (d.putMaxDem i k (v, t)).putClose i { d.closeRec i with satMask := mark (d.closeRec i).satMask } else d
  | _, _ =>
    if (d.maxDem i k).1 < v then
      (d.putMaxDem i k (v, t)).putClose i { d.closeRec i with satMask := mark (d.closeRec i).satMask } else d

/-- A window of endpoint i is complete at extended time t (R103, R104). -/
def Dev.window (d : Dev) (i s a t : Nat) (invalid : Bool) (sum : Nat) : Dev :=
  if t ≤ d.rd64 TRF_LAST_CLOSE_LO then d.bump TRF_DEM_LATE
  else
    let d := match d.pendingFor i with
      | some b => if b < t then d.moveDemand i else d
      | none => d
    let v := (roundAway ((sum * 60 : Nat) : Int) (d.schDemMin a)).toNat
    let d := d.iff (decide (m32 < v)) (·.bump TRF_SAT_COUNT)
    let k := d.tariffAt s t invalid
    (d.each (List.range 4) fun d n =>
      if (d.schMask a n).testBit k then d.mdUpdate i n (satNat v m32) t (decide (m32 < v)) else d)

/-- The loop of R103 by fuel; prev is the part of the delta already spread. -/
def demandLoop (i s a : Nat) (inv : Bool) (t c : Nat) (db : Int) : Nat → Int → Int → Dev → Dev
  | 0, _, _, d => d
  | fuel + 1, j, prev, d =>
    let e := (d.subEnd a t j).toNat
    let x := min e c
    let cum := share db t c x
    let r := d.ring i
    let v := (((r.slots.getD r.openSlot 0 : Nat) : Int) + cum - prev).toNat
    let r := { r with slots := r.slots.set r.openSlot (satNat v m32) }
    let d := d.putRing i r
    if x < e then d
    else
      let n := max 1 (d.schDemSub a)
      let full : Bool := r.fill + 1 == n
      let sum := (List.range n).foldl (fun m k => m + r.slots.getD ((r.openSlot + 15 - k) % 15) 0) 0
      let d := if full then d.window i s a e inv sum else d
      let o := (r.openSlot + 1) % 15
      let d := d.putRing i { r with openSlot := o, fill := if full then r.fill else r.fill + 1, subNo := enc 23 (j + 1),
                                     slots := r.slots.set o 0 }
      if x = c then d else demandLoop i s a inv t c db fuel (j + 1) cum d

/-- demand of R103: a forward delta spread over the sub-intervals. -/
def Dev.demand (d : Dev) (i s : Nat) (t c : Nat) (db : Int) (inv : Bool) : Dev :=
  let a := d.scheme (c - 1) s
  if d.subNs a = 0 then d
  else
    let j := d.subNo a t
    let r := d.ring i
    let stale : Bool := enc 23 j != r.subNo || d.trf.regrid.contains i
    let d := if stale then d.putRing i (r.reset j) else d
    let d := { d with trf := { d.trf with regrid := d.trf.regrid.filter (· != i) } }
    demandLoop i s a inv t c db ((c - t) / d.subNs a + 2) j 0 d

/-- ring_reset at the sub-interval that contains t. -/
def Dev.demandReset (d : Dev) (i s t : Nat) : Dev :=
  let a := d.scheme (t - 1) s
  d.putRing i ((d.ring i).reset (d.subNo a t))

/-! ## An applied reading (R100, R101, R106, R108) -/

/-- TRF allocates for a reading stamped t (R111). -/
def Dev.trfAllocates (d : Dev) (t : Nat) : Bool :=
  d.role != 0 && d.en pTRF && (d.cfgAt t TRF_CFG).testBit 0

/-- The first reading after the pending boundary takes the snapshot: the registers before it and the parts up to it (R106). -/
def Dev.snapshot (d : Dev) (i : Nat) (before : List Int) (ps : List (Nat × Nat × Int)) (c : Nat) : Dev :=
  match d.pendingFor i with
  | none => d
  | some b =>
    let r := d.closeRec i
    if r.snap.isSome ∨ c ≤ b then d
    else d.putClose i { r with snap := some (addParts before (ps.filter fun p => decide (p.1 ≤ b))),
                               oldDefault := r.defaultUsed, defaultUsed := false }

/-- The registers a set of parts touches. -/
def partRegs (ps : List (Nat × Nat × Int)) : List Nat := (ps.map fun p => p.2.1).eraseDups

/-- LATE_CARRY: consumption went to an interval at or before the newest sealed closing (R108). -/
def Dev.lateCarry (d : Dev) (i t : Nat) (moved : Bool) : Dev :=
  if moved ∧ t < d.rd64 TRF_LAST_CLOSE_LO then d.putRing i { d.ring i with carry := true } else d

/-- TRF takes an applied reading c after a with a forward billed delta (R100, R101, R103). -/
def Dev.trfApply (d : Dev) (i : Nat) (a c : Stamp) (baseline : Bool) (db : Int) : Dev :=
  if !d.trfAllocates c.t then d
  else
    let s := d.schemeNo i
    let tbl := d.scheme (c.t - 1) s
    let before := d.tariffs i
    if !d.schUsed tbl then
      let d := d.bump TRF_NOSCHEME_COUNT
      if baseline ∨ db = 0 then d else d.putTariffs i (addTo before 0 db)
    else if baseline ∨ db = 0 then
      let d := d.snapshot i before [] c.t
      if baseline ∨ c.t ≤ a.t then d else d.demand i s a.t c.t 0 (c.cls == 3)
    else
      let b := d.rd64 TRF_PEND_CLOSE_LO
      let ps := d.allocation s a c db [b]
      let w := d.whole a c db
      let d := d.snapshot i before ps c.t
      let d := d.putTariffs i (addParts before ps)
      let d := d.lateCarry i a.t true
      let used := fun (d : Dev) => d.putClose i { d.closeRec i with defaultUsed := true }
      match w with
      | some .invalid =>
        let d := used (d.bump TRF_DEFAULT_COUNT)
        if db < 0 then d else d.demandReset i s c.t
      | some .long => (used (d.bump TRF_LONG_COUNT)).demandReset i s c.t
      | some .inverted => (d.bump TRF_INVERT_COUNT).demandReset i s c.t
      | some .negative => d
      | none =>
        let d := d.iff (decide (1 < (partRegs ps).length)) (·.bump TRF_SPLIT_COUNT)
        d.demand i s a.t c.t db (c.cls == 3)

/-- The allocation over a chain of readings with their forward values. -/
def Dev.chainParts (d : Dev) (s : Nat) (extra : List Nat) : List (Stamp × Int) → List (Nat × Nat × Int)
  | (a, x) :: (c, y) :: rest => d.allocation s a c (y - x) extra ++ d.chainParts s extra ((c, y) :: rest)
  | _ => []

/-- TRF takes a BACKFILL between OLDER and NEWEST: old is the chain of readings over that bracket without it, new with it
(R101). A reading at or before OLDER is skipped. -/
def Dev.trfBackfill (d : Dev) (i t : Nat) (inside : Bool) (old new : List (Stamp × Int)) : Dev :=
  if !d.trfAllocates t then d
  else
    let s := d.schemeNo i
    if !d.schUsed (d.scheme (t - 1) s) then d.bump TRF_NOSCHEME_COUNT
    else if !inside then d.bump TRF_BACKFILL_SKIP
    else
      let b := d.rd64 TRF_PEND_CLOSE_LO
      let d := d.bump TRF_RESPLIT_COUNT
      let oldParts := d.chainParts s [b] old
      let newParts := d.chainParts s [b] new
      let base := subParts (d.tariffs i) oldParts
      let d := d.putTariffs i (addParts base newParts)
      let d := d.lateCarry i (old.headD (⟨t, 0⟩, 0)).1.t true
      match d.pendingFor i with
      | some b =>
        let r := d.closeRec i
        if r.snap.isSome ∧ (old.headD (⟨t, 0⟩, 0)).1.t < b ∧ b ≤ (old.getLastD (⟨t, 0⟩, 0)).1.t then
          d.putClose i { r with snap := some (addParts base (newParts.filter fun p => decide (p.1 ≤ b))) }
        else d
      | none => d

end Sys2Proof.Machine
end

