-- ==== Sys2Proof/Machine/TrfCal.lean ====
section
/-!
DEFINITION. The tariff engine's calendar events, its closings, its validation of a scheme table, and its page (R97, R99, R102,
R105 to R109, R112).
-/
namespace Sys2Proof.Machine

/-! ## Events of the calendar (R109) -/

/-- CFG_INVALID of TRF (R112). -/
def trfCfgInvalid (d : Dev) : Bool :=
  pastEnd (d.rd64 TRF_SCHED_BASE_LO) 0x200000 || pastEnd (d.rd64 TRF_CLOSE_BASE_LO) (128 * d.rd EPC_WORK_CAP)

/-- Schemes in use: FORMAT not 0, by their addresses. -/
def Dev.schemesInUse (d : Dev) : List Nat :=
  if trfCfgInvalid d then []
  else (List.range 256).filter fun s => d.schUsed (d.scheme d.ext s)

/-- The first instant of a rising list, or the smaller of two. -/
def minOf (a b : Option Nat) : Option Nat :=
  match a, b with
  | none, x => x
  | x, none => x
  | some x, some y => some (min x y)

/-- TRF_NEXT_SWITCH: a day profile has a switch point, so three days hold one. -/
def Dev.nextSwitch (d : Dev) : Nat :=
  (d.schemesInUse.foldl (fun m s =>
    minOf m (d.switches (d.scheme d.ext s) d.ext (d.ext + 259200000000000)).head?) none).getD 0

/-- Evaluation points of the scheme at a up to t, as a count (R102). -/
def Dev.evalCount (d : Dev) (a t : Nat) : Int := if d.subNs a = 0 then 0 else d.stdNs a (t : Int) / (d.subNs a : Int)

/-- TRF_NEXT_DEMAND. -/
def Dev.nextDemand (d : Dev) : Nat :=
  (d.schemesInUse.foldl (fun m s =>
    let a := d.scheme d.ext s
    minOf m (if d.subNs a = 0 then none else some (d.subEnd a d.ext (d.evalCount a d.ext)).toNat)) none).getD 0

/-- TRF_SWITCH: every period end passed since the last one sets its map bit, with one event 31; none while the class is
INVALID (R99, R109). -/
def Dev.trfSwitch (d : Dev) : Dev :=
  if !d.runs pTRF then d
  else
    let due := d.schemesInUse.filter fun s => !(d.switches (d.scheme d.ext s) d.trf.switchDone d.ext).isEmpty
    if due.isEmpty then d
    else
      let d := { d with trf := { d.trf with switchDone := d.ext } }
      if d.cls = .invalid then d
      else
        let d := d.each due fun d s =>
          d.wr (TRF_SWITCH_MAP (s / 32)) (d.rd (TRF_SWITCH_MAP (s / 32)) ||| 2 ^ (s % 32))
        d.raise pTRF 0

/-- TRF_DEMAND_END: one event 33 for every evaluation point passed (R102, R109). -/
def Dev.trfDemandEnd (d : Dev) : Dev :=
  if !d.runs pTRF then d
  else if d.schemesInUse.any (fun s =>
      let a := d.scheme d.ext s
      decide (d.evalCount a d.trf.demandDone < d.evalCount a d.ext)) then
    ({ d with trf := { d.trf with demandDone := d.ext } }).raise pTRF 2
  else d

/-- TRF begins at the present time: at its enabling, and at start-up (R110). -/
def Dev.trfBegin (d : Dev) : Dev :=
  { d with trf := { d.trf with switchDone := max d.trf.switchDone d.ext, demandDone := max d.trf.demandDone d.ext } }

/-! ## Closings (R105) -/

/-- The scheme at a closes on a local day (R105): CLOSE_DAY of a named month, or a special day with CLOSE. -/
def Dev.closesOn (d : Dev) (a : Nat) (day : Int) : Bool :=
  let (_, m, dd) := civil day
  let cd := d.ld (a + 0x10) 1
  let (_, _, next) := civil (day + 1)
  let byDay : Bool := cd != 0xFF && (if cd = 0 then next == 1 else dd == cd)
  (byDay && (d.ld (a + 0x14) 4).testBit (m - 1)) ||
    (match d.specialOf a day with | none => false | some w => w.testBit 22)

/-- The scheme at a has a closing instant in the extended-time interval (t, e]; a repeated local time closes at its first
occurrence. -/
def Dev.closesIn (d : Dev) (a t e : Nat) : Bool :=
  (d.daysOf a (d.utc t) (d.utc e)).any fun day =>
    d.closesOn a day &&
    match (d.instants a day (d.ld (a + 0x12) 2)).head? with
    | none => false
    | some u => decide ((t : Int) < d.extOf t u) && decide (d.extOf t u ≤ e)

/-- An epoch boundary b after boundary p: a closing becomes pending, or is deferred and counted (R105). -/
def Dev.trfBoundary (d : Dev) (p b : Nat) : Dev :=
  if !d.runs pTRF || !d.bit TRF_CFG 1 || d.role == 0 then d
  else
    let due := d.schemesInUse.filter fun s => d.closesIn (d.scheme b s) p b
    let all := sortUniq (due ++ d.trf.deferred)
    if all.isEmpty then d
    else if d.rd64 TRF_PEND_CLOSE_LO ≠ 0 then
      ({ d with trf := { d.trf with deferred := all } }).iff (!due.isEmpty) (·.bump TRF_CLOSE_DEFER)
    else ({ d with trf := { d.trf with closing := all, deferred := [] } }).wr64 TRF_PEND_CLOSE_LO b

/-- What EPC knows of an endpoint at the closing boundary when it finalises the epoch: the method and value of the forward
register, the before point's stamp and forward value, and the entry's quality. -/
structure CloseIn where
  idx : Nat
  method : Nat
  val : Int
  a : Stamp
  aCum : Int
  quality : Nat
  deriving DecidableEq, Repr

/-- The snapshot of an endpoint at b: as taken by a reading, or from its entry (R106). -/
def Dev.closeSnap (d : Dev) (b : Nat) (e : CloseIn) : List Int :=
  let now := d.tariffs e.idx
  match (d.closeRec e.idx).snap with
  | some l => l
  | none =>
    if e.method = 4 then List.replicate 8 0
    else if e.method = 3 ∨ e.val = e.aCum then now
    else addParts now (d.parts (d.schemeNo e.idx) e.a.t b (e.val - e.aCum) [])

/-- A tariff register in 6 bytes, saturating (R107). -/
def tr48 (x : Int) : Bytes := leBytes 6 (enc 48 (clampInt x (-(2 ^ 47 - 1)) (2 ^ 47 - 1)))

/-- The entries of one endpoint (R107): KIND 3 and KIND 4; its LATE_CARRY is then cleared (R108). -/
def Dev.closeEntry (d : Dev) (b : Nat) (e : CloseIn) : Dev × Bytes × Bytes :=
  let i := e.idx
  let snap := d.closeSnap b e
  let d := d.moveDemand i
  let r := d.closeRec i
  let dflt : Bool := if r.snap.isSome then r.oldDefault else r.defaultUsed
  let sat : Bool := snap.any fun x => decide (2 ^ 47 - 1 < x.natAbs)
  let ring := d.ring i
  let old := r.oldDemand.getD []
  let sch := d.schemeNo i
  let q := bitsOf (d.recGet i rASSIGN 4) 7 0
  let addr := d.recGet i rADDR 8
  let k3 := leBytes 8 addr ++ snap.flatMap tr48 ++ leBytes 1 e.quality ++ leBytes 1 3 ++ leBytes 1 sch ++
    leBytes 1 (b2n ring.carry + 2 * b2n sat + 4 * b2n dflt) ++ leBytes 1 q ++ zeroBytes 3
  let set := (List.range 4).foldl (fun m k => m + b2n ((old.getD k (0, 0)).2 != 0) * 2 ^ k) 0
  let k4 := leBytes 8 addr ++ old.flatMap (fun x => leBytes 4 x.1) ++ old.flatMap (fun x => leBytes 8 x.2) ++
    leBytes 1 (set + 16 * r.oldSat) ++ leBytes 1 4 ++ leBytes 1 sch ++ zeroBytes 1 ++ leBytes 1 q ++ zeroBytes 3
  let d := d.putRing i { ring with carry := false }
  (d.putClose i { r with snap := some snap, oldDefault := dflt,
                         defaultUsed := if r.snap.isSome then r.defaultUsed else false }, k3, k4)

/-- The leaves of the CLOSING ashlar of b, tariff entries then demand entries, each in the order of the endpoints given. -/
def Dev.closeLeaves (d : Dev) (b : Nat) (es : List CloseIn) : Dev × List Bytes :=
  let mine := es.filter fun e => (d.pendingFor e.idx).isSome
  let (d, k3, k4) := mine.foldl (fun (acc : Dev × List Bytes × List Bytes) e =>
    let (d, x, y) := acc.1.closeEntry b e
    (d, acc.2.1 ++ [x], acc.2.2 ++ [y])) (d, [], [])
  (d, k3 ++ k4)

/-- The CLOSING ashlar of b has sealed (R106). -/
def Dev.closeSealed (d : Dev) (b : Nat) : Dev :=
  let d := { d with trf := { d.trf with
    closing := [],
    close := d.trf.close.map fun (e : Nat × CloseRec) =>
      (e.1, { e.2 with snap := none, oldDemand := none, oldDefault := false, oldSat := 0 }) } }
  (d.wr64 TRF_LAST_CLOSE_LO b).wr64 TRF_PEND_CLOSE_LO 0

/-! ## Validation (R97) -/

/-- Results of TRF_TBL_CMD. -/
abbrev tFORMAT : Nat := 1
abbrev tORDER : Nat := 2
abbrev tRANGE : Nat := 3
abbrev tEMPTY : Nat := 4

/-- A failure at an offset when a condition does not hold. -/
def need (ok : Bool) (code off : Nat) : Option (Nat × Nat) := if ok then none else some (code, off)

/-- The first failure of a list. -/
def firstOf (l : List (Option (Nat × Nat))) : Option (Nat × Nat) := l.findSome? id

/-- The header of the scheme at a (R95). -/
def Dev.checkHeader (d : Dev) (a : Nat) : Option (Nat × Nat) :=
  let tz := d.schTz a
  let dm := d.schDemMin a
  let ds := d.schDemSub a
  firstOf [need (d.ld a 2 == 1) tFORMAT 0,
    need (decide (-720 ≤ tz) && decide (tz ≤ 840)) tRANGE 4,
    need (decide (d.schShift a ≤ 120)) tRANGE 6,
    need (decide (1 ≤ d.ld (a + 7) 1) && decide (d.ld (a + 7) 1 ≤ 16)) tRANGE 7,
    need (decide (d.ld (a + 8) 2 ≤ 512)) tRANGE 8,
    need ([1, 2, 3, 4, 5, 6, 10, 12, 15, 20, 30, 60].contains dm) tRANGE 0xA,
    need (decide (1 ≤ ds) && decide (ds ≤ 15) && dm * 60 % ds == 0) tRANGE 0xB,
    need (decide (d.ld (a + 0x10) 1 ≤ 28) || d.ld (a + 0x10) 1 == 0xFF) tRANGE 0x10,
    need (decide (d.ld (a + 0x12) 2 ≤ 1439)) tRANGE 0x12]

/-- A month and a day are in range. -/
def dateOk (m dd : Nat) : Bool := decide (1 ≤ m) && decide (m ≤ 12) && decide (1 ≤ dd) && decide (dd ≤ 31)

/-- The seasons in use (R96). -/
def Dev.checkSeasons (d : Dev) (a : Nat) : Option (Nat × Nat) :=
  let w := fun i => d.ld (a + 0x40 + 4 * i) 4
  let key := fun i => 32 * bitsOf (w i) 3 0 + bitsOf (w i) 8 4
  (List.range (d.ld (a + 7) 1)).findSome? fun i =>
    firstOf [need (dateOk (bitsOf (w i) 3 0) (bitsOf (w i) 8 4)) tRANGE (0x40 + 4 * i),
      need (i == 0 || decide (key (i - 1) < key i)) tORDER (0x40 + 4 * i)]

/-- The DST intervals (R96), used when DST_EN = 1. -/
def Dev.checkDst (d : Dev) (a : Nat) : Option (Nat × Nat) :=
  let l := d.dstList a
  (List.range l.length).findSome? fun i =>
    let e := l.getD i (0, 0)
    need (decide (e.1 < e.2) && (i == 0 || decide ((l.getD (i - 1) (0, 0)).2 ≤ e.1))) tORDER (0x80 + 8 * i)

/-- A day profile is named by a week profile or by a special day in use (R96). -/
def Dev.profileNamed (d : Dev) (a p : Nat) : Bool :=
  (List.range 32).any (fun w =>
    let x := d.ld (a + 0x180 + 8 * w) 8
    (List.range 7).any fun n => bitsOf x (6 * n + 5) (6 * n) == p) ||
  (List.range (d.ld (a + 8) 2)).any fun i =>
    match d.special a i with | none => false | some w => bitsOf w 21 16 == p

/-- The day profiles (R96). -/
def Dev.checkDays (d : Dev) (a : Nat) : Option (Nat × Nat) :=
  (List.range 64).findSome? fun p =>
    let off := 0x280 + 32 * p
    let w := fun k => d.ld (a + off + 2 * k) 2
    let pts := (List.range 16).findSome? fun k =>
      if !(w k).testBit 15 then none
      else firstOf [need (decide (bitsOf (w k) 10 0 ≤ 1439)) tRANGE (off + 2 * k),
        need (k == 0 || ((w (k - 1)).testBit 15 && decide (bitsOf (w (k - 1)) 10 0 < bitsOf (w k) 10 0))) tORDER (off + 2 * k)]
    match pts with
    | some f => some f
    | none => need (!(d.points a p).isEmpty || !d.profileNamed a p) tEMPTY off

/-- The special days (R96). -/
def Dev.checkSpecial (d : Dev) (a : Nat) : Option (Nat × Nat) :=
  let w := fun i => d.ld (a + 0xA80 + 4 * i) 4
  let key := fun i => 512 * bitsOf (w i) 6 0 + 32 * bitsOf (w i) 10 7 + bitsOf (w i) 15 11
  (List.range (d.ld (a + 8) 2)).findSome? fun i =>
    let off := 0xA80 + 4 * i
    firstOf [need ((w i).testBit 23) tORDER off, need (dateOk (bitsOf (w i) 10 7) (bitsOf (w i) 15 11)) tRANGE off,
      need (i == 0 || decide (key (i - 1) < key i)) tORDER off]

/-- One scheme, its parts by ascending offset; FORMAT 0 is skipped. -/
def Dev.checkScheme (d : Dev) (a : Nat) : Option (Nat × Nat) :=
  if !d.schUsed a then none
  else firstOf [d.checkHeader a, d.checkSeasons a, d.checkDst a, d.checkDays a, d.checkSpecial a]

/-- The validation ends (R97): result, first failing scheme and offset; on 0 the address stands in TRF_TBL_OK. -/
def Dev.trfValidated (d : Dev) : Dev :=
  match d.trf.job with
  | none => d
  | some base =>
    let d := { d with trf := { d.trf with job := none } }
    let bad := if outside base 0x200000 then some (0, tRANGE, 0) else
      (List.range 256).findSome? fun s => (d.checkScheme (base + 0x2000 * s)).map fun f => (s, f.1, f.2)
    match bad with
    | none => (d.wr TRF_TBL_STAT 0).wr64 TRF_TBL_OK_LO base
    | some (s, code, off) => d.wr TRF_TBL_STAT (2 * code + 256 * s + 65536 * off)

/-! ## The page (R112) -/

/-- The computed registers of the TRF page. -/
def trfRead (d : Dev) (off : Nat) : Option Nat :=
  match off with
  | 0x12C => some (d.rd TRF_TBL_STAT + b2n d.trf.job.isSome)
  | 0x1A0 => some (d.nextSwitch % 2 ^ 32)
  | 0x1A4 => some (d.nextSwitch / 2 ^ 32)
  | 0x1A8 => some (d.nextDemand % 2 ^ 32)
  | 0x1AC => some (d.nextDemand / 2 ^ 32)
  | _ => none

/-- What TRF makes of a write to its page. -/
def trfWrite (d : Dev) (_r : Requester) (off v : Nat) : WriteRes :=
  if off = 0x128 then
    if d.trf.job.isSome then .refuse ENGINE_BUSY
    else if v.testBit 0 then .done { d with trf := { d.trf with job := some (d.rd64 TRF_TBL_ADDR_LO) } }
    else .done d
  else .plain

/-- The client of TRF's work batches (R111). -/
abbrev trfClient : Client := ⟨pTRF, 0⟩

/-- The block bits of TRF PG_STAT. -/
def trfPgStat (d : Dev) : Nat :=
  4 * b2n (trfCfgInvalid d) + 8 * b2n (d.rd64 TRF_PEND_CLOSE_LO != 0) + 16 * b2n (d.queuedFor 8 trfClient)

/-- A fire changes the scheme table: endpoints whose demand grid differs reset their ring at their next reading (R103). -/
def trfFired (old d : Dev) (changed : List Nat) : Dev :=
  if changed.contains TRF_SCHED_BASE_LO || changed.contains TRF_SCHED_BASE_HI then
    let l := (d.endpoints known).filter fun i =>
      let s := d.schemeNo i
      let a := old.rd64 TRF_SCHED_BASE_LO + 0x2000 * s
      let b := d.rd64 TRF_SCHED_BASE_LO + 0x2000 * s
      d.schDemMin a != d.schDemMin b || d.schDemSub a != d.schDemSub b
    { d with trf := { d.trf with regrid := sortUniq (l ++ d.trf.regrid) } }
  else d

/-- A soft reset of TRF: the validation and the event bookkeeping go; the closing work area is memory and stays (R110). -/
def trfReset (d : Dev) : Dev := ({ d with trf := { d.trf with job := none } }).trfBegin

end Sys2Proof.Machine
end

