-- ==== Sys2Proof/Machine/EpcOps.lean ====
section
/-!
DEFINITION. The epoch engine's points, boundary values, entries and Merkle trees (R74 to R86), and its boundaries (R75).
-/
namespace Sys2Proof.Machine

/-! ## Points (R77) -/

/-- The points of endpoint i, and their replacement. -/
def Dev.pts (d : Dev) (i : Nat) : List Point := Assoc.get [] d.epc.points i
def Dev.putPts (d : Dev) (i : Nat) (l : List Point) : Dev :=
  { d with epc := { d.epc with points := Assoc.put d.epc.points i l } }

/-- Insert by time, behind points of the same stamp. -/
def insertPoint (p : Point) : List Point → List Point
  | [] => [p]
  | q :: t => if q.t ≤ p.t then q :: insertPoint p t else p :: q :: t

/-- Applied readings in time order, as BACKFILLs are derived from them. -/
def appliedPts (l : List Point) : List Point := l.filter fun p => p.applied && !p.inverted

/-- The last of a list that a test admits. -/
def lastWhere {α : Type} (f : α → Bool) (l : List α) : Option α := (l.filter f).getLast?

/-- cum(r) of R77 for one register. With equal raw values, or no applied reading on one side, the other side's value stands. -/
def derived (a c : Option Point) (r : Point) (cum : Point → Int) : Int :=
  match a, c with
  | none, none => 0
  | some a, none => cum a
  | none, some c => cum c
  | some a, some c =>
    if c.raw = a.raw then cum a
    else ((Frac.ofInt (cum a)).add (frac ((cum c - cum a) * (r.raw - a.raw)) (c.raw - a.raw))).round

/-- A point with its cumulative values: its own where ING applied it, derived for a BACKFILL. -/
def withCum (l : List Point) (p : Point) : Point :=
  if p.applied then p
  else
    let ap := appliedPts l
    let a := lastWhere (fun q => decide (q.t ≤ p.t)) ap
    let c := ap.find? fun q => decide (p.t < q.t)
    { p with cumF := derived a c p (·.cumF), cumR := derived a c p (·.cumR) }

/-- The before point and the after point of boundary b. -/
def bracket (l : List Point) (b : Nat) : Option Point × Option Point :=
  let u := l.filter (·.usable)
  ((lastWhere (fun p => decide (p.t ≤ b)) u).map (withCum l), (u.find? fun p => decide (b < p.t)).map (withCum l))

/-- The usable applied reading before a point. -/
def pointBefore (l : List Point) (a : Point) : Option Point :=
  lastWhere (fun p => p.usable && p.applied && decide (p.t < a.t)) l

/-! ## Boundary values (R78 to R80) -/

/-- METHOD codes. -/
abbrev mEXACT : Nat := 0
abbrev mINTERPOLATED : Nat := 1
abbrev mEXTRAPOLATED : Nat := 2
abbrev mCARRIED : Nat := 3
abbrev mNODATA : Nat := 4
abbrev uncNone : Nat := 0xFFFFFFFF

/-- The value of one endpoint at a boundary, for both registers. -/
structure BVal where
  method : Nat
  valF : Int
  valR : Int
  uncF : Nat
  uncR : Nat
  flags : Nat
  before : Option Point
  after : Option Point
  deriving DecidableEq, Repr

/-- Parameters of R78 as configured at a boundary: interp_k in 16.16, extrap_max in ns, the deviation and SIGNED. -/
structure BParam where
  interpK : Nat
  extrapMax : Nat
  dev : Nat
  signed : Bool
  deriving DecidableEq, Repr

/-- An uncertainty above 0xFFFF_FFFE is stored as no bound. -/
def uncSat (n : Nat) : Nat := if 0xFFFFFFFE < n then uncNone else n

/-- ESTIMATED added, VALID cleared. -/
def estimated (q : Nat) : Nat := setBit (q ||| qESTIMATED) 0 false

/-- The OR of two points' flags; VALID only if both carry it (R80). -/
def bothFlags (x y : Nat) : Nat := setBit (x ||| y) 0 (x.testBit 0 && y.testBit 0)

/-- u_time: |rate| x T_UNC. -/
def uTime (r : Frac) (tunc : Nat) : Frac := r.abs.mul (Frac.ofInt tunc)

/-- One register of the INTERPOLATED case. -/
def interpolate (p : BParam) (a c : Point) (b : Nat) (cum : Point → Int) : Int × Nat :=
  let f := frac ((b - a.t : Nat) : Int) ((c.t - a.t : Nat) : Int)
  let dl := Frac.ofInt (cum c - cum a)
  let ui := (frac p.interpK 65536).mul (dl.abs.mul (f.mul ((Frac.ofInt 1).sub f)))
  let ut := (dl.abs.div (Frac.ofInt ((c.t - a.t : Nat) : Int))).mul (Frac.ofInt (max a.tUnc c.tUnc : Nat))
  let uc := f.mul (dl.abs.mul (frac p.dev 1000000))
  (((Frac.ofInt (cum a)).add (dl.mul f)).round, uncSat (Frac.sum [ui.sq, ut.sq, uc.sq]).sqrtUp)

/-- One register of the EXTRAPOLATED case, at a rate per ns. -/
def extrapolate (p : BParam) (a : Point) (b : Nat) (rate : Frac) (cum : Int) : Int × Nat :=
  let r := if p.signed then rate else rate.max (Frac.ofInt 0)
  let span := Frac.ofInt ((b - a.t : Nat) : Int)
  let ue := r.abs.mul span
  (((Frac.ofInt cum).add (r.mul span)).round, uncSat (ue.sq.add (uTime r a.tUnc).sq).sqrtUp)

/-- boundary_value with at_seal = 1 (R78). -/
def boundaryValue (l : List Point) (b : Nat) (p : BParam) : BVal :=
  match bracket l b with
  | (none, c) => { method := mNODATA, valF := 0, valR := 0, uncF := uncNone, uncR := uncNone, flags := qESTIMATED, before := none, after := c }
  | (some a, c) =>
    let prev := (pointBefore l a).map (withCum l)
    let rate := fun (cum : Point → Int) => prev.map fun q => frac (cum a - cum q) ((a.t - q.t : Nat) : Int)
    if a.t = b then
      let u := fun (cum : Point → Int) => match rate cum with
        | some r => uncSat (uTime r a.tUnc).ceil.toNat
        | none => (Config.exactUnc a.tUnc).toNat
      { method := mEXACT, valF := a.cumF, valR := a.cumR, uncF := u (·.cumF), uncR := u (·.cumR), flags := a.flags,
        before := some a, after := c }
    else match c with
      | some c =>
        let x := interpolate p a c b (·.cumF)
        let y := interpolate p a c b (·.cumR)
        { method := mINTERPOLATED, valF := x.1, valR := y.1, uncF := x.2, uncR := y.2, flags := bothFlags a.flags c.flags,
          before := some a, after := some c }
      | none =>
        match rate (·.cumF), rate (·.cumR) with
        | some rf, some rr =>
          if p.extrapMax ≠ 0 ∧ b - a.t ≤ p.extrapMax then
            let x := extrapolate p a b rf a.cumF
            let y := extrapolate p a b rr a.cumR
            { method := mEXTRAPOLATED, valF := x.1, valR := y.1, uncF := x.2, uncR := y.2, flags := estimated a.flags,
              before := some a, after := none }
          else { method := mCARRIED, valF := a.cumF, valR := a.cumR, uncF := uncNone, uncR := uncNone, flags := estimated a.flags,
                 before := some a, after := none }
        | _, _ => { method := mCARRIED, valF := a.cumF, valR := a.cumR, uncF := uncNone, uncR := uncNone, flags := estimated a.flags,
                    before := some a, after := none }

/-- The profiles of endpoint i live at t (R63, R64, R72). -/
def Dev.vprof (d : Dev) (i t : Nat) : VProf :=
  VProf.ofBytes (d.ldBytes (d.cfgAt64 t ING_VPROF_BASE_LO + 64 * bitsOf (d.recGet i rASSIGN 4) 23 16) 64)
def Dev.cprof (d : Dev) (i t : Nat) : CProf :=
  CProf.ofBytes (d.ldBytes (d.cfgAt64 t ING_CPROF_BASE_LO + 32 * bitsOf (d.recGet i rASSIGN2 4) 9 0) 32)

/-- The parameters of R78 for endpoint i under the generation live at t. -/
def Dev.bparam (d : Dev) (i t : Nat) : BParam :=
  { interpK := d.cfgAt t EPC_INTERP_K, extrapMax := d.cfgAt t EPC_EXTRAP_MAX * 1000000000,
    dev := devPpm (d.cprof i t).mode, signed := (d.vprof i t).signed }

/-- The value of endpoint i at boundary b. -/
def Dev.valueAt (d : Dev) (i b : Nat) : BVal := boundaryValue (d.pts i) b (d.bparam i b)

/-! ## Entries and trees (R83 to R86) -/

/-- DT_BEFORE and DT_AFTER in whole ms. -/
def dtField (ns : Option Nat) : Nat :=
  match ns with
  | none => 0xFFFFFFFF
  | some n => satNat (n / 1000000) 0xFFFFFFFE

/-- A value held to 64 bits. -/
def s64 (x : Int) : Int := clampInt x (-(2 ^ 63)) (2 ^ 63 - 1)

/-- A boundary entry (R83), with its DELTA against the values at the boundary before. -/
def boundaryEntry (addr : Nat) (v : BVal) (b : Nat) (prevF prevR : Int) (trf quantity state late : Nat) : Bytes :=
  leBytes 8 addr ++ leBytes 8 (enc 64 (s64 v.valF)) ++ leBytes 8 (enc 64 (s64 v.valR)) ++
  leBytes 8 (enc 64 (s64 (v.valF - prevF))) ++ leBytes 8 (enc 64 (s64 (v.valR - prevR))) ++
  leBytes 4 v.uncF ++ leBytes 4 v.uncR ++
  leBytes 4 (dtField (v.before.map fun p => b - p.t)) ++ leBytes 4 (dtField (v.after.map fun p => p.t - b)) ++
  leBytes 1 (v.flags ||| late) ++ leBytes 1 1 ++ leBytes 1 (v.method + 8 * v.method) ++ leBytes 1 trf ++ leBytes 1 quantity ++
  leBytes 1 state ++ zeroBytes 2

/-- Fields of an entry: its kind, its key, its values and its deltas. -/
def entryKind (e : Bytes) : Nat := leAt e 0x39 1
def entryKey (e : Bytes) : Nat := leAt e 0 8
def entryValF (e : Bytes) : Int := sleAt e 8 8
def entryValR (e : Bytes) : Int := sleAt e 0x10 8
def entryDeltaF (e : Bytes) : Int := sleAt e 0x18 8
def entryDeltaR (e : Bytes) : Int := sleAt e 0x20 8

/-- Leaf order: KIND, then key (R84). -/
def entryBefore (a b : Bytes) : Bool :=
  decide (entryKind a < entryKind b) || (entryKind a == entryKind b && decide (entryKey a < entryKey b))

/-- Insert an entry in leaf order. -/
def insertEntry (e : Bytes) : List Bytes → List Bytes
  | [] => [e]
  | x :: t => if entryBefore e x then e :: x :: t else x :: insertEntry e t

/-- Leaves in leaf order. -/
def sortEntries (l : List Bytes) : List Bytes := l.foldl (fun acc e => insertEntry e acc) []

/-- Leaf and node hashes (R86). -/
def leafHash (e : Bytes) : Bytes := sha256 (0#8 :: e)
def nodeHash (a b : Bytes) : Bytes := sha256 (1#8 :: (a ++ b))

/-- One level up: pairs from the lowest index, an unpaired last node carried. -/
def levelUp : List Bytes → List Bytes
  | a :: b :: t => nodeHash a b :: levelUp t
  | l => l

/-- The levels above a level, by fuel. -/
def levels : Nat → List Bytes → List (List Bytes)
  | 0, l => [l]
  | fuel + 1, l => if l.length ≤ 1 then [l] else l :: levels fuel (levelUp l)

/-- The Merkle root of a list of leaves (R86). -/
def merkleRoot (leaves : List Bytes) : Bytes :=
  if leaves.isEmpty then sha256 []
  else ((levels leaves.length (leaves.map leafHash)).getLastD []).headD []

/-- The internal nodes of the tree, level by level from the leaves' parents, a carried node not repeated. -/
def innerNodes (leaves : List Bytes) : List Bytes :=
  let ls := levels leaves.length (leaves.map leafHash)
  (ls.zip ls.tail).flatMap fun p => p.2.take (p.1.length / 2)

/-- The inclusion proof of leaf i: sibling hashes from the leaf upward (R86). -/
def proofUp : List (List Bytes) → Nat → List Bytes
  | [], _ => []
  | l :: t, i =>
    if l.length ≤ 1 then []
    else
      let sib := if i % 2 = 0 then i + 1 else i - 1
      (match l[sib]? with | none => [] | some h => [h]) ++ proofUp t (i / 2)
def inclusionProof (leaves : List Bytes) (i : Nat) : List Bytes :=
  proofUp (levels leaves.length (leaves.map leafHash)) i

/-! ## Sealed epochs -/

/-- The epochs whose entries stand: sealed ones, oldest first, and the one that has passed FINALISE (R81, R88). -/
def Dev.sealedEpochs (d : Dev) : List EpochRec :=
  (d.epc.ashlars.filter (·.typ == 0)).map (·.epoch) ++
  (match d.epc.job with
    | some j => if j.typ = 0 ∧ d.epc.state ≠ .exporting then [j.epoch] else []
    | none => [])

/-- The newest entry of a kind and key for the epoch that ends at b, among ashlars (R89). -/
def entryIn (l : List Ashlar) (b kind key : Nat) : Option Bytes :=
  l.reverse.findSome? fun a =>
    if a.epoch.tEnd = b ∧ a.typ ≠ 2 then a.leaves.find? fun e => entryKind e == kind && entryKey e == key else none

/-- Whether an epoch is still within the amendment horizon (R88). -/
def Dev.amendable (d : Dev) (e : EpochRec) : Bool :=
  match d.newestSealed with
  | none => true
  | some n => decide (n.no ≤ e.no + d.rd EPC_AMEND_HORIZON)

/-- What identifies a point for the comparison of R88. -/
def sameBracket (x y : Option Point × Option Point) : Bool := x.1 == y.1 && x.2 == y.2

/-- EPC takes a reading of endpoint i (R77, R88): kept, and every sealed boundary whose points it changes is marked, or, beyond
the horizon, the reading is refused for amendment and counted once. -/
def Dev.epcTake (d : Dev) (i : Nat) (p : Point) : Dev :=
  let old := d.pts i
  let new := insertPoint p old
  let d := d.putPts i new
  let hit := d.sealedEpochs.filter fun e => !sameBracket (bracket old e.tEnd) (bracket new e.tEnd)
  let far := hit.any fun e => !d.amendable e
  let near := hit.filter d.amendable
  let late := p.flags.testBit 4
  let marks := near.map fun e => ({ idx := i, tEnd := e.tEnd, late := late } : Mark)
  let d := { d with epc := { d.epc with marks := d.epc.marks ++ marks } }
  d.iff far (·.bump EPC_AMEND_REFUSED)

/-- EPC already holds a reading of this SEQ for endpoint i (R61). -/
def Dev.epcHolds (d : Dev) (i seq : Nat) : Bool := (d.pts i).any fun p => p.seq == seq

/-! ## Boundaries (R74, R75) -/

/-- CFG_INVALID of EPC (R94). -/
def epcCfgInvalid (d : Dev) : Bool :=
  pastEnd (d.rd64 EPC_WORK_BASE_LO) (d.settle * d.rd EPC_WORK_CAP * 64) ||
  pastEnd (d.rd64 EPC_SET0_BASE_LO) (224 + 96 * d.rd EPC_SET_CAP) ||
  pastEnd (d.rd64 EPC_SET1_BASE_LO) (224 + 96 * d.rd EPC_SET_CAP)

/-- The time up to which boundaries count as fired. -/
def Dev.boundaryRef (d : Dev) : Nat := match d.epc.lastFired with | none => d.epc.since | some b => max b d.epc.since

/-- The number and the time of the next boundary to fire. -/
def Dev.nextNo (d : Dev) : Nat :=
  if d.boundaryRef < d.origin then 0 else (d.boundaryRef - d.origin) / d.epochLen + 1
def Dev.nextBoundary (d : Dev) : Nat := d.origin + d.nextNo * d.epochLen

/-- Words of one page forget what governed before their boundary. -/
def Dev.dropHeld (d : Dev) (p : Nat) : Dev :=
  { d with reg := { d.reg with epochHeld := d.reg.epochHeld.filter fun h => !(decide (pageBase p ≤ h.addr) && decide (h.addr < pageBase (p + 1))) } }

/-- EPOCH_BOUNDARY (R75, R105): the next boundary fires once the time base has reached it. -/
def Dev.epochBoundary (d : Dev) : Dev :=
  let b := d.nextBoundary
  if !d.runs pEPC || decide (d.ext < b) then d
  else
    let n := d.nextNo
    let len := d.epochLen
    let late : Bool := decide (d.epc.stepFrom < b) && decide (b ≤ d.epc.stepTo)
    let cfg := d.govEpoch EPC_EPOCH_CFG
    let prev := if len ≤ b then b - len else 0
    let e : EpochRec := {
      no := n, tStart := prev, tEnd := b, length := len, len := bitsOf cfg 2 0,
      slot := bitsOf (d.govEpoch EPC_SIGN_SLOT) 7 0, seals := cfg.testBit 16 && d.role != 0, worst := d.epc.worst,
      stepped := d.epc.stepped || late, gen := d.fld CMT_GEN 23 0 }
    let d := d.trfBoundary prev b
    let d := { d with epc := { d.epc with
      lastFired := some b, worst := d.cls.code, stepped := late,
      unsealed := if e.seals then d.epc.unsealed ++ [e] else d.epc.unsealed } }
    let d := (d.dropHeld pEPC).dropHeld pBAL
    let d := (d.wr64 EPC_EPOCH_NO_LO n).iff late (·.bump EPC_STEP_FIRED)
    d.raise pEPC 0

/-- EPC begins at the present time: boundaries up to now count as fired (R378). -/
def Dev.epcBegin (d : Dev) : Dev :=
  { d with epc := { d.epc with since := max d.epc.since d.ext, worst := d.cls.code, stepped := false } }

end Sys2Proof.Machine
end

