-- ==== Sys2Proof/Machine/NvsOps.lean ====
section
/-!
DEFINITION. The journal drive as the engines use it (R19, R335): submission under leave of class 13, completion, timeout and
the journal range.
-/
namespace Sys2Proof.Machine

/-- The client of NVS. -/
abbrev nvsClient : Client := ⟨pNVS, 0⟩

/-- NVS_STAT.STOPPED. -/
def Dev.nvsStopped (d : Dev) : Bool := d.bit NVS_STAT 1

/-- The waiting commands are submitted once leave of class 13 stands; their timeout runs from there. -/
def Dev.nvsPump (d : Dev) : Dev :=
  if d.io.nvsWait.isEmpty || d.nvsStopped || !d.starts pNVS then d
  else
    let d := d.request 13 nvsClient
    match d.pwr.grants.find? (fun g => g.cls == 13 && g.who == nvsClient) with
    | none => d
    | some g =>
      let sent := d.io.nvsWait.map fun c => { c with tick := max c.tick g.since }
      { d with io := { d.io with nvsWait := [], outstanding := d.io.outstanding ++ sent } }

/-- The head of the journal range moves on by n blocks; reaching the tail fills the range and raises event 52 (R335). -/
def jrnAdvance : Nat → Dev → Dev
  | 0, d => d
  | n + 1, d =>
    let len := d.rd NVS_JRN_LEN
    let h := if len = 0 then 0 else (d.io.jrnHead + 1) % len
    let hit : Bool := !d.io.jrnFull && h == d.rd NVS_JRN_TAIL
    let d := { d with io := { d.io with jrnHead := h, jrnFull := d.io.jrnFull || hit } }
    jrnAdvance n (d.iff hit (·.raise pNVS 0))

/-- The journal range takes no more (R335); a range of no blocks is full. -/
def Dev.jrnFull (d : Dev) : Bool := d.io.jrnFull || d.rd NVS_JRN_LEN == 0

/-- NVS is handed a command of a kind that carries n bytes. -/
def Dev.nvsSubmit (d : Dev) (kind : NvsKind) (n : Nat) : Dev :=
  let blocks := (Config.nvsBlocks n).toNat
  let c : NvsCmd := { kind := kind, tick := d.time.ticks, blocks := blocks }
  let d := { d with io := { d.io with nvsWait := d.io.nvsWait ++ [c] } }
  let d := match kind with
    | .journal => jrnAdvance blocks { d with io := { d.io with jrnSent := d.io.jrnSent + 1 } }
    | .archive _ =>
      let len := d.rd NVS_ARC_LEN
      { d with io := { d.io with arcHead := if len = 0 then 0 else (d.io.arcHead + blocks) % len } }
    | _ => d
  d.nvsPump

/-- A journal write of n bytes, and its number: it is durable once that many journal writes have completed. -/
def Dev.journalDrive (d : Dev) (n : Nat) : Dev × Nat :=
  if d.jrnFull then (d, d.io.jrnSent)
  else let d := d.nvsSubmit .journal n; (d, d.io.jrnSent)

/-- Journal write w has completed. -/
def Dev.jrnDurable (d : Dev) (w : Nat) : Bool := decide (w ≤ d.io.jrnDone)

/-- Whether a write of some kind is still under way. -/
def Dev.nvsPending (d : Dev) (k : NvsKind) : Bool := (d.io.nvsWait ++ d.io.outstanding).any fun c => c.kind == k

/-- The device error of R335: the status code, event 53, and NVS stops until SOFT_RST. -/
def Dev.nvsError (d : Dev) (code : Nat) : Dev :=
  (d.wr NVS_STAT (setFld (setBit (d.rd NVS_STAT) 1 true) 31 16 code)).raise pNVS 1

/-- NVS_COMPLETION: the oldest command completes with a status; 0 is success. -/
def Dev.nvsCompletion (d : Dev) (status : Nat) : Dev :=
  let d := d.nvsPump
  match d.io.outstanding with
  | [] => d
  | c :: rest =>
    if d.nvsStopped then d
    else if status ≠ 0 then d.nvsError status
    else
      let d := { d with io := { d.io with
        outstanding := rest, jrnDone := d.io.jrnDone + (if c.kind == NvsKind.journal then 1 else 0) } }
      let d := d.iff (rest.isEmpty) (·.giveBack 13 nvsClient)
      d.nvsPump

/-- NVS_TIMEOUT: the oldest command has had no completion within NVS_TMO. The status code is 0: no status has come
(DESIGN CHOICE). -/
def Dev.nvsTimeout (d : Dev) : Dev :=
  let d := d.nvsPump
  match d.io.outstanding with
  | [] => d
  | c :: _ => if d.nvsStopped || !d.past c.tick (msTicks (d.rd NVS_TMO)) then d else d.nvsError 0

/-- NVS_STAT as a read finds it. -/
def nvsRead (d : Dev) (off : Nat) : Option Nat :=
  if off = 0x184 then some (setBit (d.rd NVS_STAT) 0 (!(d.io.nvsWait ++ d.io.outstanding).isEmpty)) else none

/-- A write of NVS_JRN_TAIL frees the journal range (R335). -/
def nvsWrite (d : Dev) (off v : Nat) : WriteRes :=
  if off = 0x180 then .done (({ d with io := { d.io with jrnFull := false } } : Dev).wr NVS_JRN_TAIL v) else .plain

/-- A soft reset of NVS: commands not completed wait to be submitted again (DEDUCED). -/
def nvsReset (d : Dev) : Dev :=
  ({ d with io := { d.io with nvsWait := d.io.outstanding ++ d.io.nvsWait, outstanding := [] } } : Dev).giveBack 13 nvsClient

end Sys2Proof.Machine
end

