-- ==== Sys2Proof/Machine/QryOps.lean ====
section
/-!
DEFINITION. The quarry (R158 to R176): cells and their charge, the write port, the consumer commands, the aperture, forwards,
leases, fences and the sweeper, and the queue side of the link blocks.
-/
namespace Sys2Proof.Machine

/-- Cells of the quarry (R158). -/
abbrev quarryCells : Nat := 131072

/-- Results of a queue command (R175). -/
abbrev qOK : Nat := 0
abbrev qEMPTY : Nat := 1
abbrev qREFUSED : Nat := 2
abbrev qSTATE : Nat := 3
abbrev qFENCED : Nat := 4
abbrev qRANGE : Nat := 5
abbrev qOVERSIZE : Nat := 6

/-- Queue q, and its replacement. -/
def Dev.queue (d : Dev) (q : Nat) : Queue := Assoc.get {} d.qry.queues q
def Dev.setQueue (d : Dev) (q : Nat) (v : Queue) : Dev :=
  { d with qry := { d.qry with queues := Assoc.put d.qry.queues q v } }

/-- A frame by its number. -/
def Dev.frame? (d : Dev) (i : Nat) : Option Frame := (d.qry.frames.find? fun e => e.1 == i).map (·.2)
def Dev.setFrame (d : Dev) (i : Nat) (f : Frame) : Dev :=
  { d with qry := { d.qry with frames := Assoc.put d.qry.frames i f } }

/-- Cells of a payload (R160). -/
def cellsOf (len : Nat) : Nat := (len + 95) / 64

/-- Cells of a frame. -/
def Frame.cells (f : Frame) : Nat := cellsOf f.data.length

/-- Words of a payload, the descriptor not counted. -/
def lastWord (len : Nat) : Nat := (len + 31) / 32

/-- The descriptor word (R160). -/
def Frame.descriptor (f : Frame) : Bytes :=
  leBytes 2 f.data.length ++ leBytes 1 (b2n f.poisoned + 2 * b2n f.shared) ++ leBytes 1 f.producer ++ leBytes 2 f.queue ++
  zeroBytes 2 ++ leBytes 8 f.t ++ leBytes 4 f.tUnc ++ leBytes 4 f.fseq ++ zeroBytes 8

/-- Word i of a frame; a bad word reads as zeros (R158). -/
def Frame.word (f : Frame) (i : Nat) : Bytes :=
  if f.bad.contains i then zeroBytes 32
  else if i = 0 then f.descriptor
  else padTo 32 (slice f.data (32 * (i - 1)) 32)

/-! ## Configuration and occupancy (R167, R168) -/

def Dev.qCfg (d : Dev) (q : Nat) : Nat := d.rd (QRY_Q_CFG q)
def Dev.qQuota (d : Dev) (q : Nat) : Nat := d.fld (QRY_Q_QUOTA q) 17 0
def Dev.qReserve (d : Dev) (q : Nat) : Nat := d.fld (QRY_Q_RESERVE q) 17 0

/-- The sum of the live reserves. -/
def Dev.rsvSum (d : Dev) : Nat :=
  d.reg.live.foldl (fun s e => match regionOf e.1 with | .queue _ 4 false => s + bitsOf e.2.toNat 17 0 | _ => s) 0

/-- Cells of the open frame of a queue. -/
def Queue.openCells (q : Queue) : Nat := match q.port with | none => 0 | some o => o.cells

/-- The occupancy of queue q: its committed frames not released, and its open frame. -/
def Dev.occ (d : Dev) (q : Nat) : Nat :=
  let v := d.queue q
  v.ids.foldl (fun s i => match d.frame? i with | none => s | some f => s + f.cells) v.openCells

/-- Cells charged to queue q. -/
def Dev.charge (d : Dev) (q : Nat) : Nat :=
  d.qry.frames.foldl (fun s e => if e.2.charged = q then s + e.2.cells else s) (d.queue q).openCells

/-- Cells that are not free: each queue holds the greater of its reserve and its charge; extra more charged to queue q. -/
def Dev.usedCells (d : Dev) (q extra : Nat) : Nat :=
  d.rsvSum + d.qry.queues.foldl (fun s e =>
    s + (d.charge e.1 + (if e.1 = q then extra else 0) - d.qReserve e.1))
    (if d.qry.queues.any (fun e => e.1 == q) then 0 else extra - d.qReserve q)

/-- QRY_POOL_FREE and QRY_POOL_DEBT. -/
def Dev.poolFree (d : Dev) : Nat := quarryCells - d.qry.retired - d.usedCells 0 0
def Dev.poolDebt (d : Dev) : Nat := d.usedCells 0 0 + d.qry.retired - quarryCells

/-- Why queue q may not take one more cell beside extra new ones: 0 quota, 1 pool or debt (R163, R167). -/
def Dev.cellWhy (d : Dev) (q extra : Nat) : Option Nat :=
  let occ := d.occ q + extra
  if !(d.qCfg q).testBit 0 then some 0
  else if occ < d.qReserve q then none
  else if d.qQuota q ≤ occ then some 0
  else if quarryCells ≤ d.usedCells q extra + d.qry.retired then some 1
  else none

/-- Why a frame of n cells may not enter queue q. -/
def Dev.cellsWhy (d : Dev) (q n : Nat) : Option Nat := (List.range n).findSome? (d.cellWhy q)

/-- Count a refusal (R163). -/
def Dev.refuse (d : Dev) (q why : Nat) : Dev := (d.bump QRY_REFUSE_COUNT).wr QRY_REFUSE_LAST (q + 65536 * why)

/-! ## Frames in and out -/

/-- A new frame at the end of queue q. -/
def Dev.addFrame (d : Dev) (q producer : Nat) (data : Bytes) (t tUnc : Nat) : Dev :=
  let v := d.queue q
  let f : Frame := { data := data, producer := producer, queue := q, t := t, tUnc := tUnc, fseq := v.fseq, holders := [q], charged := q }
  let i := d.qry.nextId
  let d := d.setFrame i f
  let d := { d with qry := { d.qry with nextId := i + 1 } }
  d.setQueue q { v with ids := v.ids ++ [i], fseq := (v.fseq + 1) % 2 ^ 32 }

/-- The cells of a freed frame that gave an uncorrectable word are tested again; each that fails, a free value, is retired
when RETIRE_EN allows and the shared capacity stays non-negative (R159). -/
def Dev.retest (d : Dev) (f : Frame) : Dev :=
  d.each ((f.bad.map (· / 2)).eraseDups) fun d _ =>
    let fails := d.freeVal.testBit 0
    let d := d.tookFree
    if !fails || !d.bit QRY_CFG 0 then d
    else if quarryCells < d.rsvSum + d.qry.retired + 1 then d.bump QRY_RETIRE_SKIP
    else { d with qry := { d.qry with retired := d.qry.retired + 1 } }

/-- Queue q stops holding frame i (R166, R167); the cells freed beside the device. -/
def Dev.dropHolder (d : Dev) (q i : Nat) : Dev × Nat :=
  match d.frame? i with
  | none => (d, 0)
  | some f =>
    let hs := f.holders.erase q
    if hs.isEmpty then
      (({ d with qry := { d.qry with frames := Assoc.del d.qry.frames i } }).retest f, f.cells)
    else
      let charged := if f.charged = q ∧ ¬hs.contains q then hs.foldl min (hs.headD 0) else f.charged
      (d.setFrame i { f with holders := hs, charged := charged }, 0)

/-- Free the first n frames of queue q; the cells that went back beside the device. -/
def Dev.dropFront (d : Dev) (q n : Nat) : Dev × Nat :=
  let v := d.queue q
  let d := d.setQueue q { v with ids := v.ids.drop n, mark := v.mark - n, rd := v.rd - n }
  (v.ids.take n).foldl (fun (p : Dev × Nat) i => let (d, m) := p.1.dropHolder q i; (d, p.2 + m)) (d, 0)

/-- A lane is fenced (R171). -/
def Dev.laneFenced (d : Dev) (lane : Nat) : Bool := d.qry.fenced.contains lane

/-- A link block or an engine writes a whole frame into queue q: refused and counted, or committed (R163, R171, R174, R44);
true beside the device when it went in. -/
def Dev.pushFrame (d : Dev) (q producer : Nat) (data : Bytes) (t tUnc : Nat) : Dev × Bool :=
  if !d.en pQRY || d.laneFenced (q / 2) || (d.qry.drain.any fun e => e.1 == q) then (d.refuse q 0, false)
  else match d.cellsWhy q (cellsOf data.length) with
    | some why => (d.refuse q why, false)
    | none => (d.addFrame q producer data t tUnc, true)

/-- The oldest frame of queue q, as a link block or an engine reads it through the wide port. -/
def Dev.front? (d : Dev) (q : Nat) : Option Frame :=
  match (d.queue q).ids with | [] => none | i :: _ => d.frame? i

/-- The transmit frame a link may start: none while the lane is fenced or QRY is disabled (R171, R174). -/
def Dev.txFront? (d : Dev) (lane : Nat) : Option Frame :=
  if d.laneFenced lane || !d.en pQRY then none else d.front? (2 * lane)

/-- The consumer has done with the oldest frame: ADVANCE, MARK and RELEASE. -/
def Dev.popFront (d : Dev) (q : Nat) : Dev := (d.dropFront q 1).1

/-! ## The write port (R162, R163) -/

/-- One write to QRY_Q_WR. -/
def Dev.portWrite (d : Dev) (q v : Nat) : Dev :=
  let qu := d.queue q
  let o : OpenFrame := qu.port.getD {}
  let d := d.setQueue q { qu with port := some o, res := qOK }
  if o.tooLong || o.refused then d
  else if o.data.length = 2048 then
    (d.setQueue q { d.queue q with port := some { o with tooLong := true } }).bump QRY_OVERSIZE_COUNT
  else
    let need := cellsOf (o.data.length + 4)
    let put := fun (d : Dev) (cells : Nat) =>
      d.setQueue q { d.queue q with port := some { o with data := o.data ++ leBytes 4 v, cells := cells } }
    if o.cells < need then
      match d.cellWhy q 0 with
      | some why => (d.setQueue q { d.queue q with port := some { o with refused := true } }).refuse q why
      | none => put d need
    else put d o.cells

/-- COMMIT with TAG by a producer code: the result beside the device (R162). -/
def Dev.portCommit (d : Dev) (q tag code : Nat) : Dev × Nat :=
  let qu := d.queue q
  match qu.port with
  | none => (d, qSTATE)
  | some o =>
    if o.refused then (d.setQueue q { qu with port := none }, qREFUSED)
    else if o.tooLong then (d.setQueue q { qu with port := none }, qOVERSIZE)
    else
      let words := lastWord o.data.length
      let k := (o.data.length - 32 * (words - 1)) / 4
      if 4 * (k - 1) < tag + 1 ∧ tag + 1 ≤ 4 * k then
        ((d.setQueue q { qu with port := none }).addFrame q code (o.data.take (32 * (words - 1) + tag + 1)) d.ext 0, qOK)
      else (d, qRANGE)

/-- ABANDON. -/
def Dev.portAbandon (d : Dev) (q : Nat) : Dev × Nat :=
  let qu := d.queue q
  match qu.port with
  | none => (d, qSTATE)
  | some _ => (d.setQueue q { qu with port := none }, qOK)

/-! ## The consumer side (R164 to R166) -/

/-- The number of the frame at RD. -/
def Queue.cur (q : Queue) : Option Nat := q.ids[q.rd]?

/-- FORWARD of the frame at RD of queue q to another queue (R166). -/
def Dev.forward (d : Dev) (q dest : Nat) : Dev × Nat :=
  match (d.queue q).cur with
  | none => (d, qRANGE)
  | some i =>
    match d.frame? i with
    | none => (d, qRANGE)
    | some f =>
      if dest % 2 = 1 ∨ f.poisoned then (d, qRANGE)
      else if 4 ≤ f.holders.length then (d, qSTATE)
      else if d.qQuota dest < d.occ dest + f.cells ∨ ¬(d.qCfg dest).testBit 0 then (d, qREFUSED)
      else
        let d := d.setFrame i { f with holders := f.holders ++ [dest], shared := true }
        let v := d.queue dest
        (d.setQueue dest { v with ids := v.ids ++ [i] }, qOK)

/-- A consumer command (R164): its result beside the device. -/
def Dev.consume (d : Dev) (q cmd arg : Nat) : Dev × Nat :=
  let v := d.queue q
  if !d.en pQRY then (d, qEMPTY)
  else match cmd with
    | 3 => if v.ids.length ≤ v.rd then (d, qEMPTY)
           else (d.setQueue q { v with rd := v.rd + 1, ap := 0, lat := none }, qOK)
    | 4 => (d.setQueue q { v with mark := v.rd }, qOK)
    | 5 => (d.setQueue q { v with rd := v.mark, ap := 0, lat := none }, qOK)
    | 6 => if v.mark = 0 then (d, qEMPTY) else ((d.dropFront q v.mark).1, qOK)
    | 7 =>
      match v.cur.bind d.frame? with
      | none => (d, qRANGE)
      | some f =>
        let i := arg % 128
        if lastWord f.data.length < i then (d, qRANGE) else (d.setQueue q { v with ap := i, lat := none }, qOK)
    | _ => d.forward q (arg % 1024)

/-- What SECDED finds when the quarry reads a word (R158). -/
abbrev EccOut := Nat
abbrev eccClean : EccOut := 0
abbrev eccCorrected : EccOut := 1
abbrev eccBad : EccOut := 2

/-- The quarry reads word w of frame i for queue q (R158). -/
def Dev.readWord (d : Dev) (q i w : Nat) (ecc : EccOut) : Dev × Bytes :=
  match d.frame? i with
  | none => (d, zeroBytes 32)
  | some f =>
    if ecc = eccBad ∨ f.bad.contains w then
      let d := d.setFrame i { f with poisoned := true, bad := if f.bad.contains w then f.bad else f.bad ++ [w] }
      let d := if f.poisoned then d else ((d.bump QRY_UNCORR_COUNT).wr QRY_UNCORR_LAST q).raise pQRY 0
      (d, zeroBytes 32)
    else
      let d := if ecc = eccCorrected then
          (d.setQueue q { d.queue q with corr := satNat ((d.queue q).corr + 1) 255 }).bump QRY_CORR_TOTAL else d
      (d, f.word w)

/-- A read of aperture word j (R165): offset 0x20 latches the whole 256-bit word. -/
def Dev.apRead (d : Dev) (q j : Nat) (ecc : EccOut) : Dev × Nat :=
  let v := d.queue q
  match v.cur with
  | none => (d.setQueue q { v with res := qEMPTY }, 0)
  | some i =>
    match v.lat with
    | some w => if j = 0 then
        let (d, w) := d.readWord q i v.ap ecc
        (d.setQueue q { d.queue q with lat := some w }, leAt w 0 4)
      else (d, leAt w (4 * j) 4)
    | none =>
      let (d, w) := d.readWord q i v.ap ecc
      (d.iff (j == 0) fun d => d.setQueue q { d.queue q with lat := some w }, leAt w (4 * j) 4)

/-! ## Leases, fences and the sweeper (R170 to R172) -/

/-- The owner code of a requester (R175). -/
def ownerCode (r : Requester) : Nat :=
  match r.role with
  | .sec => 5
  | .sys => 1 + r.id.val % 4
  | .app => 1 + r.id.val % 4
  | .ext => 6
  | .dbg => 7

/-- The lane of queue q has a lease. -/
def Dev.leased (d : Dev) (lane : Nat) : Bool := (d.qCfg (2 * lane)).testBit 1

/-- The owner of a lane. -/
def Dev.laneOwner (d : Dev) (lane : Nat) : Option LaneOwner := (d.qry.owners.find? fun e => e.1 == lane).map (·.2)

/-- An access that takes or renews the lease of a lane (R170): a cause when another requester owns it. -/
def Dev.touchLane (d : Dev) (lane code id : Nat) : Dev × Option Nat :=
  if !d.leased lane then (d, none)
  else
    let mine : LaneOwner := { code := code, id := id, renewed := d.time.ticks }
    match d.laneOwner lane with
    | none => ({ d with qry := { d.qry with owners := Assoc.put d.qry.owners lane mine } }, none)
    | some o =>
      if o.code = code ∧ o.id = id then ({ d with qry := { d.qry with owners := Assoc.put d.qry.owners lane mine } }, none)
      else (d, some ROLE_DENIED)

/-- A number into a rising list. -/
def insertNat (n : Nat) : List Nat → List Nat
  | [] => [n]
  | m :: t => if n ≤ m then n :: m :: t else m :: insertNat n t

/-- A lane is fenced, and queued for its sweep (R171, R172); an expiry is counted. -/
def Dev.fenceLane (d : Dev) (lane : Nat) (expiry : Bool) : Dev :=
  if d.laneFenced lane then d
  else
    let d := { d with qry := { d.qry with fenced := insertNat lane d.qry.fenced } }
    let d := d.iff expiry (·.bump QRY_FENCE_COUNT)
    match d.qry.sweeping with
    | none => { d with qry := { d.qry with sweeping := some lane } }
    | some _ => { d with qry := { d.qry with waiting := insertNat lane d.qry.waiting } }

/-- A lease has run out: not renewed for LEASE_T x 10 ms; an engine's lease is renewed while its block is enabled. -/
def Dev.leaseOut (d : Dev) (lane : Nat) : Bool :=
  d.leased lane && !d.laneFenced lane &&
  match d.laneOwner lane with
  | none => false
  | some o =>
    let engine := if o.code = 8 then some pING else if o.code = 9 then some pDST else if o.code = 10 then some pTRK0 else none
    !(match engine with | none => false | some p => d.en p) &&
      d.past o.renewed (msTicks (10 * bitsOf (d.qCfg (2 * lane)) 11 4))

/-- LEASE_EXPIRE (R170, R171). -/
def Dev.leaseExpire (d : Dev) (lane : Nat) : Dev := d.iff (d.leaseOut lane) (·.fenceLane lane true)

/-- The lanes whose lease an engine holds: its disabling or soft reset counts as an expiry (R170). -/
def Dev.engineLanes (d : Dev) (code : Nat) : List Nat := (d.qry.owners.filter fun e => e.2.code == code).map (·.1)

/-- UNFENCE (R171): refused while the sweep of the lane runs or waits. -/
def Dev.unfenceLane (d : Dev) (lane : Nat) : WriteRes :=
  if d.qry.sweeping = some lane ∨ d.qry.waiting.contains lane then .refuse ENGINE_BUSY
  else if !d.laneFenced lane then .done d
  else
    let clear := fun (d : Dev) (q : Nat) => d.setQueue q { d.queue q with ids := [], mark := 0, rd := 0, ap := 0, lat := none, port := none }
    let d := clear (clear d (2 * lane)) (2 * lane + 1)
    .done { d with qry := { d.qry with fenced := d.qry.fenced.erase lane, owners := Assoc.del d.qry.owners lane } }

/-- The sweeper has accounted for the last cell of its lane (R172). -/
def Dev.sweepDone (d : Dev) : Dev :=
  match d.qry.sweeping with
  | none => d
  | some lane =>
    let tx := 2 * lane
    let opened := (d.queue tx).openCells
    let d := d.setQueue tx { d.queue tx with port := none }
    let (d, n) := d.dropFront tx (d.queue tx).ids.length
    let (d, m) := d.dropFront (tx + 1) (d.queue (tx + 1)).ids.length
    let freed := opened + n + m
    let d := (d.wr QRY_RECLAIM_LAST (lane + 512 * satNat freed 0x3FFFF)).bump QRY_RECLAIM_COUNT freed
    let d := { d with qry := { d.qry with sweeping := d.qry.waiting.head?, waiting := d.qry.waiting.tail } }
    d.raise pQRY 1

/-! ## Register access (R161, R171, R175, R176) -/

/-- The result a queue shows. -/
def Dev.qResult (p : Dev × Nat) (q : Nat) : Dev := p.1.setQueue q { p.1.queue q with res := p.2 }

/-- A write of an L word of the per-queue array. -/
def qWrite (d : Dev) (r : Requester) (q off v : Nat) : WriteRes :=
  let cmd := v % 16
  let producer : Bool := off == 0x0C || cmd == 1 || cmd == 2
  let consumer : Bool := off == 0x10 && 3 ≤ cmd && cmd ≤ 8
  if off ≠ 0x0C ∧ off ≠ 0x10 then .plain
  else if (producer ∧ q % 2 = 1) ∨ (consumer ∧ q % 2 = 0) then .refuse ROLE_DENIED
  else if d.laneFenced (q / 2) then .done (d.setQueue q { d.queue q with res := qFENCED })
  else
    match d.touchLane (q / 2) (ownerCode r) (if r.role = .ext then r.id.val else 0) with
    | (_, some c) => .refuse c
    | (d, none) =>
      if off = 0x0C then .done (d.portWrite q v)
      else
        let arg := bitsOf v 25 16
        if cmd = 1 then .done (Dev.qResult (d.portCommit q (arg % 32) (ownerCode r)) q)
        else if cmd = 2 then .done (Dev.qResult (d.portAbandon q) q)
        else if consumer then .done (Dev.qResult (d.consume q cmd arg) q)
        else if cmd = 9 then .done (d.setQueue q { d.queue q with res := qOK })
        else if cmd = 10 then .done (d.setQueue q { d.queue q with res := qOK, corr := 0 })
        else .done (d.setQueue q { d.queue q with res := qRANGE })

/-- QRY_Q_BYTES now. -/
def Dev.qBytes (d : Dev) (q : Nat) : Nat :=
  let v := d.queue q
  let n := v.ids.foldl (fun s i => match d.frame? i with | none => s | some f => s + f.data.length) 0
  satNat n 0x7FFFFF + 0x800000 * satNat (v.ids.length - v.rd) 511

/-- QRY_Q_STAT. -/
def Dev.qStat (d : Dev) (q : Nat) : Nat :=
  let v := d.queue q
  let cur := v.cur.bind d.frame?
  let lane := q / 2
  v.corr + 0x100 * b2n v.port.isSome + 0x200 * b2n (d.laneFenced lane) + 0x400 * b2n (d.laneOwner lane).isSome
  + 0x800 * (match cur with | none => 0 | some f => b2n f.poisoned)
  + 0x1000 * (match cur with | none => 0 | some f => f.data.length)
  + 0x1000000 * (match d.laneOwner lane with | none => 0 | some o => o.code) + 0x10000000 * v.res

/-- A read of a computed word of the per-queue array, with what SECDED finds; none: the stored word. -/
def qRead (d : Dev) (q off : Nat) (ecc : EccOut) : Option (Dev × Nat) :=
  let v := d.queue q
  if off = 0x0C then some (d, 0)
  else if off = 0x10 then some (d, 0x10000 * v.ap)
  else if off = 0x14 then some (d, d.qStat q)
  else if off = 0x18 then
    some (d.setQueue q { v with bytesLatch := some (d.qBytes q) },
      satNat (d.occ q) 0x3FFFF + 0x40000 * satNat v.ids.length 16383)
  else if off = 0x1C then
    match v.bytesLatch with
    | none => some (d, d.qBytes q)
    | some n => some (d.setQueue q { v with bytesLatch := none }, n)
  else if 0x20 ≤ off ∧ off < 0x40 then some (d.apRead q ((off - 0x20) / 4) ecc)
  else none

/-- A read of the aperture of an even queue is a violation (R161), fenced or not (R171). -/
def qReadCause (q off : Nat) : Option Nat := if 0x20 ≤ off ∧ q % 2 = 0 then some ROLE_DENIED else none

/-- An aperture read of a fenced lane by R171 has the result FENCED (DEDUCED: it reads as at end). -/
def Dev.qFencedRead (d : Dev) (q off : Nat) : Bool := 0x20 ≤ off && d.laneFenced (q / 2)

/-- The computed registers of the QRY page. -/
def qryRead (d : Dev) (off : Nat) : Option Nat :=
  match off with
  | 0x104 => some d.poolFree
  | 0x108 => some (quarryCells - d.rsvSum - d.qry.retired)
  | 0x10C => some d.poolDebt
  | 0x110 => some d.rsvSum
  | 0x114 => some d.qry.retired
  | 0x118 => some 0
  | 0x11C => some (match d.qry.sweeping with | none => 0 | some l => l + 2 ^ 31)
  | _ =>
    if 0x140 ≤ off ∧ off < 0x180 then
      let n := (off - 0x140) / 4
      some ((d.qry.fenced.filter fun l => l / 32 == n).foldl (fun s l => s + 2 ^ (l % 32)) 0)
    else none

/-- What QRY makes of a write to its page. -/
def qryWrite (d : Dev) (r : Requester) (off v : Nat) : WriteRes :=
  if off = 0x118 then
    if r.role = .app ∨ r.role = .ext then .refuse ROLE_DENIED
    else if v.testBit 16 = v.testBit 17 then .done d
    else if v.testBit 16 then .done (d.fenceLane (v % 512) false)
    else d.unfenceLane (v % 512)
  else .plain

/-- The block bits of QRY PG_STAT (R176). -/
def qryPgStat (d : Dev) : Nat :=
  4 * b2n d.qry.sweeping.isSome + 8 * b2n (decide (0 < d.poolDebt)) + 16 * b2n (d.poolFree == 0)

/-- What a fire does in QRY (R168). -/
def qryFired (d : Dev) (changed : List Nat) : Dev :=
  d.each (List.range 512) fun d lane =>
    if !changed.contains (QRY_Q_CFG (2 * lane)) then d
    else if !d.leased lane then { d with qry := { d.qry with owners := Assoc.del d.qry.owners lane } }
    else d.leaseExpire lane

/-- Every cell freed, every pointer at the start, no lease and no fence (R174). -/
def qryReset (d : Dev) : Dev := { d with qry := {} }

end Sys2Proof.Machine
end

