-- ==== Sys2Proof/Machine/IngOps.lean ====
section
/-!
DEFINITION. The ingestion pipeline (R59 to R67): sequence check, rules, conversion, apply, quality flags and exceptions, and
the field journal that takes what a field module forwards (R20).
-/
namespace Sys2Proof.Machine

/-! ## Sequence check (R61) -/

/-- The classes of R61. -/
inductive SeqClass where
  | baseline | new | inverted | duplicate | replay | backfill
  deriving DecidableEq, Repr

/-- seq_check of R61. -/
def seqCheck (r : Reading) (newest older : Compact) (reseq : Bool) : SeqClass :=
  if newest.t = 0 ∨ reseq then .baseline
  else
    let dlt := sext 32 (r.seq + 2 ^ 32 - newest.seq)
    if dlt = 0 ∨ (older.t ≠ 0 ∧ r.seq = older.seq) then
      if r.raw = (if dlt = 0 then newest.raw else older.raw) then .duplicate else .replay
    else if 0 < dlt then if newest.t < r.t then .new else .inverted
    else if newest.t < r.t then if r.status.testBit 2 then .baseline else .replay
    else .backfill

/-- The reading is taken as the next applied one against NEWEST. -/
def SeqClass.forward (c : SeqClass) : Bool := c == .new || c == .inverted

/-! ## Rules (R62) -/

/-- A raw difference under the profile's modulus (R62). -/
def VProf.roll (v : VProf) (x : Int) : Int :=
  let m : Int := v.rollover
  if m = 0 then x
  else if v.signed then
    let y := x % m
    if m < 2 * y then y - m else y
  else if x < 0 ∧ m < -2 * x then x + m
  else x

/-- The intervals that rules 5, 6 and 8 look at, as Δraw and Δt: against NEWEST, and for a BACKFILL against the reading before
it and the reading after it (R62). -/
def intervals (v : VProf) (c : SeqClass) (r : Reading) (newest older : Compact) : List (Int × Int) :=
  let fwd := fun (a : Compact) => (v.roll (r.raw - a.raw), (r.t : Int) - a.t)
  let bwd := fun (a : Compact) => (v.roll (a.raw - r.raw), (a.t : Int) - r.t)
  match c with
  | .new => [fwd newest]
  | .inverted => [fwd newest]
  | .backfill =>
    if older.t = 0 then [bwd newest]
    else if older.t < r.t then [fwd older, bwd newest]
    else [if r.t < older.t then bwd older else bwd newest]
  | _ => []

/-- Rule 6 on one interval. -/
def rateTrips (v : VProf) (x : Int × Int) : Bool :=
  if x.2 ≤ 0 then x.1 != 0
  else decide ((v.rateMax : Int) * x.2 < x.1.natAbs * 3600 * 1000000000)

/-- A tamper indication at x lies within the window before t (R62, rule 3). -/
def tamperNear (window t x : Nat) : Bool := x != 0 && decide (x ≤ t) && decide (t - x ≤ window * 1000000000)

/-- Rule 1 by the reading's clock class (R62). -/
def Dev.clockTrips (d : Dev) (r : Reading) : Bool :=
  decide (2 ≤ r.cls) || (r.cls == 1 && decide (d.cfgAt r.t ING_CLK_HOLD_LIMIT * 1000 < r.tUnc))

/-- What stage 4 is told beside the reading: the profile, the class, the intervals, STUCK_RUN with this reading counted, and
LAST_TAMPER before it. -/
structure RuleIn where
  v : VProf
  cls : SeqClass
  ivs : List (Int × Int)
  stuck : Nat
  tamper : Nat

/-- Rule k trips, its action not OFF (R62). -/
def Dev.ruleTrips (d : Dev) (r : Reading) (x : RuleIn) (k : Nat) : Bool :=
  match k with
  | 1 => d.clockTrips r
  | 2 => r.status.testBit 0
  | 3 =>
    let w := d.cfgAt r.t ING_TAMPER_WINDOW
    r.status.testBit 1 || tamperNear w r.t x.tamper ||
      (match d.ing.tamperExt with | none => false | some e => tamperNear w r.t e)
  | 4 => x.v.usesAux && !(decide (x.v.pMin ≤ r.aux1) && decide (r.aux1 ≤ x.v.pMax) &&
      decide (x.v.tMin ≤ r.aux2) && decide (r.aux2 ≤ x.v.tMax))
  | 5 => !x.v.signed && x.ivs.any fun e => decide (e.1 < -(x.v.decreaseTol : Int))
  | 6 => x.ivs.any (rateTrips x.v)
  | 7 => x.cls.forward && x.v.stuckN != 0 && decide (x.v.stuckN ≤ x.stuck)
  | 8 => x.v.gapMax != 0 && x.ivs.any fun e => decide ((x.v.gapMax : Int) * 1000000000 < e.2)
  | _ => false

/-- The rules 1 to 8 that trip, ascending; an EDITED record skips 2 to 8 (R60); rule 1 is forced by NEW_INVERTED (R61). -/
def Dev.trips (d : Dev) (r : Reading) (x : RuleIn) (edited : Bool) : List Nat :=
  [1, 2, 3, 4, 5, 6, 7, 8].filter fun k =>
    (k == 1 && x.cls == .inverted) || (!(edited && k != 1) && x.v.act k != 0 && d.ruleTrips r x k)

/-- A tripped rule holds the reading. -/
def holds (v : VProf) (trips : List Nat) : Bool := trips.any fun k => v.act k == 2

/-! ## Exceptions (R67) -/

abbrev xUNKNOWN : Nat := 1
abbrev xSUSPENDED : Nat := 2
abbrev xREPLAY : Nat := 3
abbrev xHOLD : Nat := 4
abbrev xCONV : Nat := 5
abbrev xSEQ : Nat := 6
abbrev xDUP : Nat := 7

/-- LOG2 of the exception ring, and its entries waiting. -/
def Dev.excLog (d : Dev) : Nat := d.fld ING_EXC_CFG 4 0
def Dev.excCount (d : Dev) : Nat := d.waiting ING_EXC_PROD ING_EXC_CONS

/-- The exception ring takes no record. -/
def Dev.excFull (d : Dev) : Bool := d.excLog == 0 || decide (2 ^ d.excLog ≤ d.excCount)

/-- Exceptions stall intake: records wait, or an enabled ring is full. -/
def Dev.excBlocked (d : Dev) : Bool := !d.ing.exc.isEmpty || (d.excLog != 0 && d.excFull)

/-- Waiting exceptions go to the ring while it has room. -/
def excDrain : List Bytes → Dev → Dev
  | [], d => { d with ing := { d.ing with exc := [] } }
  | x :: rest, d =>
    if d.excFull then { d with ing := { d.ing with exc := x :: rest } }
    else
      let prod := d.rd ING_EXC_PROD
      let d := d.stBytes (d.rd64 ING_EXC_BASE_LO + 64 * (prod % 2 ^ d.excLog)) x
      excDrain rest (d.wr ING_EXC_PROD (prod + 1))

/-- Drain, and keep the stall's account in µs. -/
def Dev.excFlush (d : Dev) : Dev :=
  let d := excDrain d.ing.exc d
  match d.ing.stallTick, d.excBlocked with
  | none, true => { d with ing := { d.ing with stallTick := some d.time.ticks } }
  | some t, false =>
    ({ d with ing := { d.ing with stallTick := none } } : Dev).bump ING_EXC_STALL_US (usBetween t d.time.ticks)
  | _, _ => d

/-- Write an exception record of a reading. -/
def Dev.except (d : Dev) (r : Reading) (cause rule idx : Nat) : Dev :=
  let x := r.toBytes ++ leBytes 1 cause ++ leBytes 1 rule ++ zeroBytes 2 ++ leBytes 4 idx ++ leBytes 8 d.ext
  ({ d with ing := { d.ing with exc := d.ing.exc ++ [x] } } : Dev).excFlush

/-! ## The field journal (R20) and forwarding -/

/-- Records of the field journal: 32,768 blocks of 85. -/
abbrev journalRecords : Nat := 2785280

/-- Journalled records not yet acknowledged (ING_JOURNAL_PEND). -/
def IngSt.journalPend (s : IngSt) : Nat :=
  (s.unsent.filter (·.journalled)).length + s.outstanding.foldl (fun n b => n + b.journalled) 0

/-- A field module forwards a record: it is journalled while the journal has room, and waits for a batch; one that is not
journalled is counted, and while islanded it is never sent (R20). Event 52 marks the journal becoming full. -/
def Dev.fieldForward (d : Dev) (rec' : Bytes) : Dev :=
  let n := d.ing.journalPend
  let room := decide (n < journalRecords)
  let w : Waiting := { body := rec', journalled := room, tick := d.time.ticks }
  let d := d.iff (room || !d.ing.islanded) fun d => { d with ing := { d.ing with unsent := d.ing.unsent ++ [w] } }
  let d := d.iff (n + 1 == journalRecords) (·.raise pNVS 0)
  d.iff (!room) (·.bump ING_JOURNAL_SKIP)

/-- Stage 8: what a ring's record is forwarded to by the role (R60). -/
def Dev.ingForward (d : Dev) (ring : Nat) (held : Bool) (r : Reading) : Dev :=
  if d.role = 0 then d.fieldForward r.toBytes
  else if ring = 7 ∨ held ∨ d.pairSlave then d
  else
    let (d, _) := d.journalDrive 48
    { d with ing := { d.ing with journalled := d.ing.journalled + 1 } }

/-! ## Apply (R58, R61, R64, R66) -/

/-- LATE (R66): stamped earlier than the end boundary of the newest sealed epoch. -/
def Dev.isLate (d : Dev) (t : Nat) : Bool :=
  d.role != 0 && (match d.newestSealed with | none => false | some e => decide (t < e.tEnd))

/-- The clock class under which endpoint i took a compact reading. -/
def Dev.classOf (d : Dev) (i : Nat) (c : Compact) : Nat :=
  ((lastWhere (fun p => p.applied && p.t == c.t && p.seq == c.seq) (d.pts i)).map (·.cls)).getD 0

/-- The chain of readings over OLDER to NEWEST with their forward cumulative values. -/
def chainOf (l : List Point) (o n : Nat) : List (Stamp × Int) :=
  (l.filter fun p => !p.inverted && decide (o ≤ p.t) && decide (p.t ≤ n)).map fun p =>
    (⟨p.t, p.cls⟩, (withCum l p).cumF)

/-- One more reading applied, in the count of the present second (ING_RATE). -/
def Dev.countRate (d : Dev) : Dev :=
  let sec := d.time.ticks / 250000000
  if d.ing.secTick = sec then { d with ing := { d.ing with secCount := d.ing.secCount + 1 } }
  else
    let last := if d.ing.secTick + 1 = sec then d.ing.secCount else 0
    { d with ing := { d.ing with secTick := sec, secCount := 1, rate := last } }

/-- ING_RATE as it stands now: the last full second. -/
def Dev.rateNow (d : Dev) : Nat :=
  let sec := d.time.ticks / 250000000
  if d.ing.secTick = sec then d.ing.rate else if d.ing.secTick + 1 = sec then d.ing.secCount else 0

/-- The point that EPC keeps for a reading (R77). -/
def Dev.pointOf (d : Dev) (r : Reading) (c : SeqClass) (fwd rev : Int) : Point :=
  { t := r.t, tUnc := r.tUnc, flags := r.quality, raw := r.raw, seq := r.seq, cls := r.cls,
    applied := c != .backfill, inverted := c == .inverted,
    usable := c != .inverted && r.cls != 3 && decide (r.tUnc ≤ d.cfgAt r.t EPC_TUNC_MAX * 1000),
    cumF := fwd, cumR := rev }

/-- A BACKFILL goes to EPC, and to TRF (R61, R111). -/
def Dev.applyBackfill (d : Dev) (i : Nat) (r : Reading) (newest older : Compact) : Dev :=
  let old := chainOf (d.pts i) older.t newest.t
  let d := d.bump ING_BACKFILL_COUNT
  let d := d.epcTake i (d.pointOf r .backfill 0 0)
  d.trfBackfill i r.t (older.t != 0 && decide (older.t < r.t)) old (chainOf (d.pts i) older.t newest.t)

/-- Stage 7 for a reading that becomes NEWEST: base takes no delta and clears OLDER (R58, R61, R62, R64). -/
def Dev.applyReading (d : Dev) (i : Nat) (r : Reading) (c : SeqClass) (newest : Compact) (base edited signed : Bool)
    (db : Int) (trips : List Nat) (stuck : Nat) : Dev :=
  let forward : Bool := decide (0 ≤ db) || !signed
  let fwd := d.recGetS i rCUM_FWD 8 + (if forward then db else 0)
  let rev := d.recGetS i rCUM_REV 8 + (if forward then 0 else -db)
  let a : Stamp := ⟨newest.t, d.classOf i newest⟩
  let d := (d.recPut i rCUM_FWD 8 (enc 64 fwd)).recPut i rCUM_REV 8 (enc 64 rev)
  let d := d.iff edited fun d => d.recPut i rCUM_EDIT 8 (d.recGet i rCUM_EDIT 8 + db.natAbs)
  let d := d.recPut i rCUM_METER 8 (enc 64 r.raw)
  let d := d.recPutBytes i rOLDER (if base then zeroBytes 32 else d.recBytes i rNEWEST 32)
  let d := d.recPutBytes i rNEWEST r.compact
  let d := d.recPut i rTRIP_MASK 2 (trips.foldl (fun m k => m + 2 ^ k) 0)
  let d := d.recPut i rSTUCK_RUN 2 (if base then 0 else stuck)
  let d := (d.setReseq i false).bump ING_ACCEPT_COUNT
  let d := { d with ing := { d.ing with exps := Assoc.put d.ing.exps i (enc 8 r.exp) } }
  let d := d.countRate
  let d := d.wr64 EPC_LIVE_SEQ_LO (d.rd64 EPC_LIVE_SEQ_LO + 1)
  let d := d.epcTake i (d.pointOf r c fwd rev)
  d.trfApply i a ⟨r.t, r.cls⟩ base (if forward then db else 0)

/-! ## One record (R60) -/

/-- A REPLAY (R61): flag, count, event 27, exceptions. -/
def Dev.ingReplay (d : Dev) (i : Nat) (r : Reading) : Dev :=
  let run := satNat (d.recGet i rREPLAY_RUN 1 + 1) 255
  let r := r.withFlags qREPLAY
  let d := ((d.recPut i rREPLAY_RUN 1 run).bump ING_REPLAY_COUNT).raise pING 1
  let d := d.except r xREPLAY r.rule i
  d.iff (run == 4) (·.except r xSEQ r.rule i)

/-- A DUPLICATE (R61). -/
def Dev.ingDuplicate (d : Dev) (i : Nat) (r : Reading) : Dev :=
  let d := d.bump ING_DUP_COUNT
  d.iff ((d.cfgAt r.t ING_CFG).testBit 1) (·.except (r.withFlags 0) xDUP r.rule i)

/-- Count, flag and signal each trip (R62). -/
def Dev.noteTrips (d : Dev) (trips : List Nat) : Dev :=
  d.each trips fun d k => (d.bump (ING_TRIP_COUNT (k - 1))).raise pING 0

/-- Stages 4 to 8 for a reading of endpoint i of a class other than REPLAY and DUPLICATE. -/
def Dev.ingValidate (d : Dev) (ring i : Nat) (edited : Bool) (r : Reading) (c : SeqClass) (newest older : Compact) : Dev :=
  let trusted : Bool := ring == 7
  let v := d.vprof i r.t
  let cp := d.cprof i r.t
  if !trusted && v.reserved then
    ((d.bump ING_HOLD_COUNT).except (r.withFlags 0) xHOLD 0 i).ingForward ring true (r.withFlags 0)
  else
    let ivs := intervals v c r newest older
    let adv := (ivs.headD (0, 0)).1
    let run := d.recGet i rSTUCK_RUN 2
    let stuck := if c.forward then (if adv = 0 then satNat (run + 1) 0xFFFF else 0) else run
    let x : RuleIn := { v := v, cls := c, ivs := ivs, stuck := stuck, tamper := d.recGet i rLAST_TAMPER 8 }
    let d := d.iff (!trusted && !edited && r.status.testBit 1) (·.recPut i rLAST_TAMPER 8 r.t)
    let trips := if trusted then [] else d.trips r x edited
    let held := holds v trips
    let decrease : Bool := trips.contains 5 && !held
    let base : Bool := c == .baseline || decrease
    let conv : Option Int :=
      if c.forward && !held && !decrease then
        billedDelta (d.overlay r.t) cp (bitsOf (d.recGet i rASSIGN 4) 7 0) newest r adv
      else some 0
    let trips := if conv.isNone then trips ++ [9] else trips
    let d := d.noteTrips trips
    let flags := trips.foldl (fun q k => q ||| ruleFlag k) 0
    let r := { r with quality := r.quality ||| flags, rule := if r.rule = 0 then trips.headD 0 else r.rule }
    let d := d.recPut i rCONSEC_TRIPS 2 (if trips.isEmpty then 0 else satNat (d.recGet i rCONSEC_TRIPS 2 + 1) 0xFFFF)
    match held, conv with
    | false, some db =>
      let late := d.isLate r.t
      let r := r.withFlags (if late then qLATE else 0)
      let d := d.iff late (·.bump ING_LATE_COUNT)
      if c = .backfill then
        if d.epcHolds i r.seq then d.bump ING_DUP_COUNT
        else (d.applyBackfill i r newest older).ingForward ring false r
      else (d.applyReading i r c newest base edited v.signed db trips stuck).ingForward ring false r
    | _, _ =>
      let r := r.withFlags 0
      let d := (d.bump ING_HOLD_COUNT).except r (if held then xHOLD else xCONV) r.rule i
      d.ingForward ring true r

/-- One record from a ring through stages 2 to 8 (R60). -/
def Dev.ingProcess (d : Dev) (ring : Nat) (rec' : Bytes) : Dev :=
  let edited : Bool := decide (ring < 6) && d.fld (ING_IN_CFG ring) 9 8 == 1
  let r := Reading.ofBytes rec'
  let r := if edited then { r with quality := r.quality ||| qEDITED } else r
  match d.lookup r.addr with
  | none => (d.bump ING_UNKNOWN_COUNT).except (r.withFlags 0) xUNKNOWN r.rule m32
  | some h =>
    if h.state = stSUSPENDED then (d.bump ING_UNKNOWN_COUNT).except (r.withFlags 0) xSUSPENDED r.rule h.idx
    else
      let newest := d.recCompact h.idx rNEWEST
      let older := d.recCompact h.idx rOLDER
      let c := seqCheck r newest older (d.ing.reseq.contains h.idx)
      if c = .replay then d.ingReplay h.idx r
      else if c = .duplicate then d.ingDuplicate h.idx r
      else
        let d := d.iff (c != .backfill) (·.recPut h.idx rREPLAY_RUN 1 0)
        d.ingValidate ring h.idx edited r c newest older

/-! ## Intake (R60, R71) -/

/-- The client of ING. -/
abbrev ingClient : Client := ⟨pING, 0⟩

/-- A ring holds as many records as it can. -/
def Dev.inFull (d : Dev) (n : Nat) : Bool := d.inLog n != 0 && decide (2 ^ d.inLog n ≤ d.inCount n)

/-- The rings that a role feeds (R60). -/
def roleFeeds (role ring : Nat) : Bool := !(role == 0 && ring == 7) && !(role == 1 && ring == 6)

/-- Append records to a ring that ING itself produces. -/
def Dev.inPush (d : Dev) (n : Nat) (recs : List Bytes) : Dev :=
  d.each recs fun d x =>
    let p := d.rd (ING_IN_PROD n)
    (d.stBytes (d.rd64 (ING_IN_BASE_LO n) + 48 * (p % 2 ^ d.inLog n)) (padTo 48 x)).wr (ING_IN_PROD n) (p + 1)

/-- The native decoder takes the oldest frame of a lane's receive queue and appends the records it makes of it to ring 6; the
manual gives no decoding, so the records are the command's (R60, R71). -/
def Dev.nativeDecode (d : Dev) (lane : Nat) (recs : List Bytes) : Dev :=
  if !d.bit ING_CFG 0 || d.inLog 6 == 0 || decide (2 ^ d.inLog 6 < d.inCount 6 + recs.length) || !d.en pQRY
      || d.laneFenced lane then d
  else match d.front? (2 * lane + 1) with
    | none => d
    | some _ => (d.popFront (2 * lane + 1)).inPush 6 recs

/-- ING may take input at all: running, configured, not stalled, no power-fail warning (R307), not held by the live fence (R90)
or by a final pass (R298). -/
def Dev.ingTakes (d : Dev) : Bool :=
  d.starts pING && !ingCfgInvalid d && !d.pwr.pfActive && !d.excBlocked && d.epc.fence.isNone && !d.red.finalHold

/-- A record goes through under leave of class 6, and of class 8 where TRF allocates; without leave it waits. -/
def Dev.ingUnderLeave (d : Dev) (ring : Nat) (rec' : Bytes) (taken : Dev → Dev) : Dev :=
  let d := d.request 6 ingClient
  if !d.granted 6 ingClient then d
  else
    let needs := d.trfAllocates (Reading.ofBytes rec').t
    let d := d.iff needs (·.request 8 trfClient)
    if needs && !d.granted 8 trfClient then d
    else
      let d := (taken d).mirror (.record ring rec')
      let d := d.ingProcess ring rec'
      (d.giveBack 6 ingClient).iff needs (·.giveBack 8 trfClient)

/-- READING_INTAKE: ING takes the oldest record of a ring. -/
def Dev.intake (d : Dev) (ring : Nat) (native : Option (Nat × List Bytes)) : Dev :=
  if !d.ingTakes || d.pairSlave || !roleFeeds d.role ring then d
  else
    let d := match ring, native with
      | 6, some (lane, recs) => d.nativeDecode lane recs
      | _, _ => d
    if d.inLog ring = 0 ∨ d.inCount ring = 0 then d
    else
      let cons := d.rd (ING_IN_CONS ring)
      let rec' := d.ldBytes (d.rd64 (ING_IN_BASE_LO ring) + 48 * (cons % 2 ^ d.inLog ring)) 48
      d.ingUnderLeave ring rec' fun d => d.wr (ING_IN_CONS ring) (cons + 1)

/-! ## The page (R73) -/

/-- The computed registers of the ING page. -/
def ingRead (d : Dev) (off : Nat) : Option Nat :=
  if off = 0x190 then some 0
  else if off = 0x194 then some (d.rd ING_REG_STAT + b2n (d.ing.cmd != 0))
  else if 0x200 ≤ off ∧ off < 0x300 ∧ off % 0x20 = 0x14 then some (d.inCount ((off - 0x200) / 0x20))
  else if off = 0x314 then some d.excCount
  else if off = 0x340 then some d.ing.nextSeq
  else if off = 0x344 then some d.ing.ackedSeq
  else if off = 0x348 then some d.ing.outstanding.length
  else if off = 0x34C then some d.ing.journalPend
  else if off = 0x42C then
    some (satNat (d.rd ING_EXC_STALL_US + (match d.ing.stallTick with | none => 0 | some t => usBetween t d.time.ticks)) m32)
  else if off = 0x430 then some d.rateNow
  else none

/-- Writes of the ING page with an effect of their own (R57, R67, R73). -/
def ingWrite (d : Dev) (off v : Nat) : WriteRes :=
  if 0x180 ≤ off ∧ off ≤ 0x190 then
    if d.ing.cmd ≠ 0 ∨ d.regLocked then .refuse ENGINE_BUSY
    else if off = 0x190 then .done { d with ing := { d.ing with cmd := v % 8 } }
    else .plain
  else if off = 0x2CC ∨ off = 0x2EC then .refuse ROLE_DENIED
  else if off = 0x310 then .done ((d.wr ING_EXC_CONS v).excFlush)
  else if off = 0x42C then
    .done ((d.iff d.ing.stallTick.isSome fun d => { d with ing := { d.ing with stallTick := some d.time.ticks } }).wr ING_EXC_STALL_US 0)
  else .plain

/-- The block bits of ING PG_STAT. -/
def ingPgStat (d : Dev) : Nat :=
  4 * b2n (ingCfgInvalid d) + 8 * b2n d.ing.islanded + 16 * b2n d.ing.replaying + 32 * b2n d.excBlocked +
  64 * b2n ((List.range 8).any d.inFull) + 128 * b2n (d.queuedFor 6 ingClient)

/-- ING is busy: a registry command runs or an exception waits. -/
def ingBusy (d : Dev) : Bool := d.ing.cmd != 0 || !d.ing.exc.isEmpty

/-- A soft reset of ING: what the NOR journal and the sequence state hold survives; exceptions that found no room are lost with
the ring's indexes (DEDUCED). -/
def ingReset (d : Dev) : Dev :=
  let s := d.ing
  ({ d with ing := {
      unsent := s.unsent.filter (·.journalled), outstanding := s.outstanding, nextSeq := s.nextSeq, ackedSeq := s.ackedSeq,
      ackTick := d.time.ticks, sendTick := d.time.ticks, stations := s.stations, acks := s.acks, journalled := s.journalled,
      tamperExt := s.tamperExt, exps := s.exps } } : Dev).giveBack 6 ingClient

end Sys2Proof.Machine
end

