-- ==== Sys2Proof/Machine/BalOps.lean ====
section
/-!
DEFINITION. The balance engine (R130 to R145): samples, boundary inventories, the balance of a zone, the two passes, detection,
suspicion records, amendments and the validation of a table block.
-/
namespace Sys2Proof.Machine

/-- The table block and the calibration overlay that govern instant b: a fire at b does not (R129). -/
def Dev.balTbl (d : Dev) (b : Nat) : Nat := d.cfgAt64 (b - 1) BAL_TBL_BASE_LO

/-- CFG_INVALID of BAL (R145). -/
def balCfgInvalid (d : Dev) : Bool :=
  let cap := d.rd BAL_MEMBER_CAP
  pastEnd (d.rd64 BAL_TBL_BASE_LO) (0x700000 + 16 * cap) || pastEnd (d.rd64 BAL_STATE_BASE_LO) (0xC00000 + 16 * cap) ||
  (d.fld BAL_SAMP_CFG 4 0 != 0 && pastEnd (d.rd64 BAL_SAMP_BASE_LO) (32 * 2 ^ d.fld BAL_SAMP_CFG 4 0)) ||
  (d.fld BAL_SUSP_CFG 4 0 != 0 && pastEnd (d.rd64 BAL_SUSP_BASE_LO) (64 * 2 ^ d.fld BAL_SUSP_CFG 4 0))

/-- BAL may start a new operation. -/
def Dev.balStarts (d : Dev) : Bool := d.starts pBAL && !balCfgInvalid d && !d.pwr.pfActive

/-! ## Samples and inventories (R130, R131) -/

/-- The retained samples of an input, oldest first. -/
def Dev.samplesOf (d : Dev) (item input : Nat) : List Sample := Assoc.get [] d.bal.samples (2 * item + input)

/-- Put a sample in its place by time; one of the same stamp is replaced; the eight newest stay. -/
def insertSample (s : Sample) : List Sample → List Sample
  | [] => [s]
  | x :: t => if s.t < x.t then s :: x :: t else if s.t = x.t then s :: t else x :: insertSample s t
def keepEight (l : List Sample) : List Sample := l.drop (l.length - 8)

/-- The boundaries at which an item's inventory is fixed. -/
def Dev.fixedOf (d : Dev) (item : Nat) : List (Nat × Option Inventory) := Assoc.get [] d.bal.inventory item

/-- A sample at t would bracket b among some samples. -/
def bracketsAt (l : List Sample) (t b : Nat) : Bool :=
  if t ≤ b then !(l.any fun s => decide (t < s.t) && decide (s.t ≤ b)) else !(l.any fun s => decide (b < s.t) && decide (s.t < t))

/-- BAL takes a sample's 32 bytes (R130). -/
def Dev.balSample (d : Dev) (x : Bytes) : Dev :=
  let item := leAt x 0 2 % 2 ^ 14
  let input := leAt x 2 1
  let flags := leAt x 3 1
  let t := leAt x 8 8
  let old := d.samplesOf item input
  let tooOld : Bool := old.length == 8 && (match old.head? with | none => false | some s => decide (t < s.t))
  if 1 < input ∨ (d.itemAt (d.rd64 BAL_TBL_BASE_LO) item).model = 0 ∨ flags.testBit 0 ∨ bitsOf flags 2 1 = 3 ∨ tooOld then
    d.bump BAL_SAMPLE_DROP
  else
    let v : Int := if input = 0 then (leAt x 4 4 : Nat) else sleAt x 4 4
    let late := (d.fixedOf item).any fun e => bracketsAt old t e.1
    let new := keepEight (insertSample { value := v, t := t, tUnc := leAt x 0x10 4 } old)
    let d := { d with bal := { d.bal with samples := Assoc.put d.bal.samples (2 * item + input) new } }
    d.iff late (·.bump BAL_SAMPLE_LATE)

/-- BAL_SAMPLE: the oldest sample of the ring. -/
def Dev.takeSample (d : Dev) : Dev :=
  let log := d.fld BAL_SAMP_CFG 4 0
  let cons := d.rd BAL_SAMP_CONS
  if !d.balStarts || d.pairSlave || log == 0 || d.waiting BAL_SAMP_PROD BAL_SAMP_CONS == 0 then d
  else
    let x := d.ldBytes (d.rd64 BAL_SAMP_BASE_LO + 32 * (cons % 2 ^ log)) 32
    ((d.wr BAL_SAMP_CONS (cons + 1)).mirror (.sample x)).balSample x

/-- An input at instant b in 10^-6 of its unit, and whether it was held (R131). -/
def inputAt (l : List Sample) (b stale : Nat) : Option (Int × Bool) :=
  match lastWhere (fun s => decide (s.t ≤ b)) l, l.find? fun s => decide (b < s.t) with
  | some a, some c =>
    some (1000000 * a.value + roundAway (1000000 * (c.value - a.value) * ((b - a.t : Nat) : Int)) (c.t - a.t), false)
  | some a, none => if b - a.t ≤ 1000000000 * stale then some (1000000 * a.value, true) else none
  | none, _ => none

/-- Both inputs of an item at instant b. -/
def Dev.inventoryAt (d : Dev) (i : Item) (b : Nat) : Option Inventory :=
  match inputAt (d.samplesOf i.no 0) b i.staleMax, inputAt (d.samplesOf i.no 1) b i.staleMax with
  | some (a, h), some (t, g) => some { t := b, a := a, temp := t, held := h || g }
  | _, _ => none

/-- Both inputs have a sample after b. -/
def Dev.sampledAfter (d : Dev) (item b : Nat) : Bool :=
  [0, 1].all fun k => (d.samplesOf item k).any fun s => decide (b < s.t)

/-- The boundaries whose epoch is unsealed. -/
def Dev.openBoundaries (d : Dev) : List Nat :=
  (match d.epc.job with | some j => if j.typ = 0 then [j.epoch.tEnd] else [] | none => []) ++ d.epc.unsealed.map (·.tEnd)

/-- INVENTORY_FIX: the oldest boundary of an item that is still to be fixed, when it is time (R131). -/
def Dev.inventoryFix (d : Dev) (item : Nat) : Dev :=
  match d.openBoundaries.find? fun b => !((d.fixedOf item).any fun e => e.1 == b) with
  | none => d
  | some b =>
    let i := d.itemAt (d.balTbl b) item
    if !d.balStarts || i.model == 0 then d
    else if d.sampledAfter item b || decide (b + 1000000000 * i.staleMax ≤ d.ext) then
      let fixed := d.fixedOf item ++ [(b, d.inventoryAt i b)]
      { d with bal := { d.bal with inventory := Assoc.put d.bal.inventory item fixed } }
    else d

/-! ## The balance of a zone (R132 to R134) -/

/-- A member's net delta and the square of its attribution uncertainty (R133). -/
structure MVal where
  delta : Int
  attr2 : Nat

/-- The endpoint of a member can have an entry (R133). -/
def Dev.memberKnown (d : Dev) (m : Member) : Bool := known (d.recState m.index) && decide (m.index < d.rd EPC_WORK_CAP)

/-- An entry gives a value (R133): neither CARRIED nor NO_DATA, and a bounded uncertainty. -/
def entryUsable (e : Bytes) : Bool :=
  let m := leAt e 0x3A 1
  bitsOf m 2 0 < 3 && bitsOf m 5 3 < 3 && leAt e 0x28 4 != uncNone && leAt e 0x2C 4 != uncNone

/-- The squares of an entry's uncertainties. -/
def entryUnc2 (e : Bytes) : Nat := leAt e 0x28 4 ^ 2 + leAt e 0x2C 4 ^ 2

/-- A member at the epoch cadence: e1 finds the entry at b1, e0 the one at b0. -/
def Dev.memberEpoch (d : Dev) (e0 e1 : Nat → Option Bytes) (m : Member) : Option MVal :=
  if !d.memberKnown m then none
  else
    let key := d.recGet m.index rADDR 8
    match e0 key, e1 key with
    | some x, some y =>
      if entryUsable x && entryUsable y then
        some { delta := (entryValF y - entryValF x) - (entryValR y - entryValR x), attr2 := entryUnc2 x + entryUnc2 y }
      else none
    | _, _ => none

/-- A member at the fast cadence (R78). -/
def Dev.memberFast (d : Dev) (b0 b1 : Nat) (m : Member) : Option MVal :=
  if !d.memberKnown m then none
  else
    let x := d.valueAt m.index b0
    let y := d.valueAt m.index b1
    let ok := fun (v : BVal) => v.method < 3 && v.uncF != uncNone && v.uncR != uncNone
    if ok x && ok y then
      some { delta := (y.valF - x.valF) - (y.valR - x.valR),
             attr2 := x.uncF ^ 2 + x.uncR ^ 2 + y.uncF ^ 2 + y.uncR ^ 2 }
    else none

/-- An item's change between two inventories, and whether one was held. -/
def Dev.itemChange (d : Dev) (tbl : Nat) (ov : Bytes) (z : Zone) (i : Item) (x y : Option Inventory) : Option (Change × Bool) :=
  match x, y with
  | some x, some y => (changeOf (d.content tbl ov z i) i x.a x.temp y.a y.temp).map fun c => (c, x.held || y.held)
  | _, _ => none

/-- A fixed inventory of an item. -/
def Dev.fixedAt (d : Dev) (item b : Nat) : Option Inventory := ((d.fixedOf item).find? fun e => e.1 == b).bind (·.2)

/-- What the members and items of a zone sum to. -/
structure BalSum where
  inQ : Int := 0
  outQ : Int := 0
  inv : Int := 0
  var : Frac := Frac.ofInt 0
  vinv : Frac := Frac.ofInt 0
  missing : Nat := 0
  itemsMissing : Nat := 0
  held : Bool := false
  /-- The greatest member variance, and that member. -/
  big : Option (Frac × Nat) := none
  /-- Members with ONE_WAY and their net flow in zone units, for the reverse-flow test. -/
  reverse : List (Nat × Int) := []

/-- One member's contribution (R134). -/
def addMember (hours : Frac) (s : BalSum) (m : Member) (v : Option MVal) : BalSum :=
  match v with
  | none => { s with missing := s.missing + 1 }
  | some x =>
    let sc := frac m.scale 16777216
    let q := ((Frac.ofInt x.delta).mul sc).round
    let u := sc.sq.mul (Frac.sum [Frac.ofInt x.attr2, ((frac m.uPpm 1000000).mul (Frac.ofInt x.delta)).sq,
      ((Frac.ofInt m.uFloor).mul hours).sq])
    let bigger := match s.big with | none => true | some (b, _) => b.lt u
    { s with
      inQ := if m.leaves then s.inQ else s.inQ + q, outQ := if m.leaves then s.outQ + q else s.outQ,
      var := s.var.add u, big := if bigger then some (u, m.index) else s.big,
      reverse := if m.oneWay && decide (x.delta < 0) then s.reverse ++ [(m.index, q)] else s.reverse }

/-- One item's contribution (R134). -/
def addItem (s : BalSum) (v : Option (Change × Bool)) : BalSum :=
  match v with
  | none => { s with missing := s.missing + 1, itemsMissing := s.itemsMissing + 1 }
  | some (c, h) => { s with inv := s.inv + c.delta.round, vinv := s.vinv.add c.var, held := s.held || h }

/-- The outcome of zone_balance (R134); var is max(1, s²). -/
structure BalOut where
  sum : BalSum
  loss : Int
  ok : Bool
  var : Frac
  sigma : Nat
  z : Int
  residual : Int
  uInv : Nat
  hours : Frac

/-- zone_balance of R134 over what the members and items gave. -/
def closeBalance (z : Zone) (hours : Frac) (s : BalSum) : BalOut :=
  let loss := (((frac z.lossPpm 1000000).mul (Frac.ofInt (max s.inQ 0))).add ((Frac.ofInt z.lossRate).mul hours)).round
  let res := s.inQ - s.outQ - s.inv - loss
  let v := (Frac.ofInt 1).max (Frac.sum [s.var, s.vinv, ((frac z.lossUncPpm 1000000).mul (Frac.ofInt loss)).sq])
  let ok : Bool := s.missing == 0
  { sum := s, loss := loss, ok := ok, var := v, sigma := if ok then satNat v.sqrtUp m32 else m32,
    z := if ok then clampInt ((Frac.ofInt res).overSqrt v) (-(2 ^ 31)) (2 ^ 31 - 1) else 0, residual := res,
    uInv := satNat s.vinv.sqrtUp m32, hours := hours }

/-- Hours of a span of ns. -/
def hoursOf (ns : Nat) : Frac := frac ns 3600000000000

/-- The balance of zone z over (b0, b1]. -/
def Dev.balance (d : Dev) (tbl : Nat) (z : Zone) (b0 b1 : Nat) (member : Member → Option MVal)
    (item : Item → Option (Change × Bool)) : BalOut :=
  let h := hoursOf (b1 - b0)
  let s := (d.membersOf tbl z).foldl (fun s m => addMember h s m (member m)) {}
  closeBalance z h ((d.itemsOf tbl z).foldl (fun s i => addItem s (item i)) s)

/-! ## CUSUM (R138) -/

/-- The greatest CUSUM sum, 65,535.99 in 16.16. -/
abbrev cusumTop : Int := 4294966640

/-- One step of a side with z in its direction and drift k in 8.8. -/
def Side.advance (s : Side) (z : Int) (k b1 : Nat) : Side :=
  let s := if s.reset then {} else s
  let v := min cusumTop (max 0 ((s.s : Int) + z - 256 * (k : Int)))
  if v = 0 then { s with s := 0, onset := b1, steps := 0, high := 0, span := 0 }
  else { s with s := v.toNat, steps := s.steps + 1 }

/-- Complete fast balances counted by a side with S > 0; neg reads them in the direction of the low side. -/
def Side.tally (s : Side) (neg : Bool) (l : List FastZ) : Side :=
  if s.s = 0 then s
  else
    let high := (l.filter fun x => decide (256 * (x.k : Int) < (if neg then -x.z else x.z))).length
    { s with span := s.span + l.length, high := s.high + high }

/-- A CUSUM side back at zero (R137): its sum, onset and counters; the latch stays. -/
def Side.cleared (s : Side) (b1 : Nat) : Side := { s with s := 0, onset := b1, steps := 0, high := 0, span := 0 }

/-! ## Suspicion records (R139, R140) -/

abbrev sSTEADY : Nat := 1
abbrev sDRAW : Nat := 2
abbrev sGAIN : Nat := 3
abbrev sSTEP : Nat := 4
abbrev sREVERSE : Nat := 5
abbrev sAMENDED : Nat := 6

/-- Waiting records go to the ring while it has room, each with its sequence number and event 34. -/
def suspDrain : List Bytes → Dev → Dev
  | [], d => { d with bal := { d.bal with susp := [] } }
  | x :: rest, d =>
    let log := d.fld BAL_SUSP_CFG 4 0
    if log = 0 ∨ 2 ^ log ≤ d.waiting BAL_SUSP_PROD BAL_SUSP_CONS then { d with bal := { d.bal with susp := x :: rest } }
    else
      let prod := d.rd BAL_SUSP_PROD
      let seq := (d.rd BAL_SUSP_SEQ + 1) % 2 ^ 32
      let d := d.stBytes (d.rd64 BAL_SUSP_BASE_LO + 64 * (prod % 2 ^ log)) (x ++ leBytes 4 seq)
      let d := ((d.wr BAL_SUSP_PROD (prod + 1)).wr BAL_SUSP_SEQ seq).bump BAL_SUSPECT_COUNT
      suspDrain rest (d.raise pBAL 0)
def Dev.suspFlush (d : Dev) : Dev := suspDrain d.bal.susp d

/-- A suspicion (R139, R140); a standby writes none (R144). A record that no side raised takes free values in the side's
fields, which the manual does not give. -/
def Dev.suspect (d : Dev) (z : Zone) (code cad : Nat) (o : BalOut) (b1 rate : Int) (side : Option Side) (member : Option Nat) : Dev :=
  if d.pairSlave then d
  else
    let w := d.freeBytes 18
    let d := d.iff side.isNone (·.tookFree 18)
    let f := fun (v : Side → Nat) (n at' : Nat) => match side with | none => slice w at' n | some s => leBytes n (v s)
    let addr := match member with | none => 0 | some i => d.recGet i rADDR 8
    let x := leBytes 8 z.no ++ leBytes 1 code ++ leBytes 1 cad ++ f (fun s => satNat s.steps 0xFFFF) 2 0 ++
      leBytes 4 (enc 32 o.z) ++ leBytes 8 (enc 64 b1) ++ f (·.onset) 8 2 ++ leBytes 8 (enc 64 (s64 rate)) ++
      leBytes 4 o.sigma ++ f (·.s) 4 10 ++ leBytes 8 addr ++ f (fun s => satNat s.high 0xFFFF) 2 14 ++
      f (fun s => satNat s.span 0xFFFF) 2 16
    ({ d with bal := { d.bal with susp := d.bal.susp ++ [x] } } : Dev).suspFlush

/-- q × √v, rounded to nearest. -/
def mulSqrt (q v : Frac) : Int := (((isqrt ((Frac.ofInt 4).mul (q.sq.mul v)).floor.toNat + 1) / 2 : Nat) : Int)

/-- RATE_EST of codes 1 to 3: (k + S / steps) × σ × 3,600 / interval. -/
def rateEst (s : Side) (k : Nat) (o : BalOut) : Int :=
  mulSqrt (((frac k 256).add (frac s.s (65536 * s.steps))).div o.hours) o.var

/-- A residual as a rate over its span. -/
def residualRate (o : BalOut) : Int := ((Frac.ofInt o.residual).div o.hours).round

/-- The alarms of one cadence after its update (R138): the sides with their latches, and the device. -/
def Dev.alarms (d : Dev) (z : Zone) (cad k h b1 : Nat) (o : BalOut) (hi lo : Side) : Dev × Side × Side :=
  let dom := o.sum.big.map (·.2)
  let a := decide (256 * h < hi.s) && !hi.latch
  let code := if hi.span * 3 ≤ hi.high * 4 then sSTEADY else sDRAW
  let hi := if a then { hi with latch := true } else hi
  let d := d.iff a fun d => d.suspect z code cad o b1 (rateEst hi k o) (some hi) dom
  let b := decide (256 * h < lo.s) && !lo.latch
  let lo := if b then { lo with latch := true } else lo
  let d := d.iff b fun d => d.suspect z sGAIN cad o b1 (-(rateEst lo k o)) (some lo) dom
  (d, hi, lo)

/-- The STEP alarm of a fast balance (R138). -/
def Dev.stepAlarm (d : Dev) (z : Zone) (b1 : Nat) (o : BalOut) (hi lo : Side) : Dev × Side × Side :=
  if z.stepZ = 0 ∨ o.z.natAbs < 256 * z.stepZ then (d, hi, lo)
  else
    let up : Bool := decide (0 < o.z)
    let s := if up then hi else lo
    if s.latch then (d, hi, lo)
    else
      let s := { s with latch := true }
      let d := d.suspect z sSTEP 1 o b1 (residualRate o) (some s) (o.sum.big.map (·.2))
      if up then (d, s, lo) else (d, hi, s)

/-- REVERSE_FLOW of an epoch balance (R139). -/
def Dev.reverseAlarms (d : Dev) (z : Zone) (b1 : Nat) (o : BalOut) : Dev :=
  d.each o.sum.reverse fun d e =>
    let limit := (Frac.ofInt z.revMin).mul o.hours
    d.iff (limit.lt (Frac.ofInt (-e.2))) fun d =>
      d.suspect z sREVERSE 0 o b1 ((Frac.ofInt e.2).div o.hours).round none (some e.1)

/-! ## Zone entries (R142) -/

/-- ZFLAGS bits. -/
abbrev zINCOMPLETE : Nat := 1
abbrev zAMENDED : Nat := 8
abbrev zINV_HELD : Nat := 16
abbrev zBRIDGED : Nat := 32
abbrev zREBASED : Nat := 64
abbrev zFAST : Nat := 128

/-- The bytes of a zone entry. -/
def zoneEntry (z : Zone) (o : BalOut) (hi lo : Side) (flags : Nat) : Bytes :=
  leBytes 8 z.no ++ leBytes 8 (enc 64 (s64 o.sum.inQ)) ++ leBytes 8 (enc 64 (s64 o.sum.outQ)) ++
  leBytes 8 (enc 64 (s64 o.sum.inv)) ++ leBytes 8 (enc 64 (s64 o.loss)) ++ leBytes 4 o.sigma ++ leBytes 4 (enc 32 o.z) ++
  leBytes 4 hi.s ++ leBytes 4 lo.s ++
  leBytes 1 (flags + b2n (!o.ok) + 2 * b2n hi.latch + 4 * b2n lo.latch + zINV_HELD * b2n o.sum.held) ++
  leBytes 1 2 ++ leBytes 1 z.unit ++ leBytes 1 (satNat o.sum.missing 255) ++ leBytes 4 o.uInv

/-- The entry of a zone that is rebased without a balance (R137): its sums are free values, the manual giving none. -/
def rebasedEntry (z : Zone) (w : Bytes) : Bytes :=
  leBytes 8 z.no ++ slice w 0 40 ++ zeroBytes 8 ++ leBytes 1 zREBASED ++ leBytes 1 2 ++ leBytes 1 z.unit ++ leBytes 1 0 ++
  slice w 40 4

/-- What BAL keeps for zone z. -/
def Dev.zoneSt (d : Dev) (z : Nat) : ZoneSt := Assoc.get {} d.bal.zones z
def Dev.putZone (d : Dev) (z : Nat) (s : ZoneSt) : Dev := { d with bal := { d.bal with zones := Assoc.put d.bal.zones z s } }

/-- The outcome of one zone in an epoch pass: the device, the entry, and whether the zone was incomplete. -/
structure ZoneOut where
  dev : Dev
  entry : Bytes
  incomplete : Bool

/-- One zone of an epoch pass (R137). -/
def Dev.epochZone (d : Dev) (tbl : Nat) (ov : Bytes) (prev b1 len : Nat) (leaves : List Bytes) (z : Zone) : ZoneOut :=
  let st := d.zoneSt z.no
  let shape := d.zoneShape tbl z
  let same : Bool := st.shape == shape
  match st.base, same with
  | some b0, true =>
    let e0 := fun key => entryIn d.epc.ashlars b0 1 key
    let e1 := fun key => leaves.find? fun e => entryKind e == 1 && entryKey e == key
    let o := d.balance tbl z b0 b1 (d.memberEpoch e0 e1) fun i => d.itemChange tbl ov z i (d.fixedAt i.no b0) (d.fixedAt i.no b1)
    let d := d.bump BAL_EPOCH_COUNT
    if o.ok then
      let span := st.fastLog.filter fun x => decide (b0 < x.f) && decide (x.f ≤ b1)
      let hi := (st.epochHi.advance o.z z.kEpoch b1).tally false span
      let lo := (st.epochLo.advance (-o.z) z.kEpoch b1).tally true span
      let (d, hi, lo) := d.alarms z 0 z.kEpoch z.hEpoch b1 o hi lo
      let d := d.reverseAlarms z b1 o
      let e := zoneEntry z o hi lo (if b0 = prev then 0 else zBRIDGED)
      let d := d.putZone z.no { d.zoneSt z.no with
        base := some b1, epochHi := hi, epochLo := lo, fastLog := st.fastLog.filter fun x => decide (b1 < x.f),
        entries := st.entries ++ [{ b1 := b1, b0 := b0, itemsMissing := 0, bytes := e }] }
      ⟨d, e, false⟩
    else
      let far : Bool := decide (d.rd BAL_BRIDGE_MAX * len < b1 - b0)
      let hi := if far then st.epochHi.cleared b1 else st.epochHi
      let lo := if far then st.epochLo.cleared b1 else st.epochLo
      let d := (d.bump BAL_INCOMPLETE_COUNT).reverseAlarms z b1 o
      let d := d.iff far (·.bump BAL_REBASE_COUNT)
      let e := zoneEntry z o hi lo (if far then zREBASED else 0)
      let d := d.putZone z.no { d.zoneSt z.no with
        base := some (if far then b1 else b0), epochHi := hi, epochLo := lo,
        entries := st.entries ++ [{ b1 := b1, b0 := b0, itemsMissing := o.sum.itemsMissing, bytes := e }] }
      ⟨d, e, true⟩
  | _, _ =>
    let e := rebasedEntry z (d.freeBytes 44)
    let d := (d.tookFree 44).bump BAL_REBASE_COUNT
    let fresh : Side := { onset := b1 }
    let d := d.putZone z.no { st with
      base := some b1, shape := shape, epochHi := fresh, epochLo := fresh, fastHi := fresh, fastLo := fresh, fastLog := [],
      entries := st.entries ++ [{ b1 := b1, b0 := b1, itemsMissing := 0, bytes := e }] }
    ⟨d, e, false⟩

/-! ## Passes (R135, R136) -/

/-- The clients of BAL: the epoch pass and the fast pass. -/
abbrev balEpochClient : Client := ⟨pBAL, 0⟩
abbrev balFastClient : Client := ⟨pBAL, 1⟩

/-- EPC waits for BAL's report, which has not been computed yet (R81, R135). -/
def Dev.epochPassDue (d : Dev) : Bool := d.epc.state == .waitBal && !d.epc.balDone

/-- BAL_EPOCH_PASS: us is how long the pass took, which the environment decides. -/
def Dev.balEpochPass (d : Dev) (us : Nat) : Dev :=
  match d.epc.job with
  | none => d
  | some j =>
    if !d.balStarts || !d.epochPassDue || !d.bal.susp.isEmpty then d
    else
      let d := d.request 9 balEpochClient
      if !d.granted 9 balEpochClient then d
      else
        let b1 := j.epoch.tEnd
        let tbl := d.balTbl b1
        let ov := d.overlay b1
        let zs := (d.zones tbl).filter (·.epochEn)
        let r := zs.foldl (fun (acc : Dev × List Bytes × Bool) z =>
          let o := acc.1.epochZone tbl ov j.epoch.tStart b1 j.epoch.length j.leaves z
          (o.dev, acc.2.1 ++ [o.entry], acc.2.2 || o.incomplete)) (d, [], false)
        let d := r.1.iff r.2.2 (·.raise pBAL 1)
        let d := { d with epc := { d.epc with zones := r.2.1, balDone := true } }
        ((d.wr64 BAL_EPOCH_LAST_LO j.epoch.no).wr BAL_PASS_US us).giveBack 9 balEpochClient

/-- A minute in ns. -/
abbrev fastNs : Nat := 60000000000

/-- The next fast instant. -/
def Dev.nextFast (d : Dev) : Nat :=
  if d.bal.fastDone < d.origin then d.origin else d.origin + ((d.bal.fastDone - d.origin) / fastNs + 1) * fastNs

/-- One zone of a fast pass (R136, R138). -/
def Dev.fastZone (d : Dev) (tbl : Nat) (ov : Bytes) (f : Nat) (z : Zone) : Dev :=
  let st := d.zoneSt z.no
  let b0 := f - fastNs
  let o := d.balance tbl z b0 f (d.memberFast b0 f) fun i => d.itemChange tbl ov z i (d.inventoryAt i b0) (d.inventoryAt i f)
  let d := d.bump BAL_FAST_COUNT
  if o.ok then
    let x : FastZ := { f := f, z := o.z, k := z.kFast }
    let hi := (st.fastHi.advance o.z z.kFast f).tally false [x]
    let lo := (st.fastLo.advance (-o.z) z.kFast f).tally true [x]
    let (d, hi, lo) := d.alarms z 1 z.kFast z.hFast f o hi lo
    let (d, hi, lo) := d.stepAlarm z f o hi lo
    d.putZone z.no { d.zoneSt z.no with
      fastHi := hi, fastLo := lo, fastLog := st.fastLog ++ [x], fastMissing := false,
      fast := some (zoneEntry z o hi lo zFAST) }
  else
    let d := (d.bump BAL_INCOMPLETE_COUNT).iff (!st.fastMissing) (·.raise pBAL 1)
    d.putZone z.no { st with fastMissing := true, fast := some (zoneEntry z o st.fastHi st.fastLo zFAST) }

/-- BAL_FAST_PASS: the fast pass that is due runs, waits, or is skipped when the next is due too (R136). -/
def Dev.balFastPass (d : Dev) : Dev :=
  let f := d.nextFast
  let due := f + 1000000000 * d.rd BAL_FAST_LAG
  if !d.balStarts || !d.bit BAL_CFG 1 || decide (d.ext < due) then d
  else if due + fastNs ≤ d.ext then
    ({ d with bal := { d.bal with fastDone := f } } : Dev).bump BAL_FAST_SKIP
  else if d.epochPassDue && d.bit BAL_CFG 0 || !d.bal.susp.isEmpty then d
  else
    let d := d.request 9 balFastClient
    if !d.granted 9 balFastClient then d
    else
      let tbl := d.balTbl f
      let ov := d.overlay f
      let d := d.each ((d.zones tbl).filter (·.fastEn)) fun d z => d.fastZone tbl ov f z
      let d := { d with bal := { d.bal with fastDone := f } }
      (d.wr64 BAL_FAST_LAST_LO f).giveBack 9 balFastClient

/-- Fast instants up to the present count as passed (R378). -/
def Dev.balBegin (d : Dev) : Dev := { d with bal := { d.bal with fastDone := max d.bal.fastDone d.ext } }

/-! ## Acknowledgement (R141) -/

/-- The named sides of a zone are unlatched, and start from zero at the next balance of their cadence. -/
def Dev.ackSides (d : Dev) (zone sides : Nat) : Dev :=
  let st := d.zoneSt zone
  let mark := fun (s : Side) (k : Nat) => if sides.testBit k then { s with latch := false, reset := true } else s
  if sides.testBit 2 then d.putZone zone { st with fastHi := mark st.fastHi 0, fastLo := mark st.fastLo 1 }
  else d.putZone zone { st with epochHi := mark st.epochHi 0, epochLo := mark st.epochLo 1 }

/-- BAL_ACK: zone and sides in one word; an acknowledgement goes to the standby too (R292). -/
def Dev.balAck (d : Dev) (v : Nat) : Dev := (d.ackSides (bitsOf v 15 0) (bitsOf v 18 16)).mirror (.balAck (BitVec.ofNat 32 v))

/-! ## Amendments (R143) -/

/-- Recompute the entry of one zone for the changed entries of boundary b1; nothing when the zone has none there. -/
def Dev.amendZone (d : Dev) (tbl : Nat) (b1 : Nat) (changed : List Bytes) (z : Zone) : Dev × Option Bytes :=
  match (d.zoneSt z.no).entries.reverse.find? fun e => e.b1 == b1 && decide (e.b0 < b1) with
  | none => (d, none)
  | some e =>
    let find := fun (b key : Nat) =>
      (if b = b1 then changed.find? fun x => entryKind x == 1 && entryKey x == key else none).orElse fun _ => entryIn d.epc.ashlars b 1 key
    let h := hoursOf (b1 - e.b0)
    let start : BalSum := {
      inv := sleAt e.bytes 0x18 8, vinv := Frac.ofInt ((leAt e.bytes 0x3C 4) ^ 2), missing := e.itemsMissing,
      itemsMissing := e.itemsMissing, held := (leAt e.bytes 0x38 1).testBit 4 }
    let s := (d.membersOf tbl z).foldl (fun s m => addMember h s m (d.memberEpoch (find e.b0) (find b1) m)) start
    let o := { closeBalance z h s with uInv := leAt e.bytes 0x3C 4 }
    let old := leAt e.bytes 0x38 1
    let hi : Side := { s := leAt e.bytes 0x30 4, latch := old.testBit 1 }
    let lo : Side := { s := leAt e.bytes 0x34 4, latch := old.testBit 2 }
    let bytes := zoneEntry z o hi lo (zAMENDED + (old &&& (zBRIDGED + zREBASED)))
    let d := d.bump BAL_AMEND_COUNT
    let d := d.iff (o.ok && z.stepZ != 0 && decide (256 * z.stepZ ≤ o.z.natAbs)) fun d =>
      d.suspect z sAMENDED 0 o b1 (residualRate o) none (o.sum.big.map (·.2))
    let st := d.zoneSt z.no
    (d.putZone z.no { st with entries := st.entries.map fun x => if x == e then { e with bytes := bytes } else x }, some bytes)

/-- BAL recomputes the zones that have a member among the changed entries of boundary b1 (R143). -/
def Dev.balAmend (d : Dev) (b1 : Nat) (changed : List Bytes) : Dev × List Bytes :=
  let tbl := d.balTbl b1
  let keys := (changed.filter fun e => entryKind e == 1).map entryKey
  let hit := (d.zones tbl).filter fun z => (d.membersOf tbl z).any fun m => keys.contains (d.recGet m.index rADDR 8)
  if !d.balStarts then (d, [])
  else hit.foldl (fun (acc : Dev × List Bytes) z =>
    match acc.1.amendZone tbl b1 changed z with
    | (d, some e) => (d, acc.2 ++ [e])
    | (d, none) => (d, acc.2)) (d, [])

/-- BAL restores the epoch-cadence sums and latches from the newest sealed zone entries after a power loss (R144). -/
def Dev.balRestore (d : Dev) : Dev :=
  let fresh := d.epc.ashlars.foldl (fun (m : Assoc ZoneSt) a =>
    if a.typ = 2 then m
    else a.leaves.foldl (fun m e =>
      if entryKind e = 2 then
        let fl := leAt e 0x38 1
        let b := a.epoch.tEnd
        Assoc.put m (entryKey e) {
          epochHi := { s := leAt e 0x30 4, latch := fl.testBit 1, onset := b },
          epochLo := { s := leAt e 0x34 4, latch := fl.testBit 2, onset := b } }
      else m) m) []
  { d with bal := { d.bal with zones := fresh } }

/-! ## Validation (R129) -/

/-- A failed test: result, part, entry. -/
abbrev BalFail := Nat × Nat × Nat

/-- The first failure of one zone descriptor; runEnd is where the runs of the zones before it end. -/
def checkZone (z : Zone) (cap runEnd : Nat) : Option BalFail :=
  let bad : Bool := decide (4 < z.unit) || decide (16 < z.itemCount) || decide (4096 < z.memberCount) || z.hEpoch == 0 ||
    z.hFast == 0 || decide (16384 < z.itemFirst + z.itemCount) ||
    ((z.epochEn || z.fastEn) && z.memberCount == 0 && z.itemCount == 0)
  if bad then some (1, 0, z.no)
  else if z.itemCount ≠ 0 ∧ z.itemFirst < runEnd then some (2, 0, z.no)
  else if cap < z.memberFirst + z.memberCount then some (3, 0, z.no)
  else none

/-- The zones of a block against each other. -/
def checkZones (cap : Nat) : Nat → List Zone → Option BalFail
  | _, [] => none
  | runEnd, z :: rest =>
    match checkZone z cap runEnd with
    | some f => some f
    | none => checkZones cap (if z.itemCount = 0 then runEnd else z.itemFirst + z.itemCount) rest

/-- The pairing of a MODEL and a UNIT is listed (R127). -/
def pairOk (model unit : Nat) : Bool :=
  (model == 1 && (unit == 2 || unit == 4)) || (model == 2 && (unit == 2 || unit == 3)) || (model == 3 && (unit == 1 || unit == 2))

/-- One item of zone z's run. -/
def checkItem (z : Zone) (i : Item) : Option BalFail :=
  if 3 < i.model ∨ i.staleMax < 1 ∨ 86400 < i.staleMax then some (1, 1, i.no)
  else if i.zone ≠ z.no then some (3, 1, i.no)
  else if !pairOk i.model z.unit then some (4, 1, i.no)
  else none

/-- Strap points with levels strictly ascending and volumes not decreasing. -/
def strapOrder : List (Nat × Nat) → Bool
  | (x, v) :: (y, w) :: rest => decide (x < y) && decide (v ≤ w) && strapOrder ((y, w) :: rest)
  | _ => true

/-- Strap table t, used by a tank. -/
def Dev.checkStrap (d : Dev) (tbl t : Nat) : Option BalFail :=
  let l := d.strapPoints tbl t
  if l.length < 2 then some (1, 2, t) else if !strapOrder l then some (2, 2, t) else none

/-- One member, after the zone memberships already counted for its endpoint. -/
def checkMember (before : List Nat) (m : Member) : Option BalFail :=
  if m.scale = 0 then some (1, 3, m.pos)
  else if 4 ≤ before.countP (· == m.index) then some (3, 3, m.pos)
  else none

/-- The members in the order of the zones. -/
def checkMembers : List Nat → List Member → Option BalFail
  | _, [] => none
  | before, m :: rest => match checkMember before m with | some f => some f | none => checkMembers (m.index :: before) rest

/-- The first failure of a table block: zones, items, straps, members (the order of the parts is a DESIGN CHOICE). -/
def Dev.checkBlock (d : Dev) (tbl cap : Nat) : Option BalFail :=
  let zs := d.zones tbl
  let items := zs.flatMap fun z => (d.itemsOf tbl z).map fun i => (z, i)
  let straps := sortUniq ((items.filter fun e => e.2.model == 3).map (·.2.strap))
  (checkZones cap 0 zs).orElse fun _ => (items.findSome? fun e => checkItem e.1 e.2).orElse fun _ =>
    (straps.findSome? (d.checkStrap tbl)).orElse fun _ => checkMembers [] (zs.flatMap (d.membersOf tbl))

/-- BAL_TBL_VALIDATE_DONE (R129). -/
def Dev.balValidated (d : Dev) : Dev :=
  match d.bal.job with
  | none => d
  | some (a, cap) =>
    let d := { d with bal := { d.bal with job := none } }
    if outside a (0x700000 + 16 * cap) then (d.wr BAL_TBL_STAT (2 * 1)).wr BAL_TBL_FAIL 0
    else match d.checkBlock a cap with
      | some (r, part, e) => (d.wr BAL_TBL_STAT (2 * r + 16 * part)).wr BAL_TBL_FAIL e
      | none => (((d.wr BAL_TBL_STAT 0).wr BAL_TBL_FAIL 0).wr64 BAL_TBL_OK_LO a).wr BAL_TBL_OK_CAP cap

/-- MAP_REWRITE_DONE: the membership words of R126 stand as the new member array gives them (R129). -/
def Dev.mapRewriteDone (d : Dev) : Dev :=
  if !d.bal.mapBusy || !d.continues pBAL then d
  else
    let d := d.each (List.range (d.fld ING_REG_HWM 25 0)) fun d i => d.recPutBytes i rZONES (zeroBytes 16)
    let tbl := d.rd64 BAL_TBL_BASE_LO
    let d := if balCfgInvalid d then d else d.each (d.zones tbl) fun d z =>
      d.each (d.membersOf tbl z) fun d m =>
        match (List.range 4).find? fun k => !(d.recGet m.index (rZONES + 4 * k) 4).testBit 31 with
        | none => d
        | some k => d.recPut m.index (rZONES + 4 * k) 4 (z.no + 2 ^ 16 * (m.pos - z.memberFirst) + 2 ^ 31)
    { d with bal := { d.bal with mapBusy := false } }

/-! ## The page (R145) -/

def balRead (d : Dev) (off : Nat) : Option Nat :=
  if off = 0x134 then some (d.waiting BAL_SAMP_PROD BAL_SAMP_CONS)
  else if off = 0x14C then some (d.waiting BAL_SUSP_PROD BAL_SUSP_CONS)
  else if off = 0x15C ∨ off = 0x180 then some 0
  else if off = 0x160 then some (d.rd BAL_TBL_STAT + b2n d.bal.job.isSome)
  else none

def balWrite (d : Dev) (off v : Nat) : WriteRes :=
  if off = 0x15C then
    if d.bal.job.isSome then .refuse ENGINE_BUSY
    else if v.testBit 0 then .done { d with bal := { d.bal with job := some (d.rd64 BAL_TBL_ADDR_LO, d.rd BAL_TBL_CAPV) } }
    else .done d
  else if off = 0x148 then .done ((d.wr BAL_SUSP_CONS v).suspFlush)
  else if off = 0x180 then .done (d.balAck v)
  else .plain

def balPgStat (d : Dev) : Nat :=
  4 * b2n (balCfgInvalid d) + 8 * b2n (!d.bal.susp.isEmpty) +
  16 * b2n (d.queuedFor 9 balEpochClient || d.queuedFor 9 balFastClient) + 32 * b2n d.bal.mapBusy

/-- BAL is busy: a validation, a rewrite or a held pass. -/
def balBusy (d : Dev) : Bool := d.bal.job.isSome || d.bal.mapBusy || !d.bal.susp.isEmpty

/-- What a fire does in BAL: a new table starts the rewrite (R129); the fast cadence turned on starts at the present. -/
def balFired (old d : Dev) (changed : List Nat) : Dev :=
  let d := d.iff ([BAL_TBL_BASE_LO, BAL_TBL_BASE_HI, BAL_MEMBER_CAP].any changed.contains) fun d =>
    { d with bal := { d.bal with mapBusy := true } }
  d.iff (d.bit BAL_CFG 1 && !old.bit BAL_CFG 1) (·.balBegin)

/-- A soft reset of BAL: the state area is memory and stays, the sums and inventories with it (DEDUCED). -/
def balReset (d : Dev) : Dev :=
  (({ d with bal := { d.bal with job := none, mapBusy := false } } : Dev).giveBackPage pBAL).balBegin

end Sys2Proof.Machine
end

