-- ==== Sys2Proof/Machine/KeyOps.lean ====
section
/-!
DEFINITION. The key store (R256 to R276): slots, the endpoint key cache, link keys, jobs, attestation and the destruction of
keys. Where the manual orders no tests of one job against each other, the order is DENIED, RANGE, EMPTY_SLOT,
PARENT_INVALID, USAGE, LIFECYCLE, LENGTH (DESIGN CHOICE).
-/
namespace Sys2Proof.Machine

/-! ## Slots -/

/-- Slot n. -/
def Dev.slot (d : Dev) (n : Nat) : KeySlot := Assoc.get {} d.key.slots n

/-- Replace slot n. -/
def Dev.setSlot (d : Dev) (n : Nat) (s : KeySlot) : Dev :=
  { d with key := { d.key with slots := Assoc.put d.key.slots n s } }

/-- The attribute word of a slot (R257). -/
def KeySlot.attr (s : KeySlot) : Nat :=
  s.st + 4 * s.alg + 32 * s.usage + 128 * s.origin + 512 * s.scope + 65536 * s.parent

/-- Key bytes of an algorithm. -/
def algBytes (alg : Nat) : Nat := if alg = 0 then 16 else 32

/-- A slot and every ancestor are VALID (R271). -/
def chainValid (slots : Assoc KeySlot) : Nat → Nat → Bool
  | 0, _ => false
  | fuel + 1, n =>
    let s := Assoc.get {} slots n
    s.st == 1 && (s.parent == 0xFF || chainValid slots fuel s.parent)

/-- Slot s is an ancestor of slot c (R271). -/
def hasAncestor (slots : Assoc KeySlot) (s : Nat) : Nat → Nat → Bool
  | 0, _ => false
  | fuel + 1, c =>
    let p := (Assoc.get {} slots c).parent
    p == s || (p != 0xFF && hasAncestor slots s fuel p)

/-- The slot a parent chain ends at (R273). -/
def chainEnd (slots : Assoc KeySlot) : Nat → Nat → Nat
  | 0, n => n
  | fuel + 1, n =>
    let p := (Assoc.get {} slots n).parent
    if p = 0xFF then n else chainEnd slots fuel p

/-- The life-cycle state lies in an LC_SCOPE (R257). -/
def Dev.inScope (d : Dev) (scope : Nat) : Bool := 1 ≤ d.lc && d.lc ≤ 4 && scope.testBit (d.lc - 1)

/-- The result of naming slot n for an operation of a usage on one of some algorithms: 0 when it may run (R258, R269, R271). -/
def Dev.useSlot (d : Dev) (n : Nat) (algs : List Nat) (usage : Nat) : Nat :=
  let s := d.slot n
  if s.st = 0 then 4
  else if !chainValid d.key.slots 257 n then 5
  else if !algs.contains s.alg || s.usage != usage then 2
  else if !d.inScope s.scope then 3
  else 0

/-- A slot whose generation goes up by one and whose key is wiped. -/
def KeySlot.wiped (s : KeySlot) (st : Nat) : KeySlot := { st := st, gen := (s.gen + 1) % 2 ^ 24 }

/-- Fill slot n (R257, R259). -/
def Dev.fillSlot (d : Dev) (n attr origin parent : Nat) (key : Bytes) : Dev :=
  d.setSlot n { st := 1, alg := bitsOf attr 4 2, usage := bitsOf attr 6 5, origin := origin, scope := bitsOf attr 12 9,
                parent := parent, gen := ((d.slot n).gen + 1) % 2 ^ 24, key := key }

/-- An ATTR that no slot may take (R257, R258): a bit outside ALG, USAGE and LC_SCOPE, a reserved algorithm or a
combination marked not allowed. -/
def attrBad (attr : Nat) : Bool :=
  let alg := bitsOf attr 4 2
  let usage := bitsOf attr 6 5
  attr &&& (m32 - 0x1E7C) != 0 || 3 < alg || (alg == 2 && usage == 2) || (alg == 3 && (usage == 2 || usage == 3))

/-- n random bytes of the generator (R270), each a free value. -/
def Dev.random (d : Dev) (n : Nat) : Dev × Bytes := (d.tookFree n, d.freeBytes n)

/-- The ORPHANED slots (R276). -/
def Dev.orphaned (d : Dev) : Nat := (d.key.slots.filter fun e => e.2.st == 2).length

/-- invalidate(s) of R271, without the guard of R256. -/
def Dev.invalidate (d : Dev) (s : Nat) : Dev :=
  let old := d.key.slots
  let d := d.setSlot s ((d.slot s).wiped 0)
  let lost := (List.range 256).filter fun c =>
    4 ≤ c && c != s && (Assoc.get {} old c).st == 1 && hasAncestor old s 257 c
  let d := d.each lost fun d c => d.setSlot c { d.slot c with st := 2, key := [] }
  let gone := d.key.cache.any fun e => e.kek == s
  let d := { d with key := { d.key with cache := d.key.cache.filter fun e => e.kek != s } }
  d.iff (!lost.isEmpty || gone) (·.raise pKEY 0)

/-! ## Endpoint blobs and the cache (R263, R264) -/

/-- The address of blob n. -/
def Dev.blobAddr (d : Dev) (n : Nat) : Nat := d.rd64 KEY_BLOB_BASE_LO + 64 * n

/-- The endpoint key of blob n, when it unwraps (R263). -/
def Dev.unwrapBlob (d : Dev) (n : Nat) : Option CacheEntry :=
  let b := d.ldBytes (d.blobAddr n) 64
  let kek := leAt b 3 1
  let s := d.slot kek
  if n < d.rd KEY_BLOB_COUNT ∧ leAt b 0 2 = 1 ∧ leAt b 2 1 = 0 ∧ d.useSlot kek [1] 2 = 0 ∧ s.gen = leAt b 4 3 then
    match gcmOpen s.key (slice b 0x10 12) (b.take 32) (slice b 0x20 16) (slice b 0x30 16) with
    | none => none
    | some k => some { blob := n, kek := kek, kekGen := s.gen, addr := leAt b 8 8, key := k }
  else none

/-- Put an entry at the front of the cache; the least recently used one beyond 4,096 goes. -/
def Dev.cachePut (d : Dev) (e : CacheEntry) : Dev :=
  { d with key := { d.key with cache := (e :: d.key.cache.filter fun x => x.blob != e.blob).take 4096 } }

/-- The key of an endpoint's frame by its KEY_REF word and source address (R263, R264): a hit, a miss that unwraps, or
nothing, counted. -/
def Dev.endpointKey (d : Dev) (ref src : Nat) : Dev × Option Bytes :=
  if !ref.testBit 31 then (d, none)
  else
    let n := bitsOf ref 19 0
    match d.key.cache.find? (fun e => e.blob == n) with
    | some e =>
      let d := (d.bump KEY_CACHE_HIT).cachePut e
      if e.addr = src then (d, some e.key) else (d.bump KEY_UNWRAP_FAIL, none)
    | none =>
      let d := d.bump KEY_CACHE_MISS
      match d.unwrapBlob n with
      | none => (d.bump KEY_UNWRAP_FAIL, none)
      | some e => if e.addr = src then (d.cachePut e, some e.key) else (d.bump KEY_UNWRAP_FAIL, none)

/-- Write blob n with a key for an address under slot kek, and update its cache entry in place (R263, R264). -/
def Dev.writeBlob (d : Dev) (n kek addr : Nat) (key : Bytes) : Dev :=
  let s := d.slot kek
  let (d, nonce) := d.random 12
  let head := leBytes 2 1 ++ leBytes 1 0 ++ leBytes 1 kek ++ leBytes 4 s.gen ++ leBytes 8 addr ++ nonce ++ zeroBytes 4
  let d := d.stBytes (d.blobAddr n) (head ++ gcmSeal s.key nonce head key)
  { d with key := { d.key with cache := d.key.cache.map fun e =>
      if e.blob = n then { blob := n, kek := kek, kekGen := s.gen, addr := addr, key := key } else e } }

/-! ## Link keys (R266) -/

/-- Seal a datagram under RED_KEY.SEAL or KEY_LINK.SEAL; none when the slot may not. -/
def Dev.sealUnder (d : Dev) (slot : Nat) (nonce aad pt : Bytes) : Option Bytes :=
  if d.useSlot slot [0, 1] 0 = 0 then some (gcmSeal (d.slot slot).key nonce aad pt) else none

/-- Open a datagram under a slot. -/
def Dev.openUnder (d : Dev) (slot : Nat) (nonce aad ct tag : Bytes) : Option Bytes :=
  if d.useSlot slot [0, 1] 1 = 0 then gcmOpen (d.slot slot).key nonce aad ct tag else none

/-- Open an incoming datagram under OPEN, or again under OPEN_PREV, each success there counted (R266). -/
def Dev.linkOpen (d : Dev) (nonce aad ct tag : Bytes) : Dev × Option Bytes :=
  match d.openUnder (d.fld KEY_LINK 15 8) nonce aad ct tag with
  | some pt => (d, some pt)
  | none =>
    if d.fld KEY_LINK 23 16 = 0xFF then (d, none)
    else match d.openUnder (d.fld KEY_LINK 23 16) nonce aad ct tag with
      | some pt => (d.bump KEY_LINK_PREV, some pt)
      | none => (d, none)

/-- Seal an outgoing datagram under KEY_LINK.SEAL. -/
def Dev.linkSeal (d : Dev) (nonce aad pt : Bytes) : Option Bytes := d.sealUnder (d.fld KEY_LINK 7 0) nonce aad pt

/-! ## Signatures -/

/-- An ECDSA signature under a slot; none while the slot may not sign or random data is missing (R87, R270). -/
def Dev.signUnder (d : Dev) (slot : Nat) (digest : Bytes) : Option (Dev × Bytes) :=
  if d.useSlot slot [2] 0 = 0 ∧ ¬d.key.rngFault then
    let (d, k) := d.random 32
    some (d.bump KEY_SIGN_COUNT, ecdsaSign (d.slot slot).key digest (beNat k))
  else none

/-! ## Jobs (R267 to R271) -/

/-- A job as it stands in its ring (R267). -/
structure Job where
  op : Nat
  slot : Nat
  dest : Nat
  attr : Nat
  inAddr : Nat
  inLen : Nat
  outLen : Nat
  outAddr : Nat
  auxAddr : Nat
  auxLen : Nat
  deriving DecidableEq, Repr

/-- A job from its 64 bytes. -/
def Job.ofBytes (b : Bytes) : Job :=
  { op := leAt b 0 1, slot := leAt b 1 1, dest := leAt b 2 1, attr := leAt b 4 4, inAddr := leAt b 8 8,
    inLen := leAt b 0x10 4, outLen := leAt b 0x14 4, outAddr := leAt b 0x18 8, auxAddr := leAt b 0x20 8,
    auxLen := leAt b 0x28 4 }

/-- What a job comes to: its result (R269) and the bytes or items written. -/
structure JobEnd where
  dev : Dev
  result : Nat
  out : Nat := 0

/-- A job that ends without an effect. -/
def Dev.ends (d : Dev) (r : Nat) : JobEnd := { dev := d, result := r }

/-- The input and the auxiliary bytes of a job. -/
def Dev.jobIn (d : Dev) (j : Job) : Bytes := d.ldBytes j.inAddr j.inLen
def Dev.jobAux (d : Dev) (j : Job) : Bytes := d.ldBytes j.auxAddr j.auxLen

/-- Write a job's output: LENGTH when its buffer is too small, RANGE when the buffer leaves DRAM (DESIGN CHOICE). -/
def Dev.jobOut (d : Dev) (j : Job) (bs : Bytes) : JobEnd :=
  if j.outLen < bs.length then d.ends 11
  else if !inDram j.outAddr bs.length then d.ends 1
  else { dev := d.stBytes j.outAddr bs, result := 0, out := bs.length }

/-- The result that stops a job that fills slot n before its own tests (R256, R268): 0 when it may go on. -/
def Dev.fillTest (d : Dev) (n : Nat) (load : Bool) : Nat :=
  if n = 0 ∨ n = 1 ∨ n = 3 ∨ (n = 2 ∧ ¬load) then 8
  else if d.lc = 0 ∨ d.lc = 5 then 3
  else if (d.slot n).st ≠ 0 then 9
  else 0

/-- Continue a job unless a test has ended it. -/
def Dev.after (d : Dev) (r : Nat) (k : Unit → JobEnd) : JobEnd := if r = 0 then k () else d.ends r

/-- A random key of an algorithm: a P-256 scalar lies in 1 to n - 1. -/
def keyOfRandom (alg : Nat) (bs : Bytes) : Bytes :=
  if alg = 2 then beBytes 32 (beNat bs % (p256n - 1) + 1) else bs

/-- GENERATE (R268). -/
def Dev.jobGenerate (d : Dev) (j : Job) : JobEnd :=
  d.after (d.fillTest j.dest false) fun _ =>
    if attrBad j.attr then d.ends 1
    else if d.key.rngFault then d.ends 10
    else
      let alg := bitsOf j.attr 4 2
      let (d, bs) := d.random (algBytes alg)
      { dev := d.fillSlot j.dest j.attr 1 3 (keyOfRandom alg bs), result := 0 }

/-- Label and Context, split at the first zero byte (R268); none when a length is outside 1 to 32 (R260). -/
def labelContext (bs : Bytes) : Option (Bytes × Bytes) :=
  let label := bs.takeWhile (· != 0#8)
  let ctx := (bs.dropWhile (· != 0#8)).drop 1
  if 1 ≤ label.length ∧ label.length ≤ 32 ∧ 1 ≤ ctx.length ∧ ctx.length ≤ 32 then some (label, ctx) else none

/-- Fill DEST with a key derived from a PRF key (R260). -/
def Dev.derive (d : Dev) (j : Job) (prf lc : Bytes) (origin : Nat) : JobEnd :=
  match labelContext lc with
  | none => d.ends 11
  | some (label, ctx) =>
    let n := algBytes (bitsOf j.attr 4 2)
    { dev := d.fillSlot j.dest j.attr origin j.slot (kdf prf label ctx (8 * n)), result := 0 }

/-- DERIVE (R260, R268). -/
def Dev.jobDerive (d : Dev) (j : Job) : JobEnd :=
  d.after (d.fillTest j.dest false) fun _ =>
    if attrBad j.attr then d.ends 1
    else d.after (d.useSlot j.slot [0, 1] 3) fun _ =>
      if !inDram j.auxAddr j.auxLen then d.ends 1
      else d.derive j (d.slot j.slot).key (d.jobAux j) (d.slot j.slot).origin

/-- ECDH_DERIVE (R268): the peer key is the first 64 bytes of AUX, Label and Context the rest (DEDUCED). -/
def Dev.jobEcdhDerive (d : Dev) (j : Job) : JobEnd :=
  d.after (d.fillTest j.dest false) fun _ =>
    if attrBad j.attr then d.ends 1
    else d.after (d.useSlot j.slot [2] 3) fun _ =>
      if !inDram j.auxAddr j.auxLen then d.ends 1
      else if j.auxLen < 64 then d.ends 11
      else match ecdh (d.slot j.slot).key ((d.jobAux j).take 64) with
        | none => d.ends 1
        | some x => d.derive j x ((d.jobAux j).drop 64) 2

/-- IMPORT of a package (R261). -/
def Dev.jobImport (d : Dev) (j : Job) : JobEnd :=
  d.after (d.fillTest j.dest false) fun _ =>
    if !inDram j.inAddr 192 then d.ends 1
    else if j.inLen ≠ 192 then d.ends 11
    else
      let p := d.ldBytes j.inAddr 192
      let mode := leAt p 2 1
      let attr := leAt p 4 4
      if leAt p 0 2 ≠ 1 ∨ 1 < mode ∨ attrBad attr then d.ends 1
      else d.after (if mode = 0 then d.useSlot j.slot [2] 3 else d.useSlot j.slot [1] 2) fun _ =>
        if leAt p 8 8 ≠ d.rd64 RMC_EUI_LO then d.ends 7
        else
          let wrap : Option Bytes :=
            if mode = 1 then some (d.slot j.slot).key
            else (ecdh (d.slot j.slot).key (slice p 0x10 64)).map fun x =>
              kdf x (ascii "CRN-IMPORT") (slice p 8 8 ++ slice p 4 4) 256
          match wrap with
          | none => d.ends 1
          | some w =>
            match gcmOpen w (slice p 0x50 12) (p.take 0x60) (slice p 0x60 32) (slice p 0x80 16) with
            | none => d.ends 6
            | some k => { dev := d.fillSlot j.dest attr 2 j.slot (k.take (algBytes (bitsOf attr 4 2))), result := 0 }

/-- INVALIDATE (R268, R271). -/
def Dev.jobInvalidate (d : Dev) (j : Job) : JobEnd :=
  if j.dest < 4 then d.ends 8 else { dev := (d.invalidate j.dest).bump KEY_INVAL_COUNT, result := 0 }

/-- The plain text of a slot blob: the slot, its attribute word, its generation, its parent's generation and the key. The
layout is internal (R262); this one is the model's (DESIGN CHOICE). -/
def Dev.blobText (d : Dev) (n : Nat) : Bytes :=
  let s := d.slot n
  leBytes 4 n ++ leBytes 4 s.attr ++ leBytes 4 s.gen ++ leBytes 4 (d.slot s.parent).gen ++ padTo 32 s.key ++ zeroBytes 16

/-- SAVE (R256, R262, R268). -/
def Dev.jobSave (d : Dev) (j : Job) : JobEnd :=
  if j.dest = 0 ∨ j.dest = 1 ∨ j.dest = 3 then d.ends 8
  else if (d.slot j.dest).st ≠ 1 then d.ends 4
  else d.after (d.useSlot 0 [1] 2) fun _ =>
    if d.key.rngFault then d.ends 10
    else
      let (d, nonce) := d.random 12
      d.jobOut j (nonce ++ gcmSeal (d.slot 0).key nonce [] (d.blobText j.dest) ++ zeroBytes 36)

/-- LOAD (R262, R268). -/
def Dev.jobLoad (d : Dev) (j : Job) : JobEnd :=
  if !inDram j.inAddr 128 then d.ends 1
  else if j.inLen ≠ 128 then d.ends 11
  else
    let b := d.ldBytes j.inAddr 128
    d.after (d.useSlot 0 [1] 2) fun _ =>
      match gcmOpen (d.slot 0).key (b.take 12) [] (slice b 12 64) (slice b 76 16) with
      | none => d.ends 6
      | some p =>
        let n := leAt p 0 4 % 256
        let attr := leAt p 4 4
        let parent := bitsOf attr 23 16
        d.after (d.fillTest n true) fun _ =>
          if (d.slot parent).st ≠ 1 ∨ (d.slot parent).gen ≠ leAt p 12 4 then d.ends 5
          else { dev := d.setSlot n { st := 1, alg := bitsOf attr 4 2, usage := bitsOf attr 6 5, origin := bitsOf attr 8 7,
                                      scope := bitsOf attr 12 9, parent := parent, gen := leAt p 8 4 % 2 ^ 24,
                                      key := slice p 16 (algBytes (bitsOf attr 4 2)) }, result := 0 }

/-- The key check value of a slot (R273). -/
def KeySlot.kcv (s : KeySlot) : Bytes :=
  if s.alg = 2 then zeroBytes 32
  else if s.alg = 3 then hmac s.key []
  else cmac s.key (zeroBytes 16) ++ zeroBytes 16

/-- The signed part of the mason's mark of slot n with a verifier's nonce (R273). -/
def Dev.masonText (d : Dev) (n : Nat) (nonce : Bytes) : Bytes :=
  let s := d.slot n
  let e := chainEnd d.key.slots 257 n
  leBytes 2 1 ++ leBytes 1 d.lc ++ leBytes 1 n ++ leBytes 8 (d.rd64 RMC_EUI_LO) ++ leBytes 4 s.gen ++ leBytes 4 s.attr ++
  leBytes 1 (1 + 2 * b2n (e == 0 || e == 3 || n == 1)) ++ zeroBytes 3 ++ leBytes 8 d.ext ++ padTo 32 nonce ++
  (if s.alg = 2 then pubOf s.key else zeroBytes 64) ++ s.kcv ++ sha256 (pubOf (d.slot 1).key)

/-- ATTEST (R273). -/
def Dev.jobAttest (d : Dev) (j : Job) : JobEnd :=
  if (d.slot j.dest).st ≠ 1 then d.ends 4
  else if !inDram j.auxAddr j.auxLen then d.ends 1
  else if j.auxLen ≠ 32 ∨ j.outLen < 256 then d.ends 11
  else
    let t := d.masonText j.dest (d.jobAux j)
    d.after (d.useSlot 1 [2] 0) fun _ =>
      match d.signUnder 1 (sha256 t) with
      | none => d.ends 10
      | some (d, sig) => d.jobOut j (t ++ sig)

/-- PUBKEY (R268, R272). -/
def Dev.jobPubkey (d : Dev) (j : Job) : JobEnd :=
  let s := d.slot j.slot
  if s.st = 0 then d.ends 4
  else if !chainValid d.key.slots 257 j.slot then d.ends 5
  else if s.alg ≠ 2 then d.ends 2
  else
    let rec128 := leBytes 8 (d.rd64 RMC_EUI_LO) ++ zeroBytes 56 ++ beBytes 64 Config.vendorSig.toNat
    d.jobOut j (pubOf s.key ++ if j.slot = 1 then rec128 else [])

/-- SIGN (R268). -/
def Dev.jobSign (d : Dev) (j : Job) : JobEnd :=
  d.after (d.useSlot j.slot [2] 0) fun _ =>
    if !inDram j.inAddr j.inLen then d.ends 1
    else if j.inLen ≠ 32 then d.ends 11
    else match d.signUnder j.slot (d.jobIn j) with
      | none => d.ends 10
      | some (d, sig) => d.jobOut j sig

/-- VERIFY (R268). -/
def Dev.jobVerify (d : Dev) (j : Job) : JobEnd :=
  d.after (d.useSlot j.slot [2] 1) fun _ =>
    if !inDram j.inAddr j.inLen || !inDram j.auxAddr j.auxLen then d.ends 1
    else if j.inLen ≠ 32 ∨ j.auxLen ≠ 64 then d.ends 11
    else if ecdsaVerify (pubOf (d.slot j.slot).key) (d.jobIn j) (d.jobAux j) then d.ends 0 else d.ends 6

/-- AEAD_SEAL (R268). -/
def Dev.jobSeal (d : Dev) (j : Job) : JobEnd :=
  d.after (d.useSlot j.slot [0, 1] 0) fun _ =>
    if !inDram j.inAddr j.inLen || !inDram j.auxAddr j.auxLen then d.ends 1
    else if j.auxLen < 12 then d.ends 11
    else d.jobOut j (gcmSeal (d.slot j.slot).key ((d.jobAux j).take 12) ((d.jobAux j).drop 12) (d.jobIn j))

/-- AEAD_OPEN (R268): the tag follows the ciphertext. -/
def Dev.jobOpen (d : Dev) (j : Job) : JobEnd :=
  d.after (d.useSlot j.slot [0, 1] 1) fun _ =>
    if !inDram j.inAddr j.inLen || !inDram j.auxAddr j.auxLen then d.ends 1
    else if j.auxLen < 12 ∨ j.inLen < 16 then d.ends 11
    else
      let c := d.jobIn j
      match gcmOpen (d.slot j.slot).key ((d.jobAux j).take 12) ((d.jobAux j).drop 12) (c.take (j.inLen - 16))
        (c.drop (j.inLen - 16)) with
      | none => d.ends 6
      | some pt => d.jobOut j pt

/-- The MAC of a slot's algorithm. -/
def KeySlot.mac (s : KeySlot) (m : Bytes) : Bytes := if s.alg = 3 then hmac s.key m else cmac s.key m

/-- MAC_GEN and MAC_CHECK (R268). -/
def Dev.jobMacGen (d : Dev) (j : Job) : JobEnd :=
  d.after (d.useSlot j.slot [0, 1, 3] 0) fun _ =>
    if !inDram j.inAddr j.inLen then d.ends 1 else d.jobOut j ((d.slot j.slot).mac (d.jobIn j))
def Dev.jobMacCheck (d : Dev) (j : Job) : JobEnd :=
  d.after (d.useSlot j.slot [0, 1, 3] 1) fun _ =>
    if !inDram j.inAddr j.inLen || !inDram j.auxAddr j.auxLen then d.ends 1
    else
      let m := (d.slot j.slot).mac (d.jobIn j)
      if j.auxLen ≠ m.length then d.ends 11 else if d.jobAux j = m then d.ends 0 else d.ends 6

/-- HASH (R268). -/
def Dev.jobHash (d : Dev) (j : Job) : JobEnd :=
  if !inDram j.inAddr j.inLen then d.ends 1 else d.jobOut j (sha256 (d.jobIn j))

/-- Whether BLOB_KEK may wrap (R268, R271): 4 while it names none, 5 when its slot is no longer VALID. -/
def Dev.kekTest (d : Dev) : Nat :=
  let k := d.fld KEY_CFG 7 0
  if k = 0xFF then 4 else if (d.slot k).st ≠ 1 ∨ !chainValid d.key.slots 257 k then 5 else d.useSlot k [1] 2

/-- DERIVE_BLOB (R260, R268). -/
def Dev.jobDeriveBlob (d : Dev) (j : Job) : JobEnd :=
  d.after d.kekTest fun _ => d.after (d.useSlot j.slot [0, 1] 3) fun _ =>
    let n := j.inAddr % 2 ^ 20
    if d.rd KEY_BLOB_COUNT ≤ n ∨ !inDram j.auxAddr j.auxLen then d.ends 1
    else if j.auxLen ≠ 8 then d.ends 11
    else if d.key.rngFault then d.ends 10
    else
      let eui := d.jobAux j
      let k := kdf (d.slot j.slot).key (ascii "CRN-EP") eui 128
      { dev := d.writeBlob n (d.fld KEY_CFG 7 0) (leNat eui) k, result := 0, out := 1 }

/-- Rewrap n blobs from blob i; done counts the blobs rewrapped. -/
def rewrapFrom : Nat → Nat → Nat → Dev → JobEnd
  | 0, _, done, d => { dev := d, result := 0, out := done }
  | n + 1, i, done, d =>
    let kek := leNat (d.ldBytes (d.blobAddr i + 3) 1)
    let r := if (d.slot kek).st ≠ 1 ∨ !chainValid d.key.slots 257 kek then 5 else d.useSlot kek [1] 2
    if r ≠ 0 then { dev := d, result := r, out := done }
    else match d.unwrapBlob i with
      | none => { dev := d, result := 6, out := done }
      | some e => rewrapFrom n (i + 1) (done + 1) (d.writeBlob i (d.fld KEY_CFG 7 0) e.addr e.key)

/-- REWRAP (R268, R271). -/
def Dev.jobRewrap (d : Dev) (j : Job) : JobEnd :=
  d.after d.kekTest fun _ =>
    let n := j.inAddr % 2 ^ 20
    if d.rd KEY_BLOB_COUNT < n + j.inLen then d.ends 1
    else if d.key.rngFault then d.ends 10
    else rewrapFrom j.inLen n 0 d

/-- The address of an endpoint record (R56). -/
def Dev.recAddr (d : Dev) (idx : Nat) : Nat := d.rd64 ING_REC_BASE_LO + 384 * idx

/-- EP_REKEY (R265): the new KEY_REF, and the frame counters of the record cleared. -/
def Dev.jobEpRekey (d : Dev) (j : Job) : JobEnd :=
  let idx := j.inAddr % 2 ^ 25
  let blob := j.inLen % 2 ^ 20
  if d.rd ING_REG_HWM ≤ idx ∨ d.rd KEY_BLOB_COUNT ≤ blob then d.ends 1
  else
    let a := d.recAddr idx + rSECURITY
    { dev := (d.stBytes a (zeroBytes 12)).st (a + 12) 4 (blob + 2 ^ 31), result := 0 }

/-- RANDOM (R268): OUT_LEN bytes, up to 4,096. -/
def Dev.jobRandom (d : Dev) (j : Job) : JobEnd :=
  if 4096 < j.outLen then d.ends 11
  else if !inDram j.outAddr j.outLen then d.ends 1
  else if d.key.rngFault then d.ends 10
  else
    let (d, bs) := d.random j.outLen
    { dev := d.stBytes j.outAddr bs, result := 0, out := j.outLen }

/-- The operations that ring 0 alone may submit (R268). -/
def ringZeroOnly (op : Nat) : Bool := (1 ≤ op && op ≤ 6) || op == 16

/-- A job of P-256 operations, or of more than 64 KiB of data, asks leave of the cryptography class (R270). -/
def Dev.jobNeedsLeave (d : Dev) (j : Job) : Bool :=
  65536 < j.inLen && (11 ≤ j.op && j.op ≤ 15) ||
  j.op == 7 || j.op == 9 || j.op == 10 || j.op == 16 || (j.op == 1 && bitsOf j.attr 4 2 == 2) ||
  (j.op == 3 && leNat (d.ldBytes (j.inAddr + 2) 1) == 0) || (j.op == 18 && 1024 < j.inLen)

/-- The page's blob table or a ring would run past the end of DRAM (R276). A table of no blobs never does. -/
def keyCfgInvalid (d : Dev) : Bool :=
  let n := d.rd KEY_BLOB_COUNT
  (0 < n && pastEnd (d.rd64 KEY_BLOB_BASE_LO) (64 * n)) ||
  (List.range 2).any fun r =>
    let l := d.fld (KEY_JOB_CFG r) 4 0
    0 < l && pastEnd (d.rd64 (KEY_JOB_BASE_LO r)) (64 * 2 ^ l)

/-- Jobs waiting in ring r. -/
def Dev.jobCount (d : Dev) (r : Nat) : Nat := (d.rd (KEY_JOB_PROD r) + 2 ^ 32 - d.rd (KEY_JOB_CONS r)) % 2 ^ 32

/-- The address of the job at the consumer index of ring r. -/
def Dev.jobAddr (d : Dev) (r : Nat) : Nat :=
  d.rd64 (KEY_JOB_BASE_LO r) + 64 * (d.rd (KEY_JOB_CONS r) % 2 ^ d.fld (KEY_JOB_CFG r) 4 0)

/-- The requester role code of ring r. -/
def Dev.ringRole (d : Dev) (r : Nat) : Nat := if r = 0 then 0 else d.key.ring1Role

/-- Complete the job at an address (R267, R269): STATUS, OUT_LEN and DONE_T, then the consumer index; violations raise 39,
a parent 38. -/
def Dev.finishJob (e : JobEnd) (r a : Nat) (j : Job) : Dev :=
  let d := (e.dev.st (a + 3) 1 e.result).st (a + 0x14) 4 e.out
  let d := d.st (a + 0x30) 8 d.ext
  let d := d.wr (KEY_JOB_CONS r) (d.rd (KEY_JOB_CONS r) + 1)
  if e.result = 2 ∨ e.result = 3 ∨ e.result = 8 then
    let d := (d.bump KEY_USE_VIOL).wr KEY_VIOL_LAST
      ((if j.op = 4 ∨ j.op = 5 ∨ j.op = 7 then j.dest else j.slot) + 256 * j.op + 65536 * e.result + 1048576 * d.ringRole r)
    d.raise pKEY 1
  else if e.result = 5 then d.raise pKEY 0
  else d

/-- The crypto client of ring r. -/
abbrev cryptoClient (r : Nat) : Client := ⟨pKEY, r⟩

/-- KEY takes the job at the front of ring r when its operation is op, and runs it to its end by run; a job that must ask
leave waits for it (R270). A job of no operation ends with RANGE whatever the command (DESIGN CHOICE). -/
def Dev.runJob (d : Dev) (r op : Nat) (run : Dev → Job → JobEnd) : Dev :=
  if !d.starts pKEY || keyCfgInvalid d || d.fld (KEY_JOB_CFG r) 4 0 == 0 || d.jobCount r == 0 then d
  else
    let a := d.jobAddr r
    let j := Job.ofBytes (d.ldBytes a 64)
    if j.op = 0 ∨ 20 < j.op then Dev.finishJob (d.ends 1) r a j
    else if j.op ≠ op then d
    else if ringZeroOnly op ∧ r ≠ 0 then Dev.finishJob (d.ends 8) r a j
    else if d.jobNeedsLeave j then
      let d := d.request 10 (cryptoClient r)
      if d.granted 10 (cryptoClient r) then (Dev.finishJob (run d j) r a j).giveBack 10 (cryptoClient r) else d
    else Dev.finishJob (run d j) r a j

/-! ## Level 0 and the life cycle (R272, R274) -/

/-- KEY_L0_CMD.GO (R272). -/
def Dev.l0Go (d : Dev) : Dev :=
  let soon : Bool := match d.key.l0Last with | none => false | some t => !d.past t (msTicks 10)
  let d := { d with key := { d.key with l0Last := some d.time.ticks } }
  if soon ∨ d.lc = 0 ∨ d.lc = 5 then d.wr KEY_L0_STAT 4
  else { (d.wr KEY_L0_STAT 1) with key := { d.key with l0Busy := true } }

/-- The level-0 response (R272). -/
def Dev.l0Response (d : Dev) : Bytes :=
  cmac (beBytes 16 Config.attestSecret.toNat)
    ([0x4C#8, 0x30#8] ++ leBytes 8 (d.rd64 RMC_EUI_LO) ++ leBytes 1 d.lc ++
      (List.range 4).flatMap fun i => leBytes 4 (d.rd (KEY_L0_CHAL i)))

/-- The boot ROM stores the response. -/
def Dev.l0Done (d : Dev) : Dev :=
  if !d.key.l0Busy then d
  else
    let resp := d.l0Response
    let d := d.each (List.range 4) fun d i => d.wr (KEY_L0_RESP i) (leAt resp (4 * i) 4)
    { (d.wr KEY_L0_STAT 2) with key := { d.key with l0Busy := false } }

/-- Slot n destroyed by a life-cycle transition. -/
def Dev.destroySlot (d : Dev) (n : Nat) : Dev := d.setSlot n ((d.slot n).wiped 0)

/-- The cache emptied. -/
def Dev.dropCache (d : Dev) : Dev := { d with key := { d.key with cache := [] } }

/-- The contents of the blob table destroyed. -/
def Dev.dropBlobs (d : Dev) : Dev := d.stBytes (d.rd64 KEY_BLOB_BASE_LO) (zeroBytes (64 * d.rd KEY_BLOB_COUNT))

/-- Slot 0 under a custody class (R256). -/
def Dev.deriveSlot0 (d : Dev) (custody : Nat) : Dev :=
  let d := d.setSlot 0 { st := 1, alg := 1, usage := 2, origin := 0, scope := 0xF, parent := 0xFF,
                         key := beBytes 32 (Config.rootKek custody).toNat }
  { d with rst := { d.rst with custody := custody } }

/-- The custody class of a life-cycle state (R256). -/
def custodyOf (lc : Nat) : Nat := if lc ≤ 1 then 0 else if lc ≤ 3 then 1 else 2

/-- The slots a transition destroys (R274). -/
def Dev.doomedSlots (d : Dev) (from' dest : Nat) : List Nat :=
  (List.range 256).filter fun n =>
    (d.slot n).st != 0 &&
    (if dest = 5 then true
     else if n = 0 ∨ n = 1 ∨ n = 3 then false
     else if from' = 1 ∧ dest = 2 then 4 ≤ n
     else if dest = 4 then true
     else if from' = 2 ∧ dest = 3 then !(d.slot n).scope.testBit 2
     else false)

/-- Keys at the fire tick of a life-cycle transition (R256, R274). -/
def Dev.keyLifecycle (d : Dev) (from' dest : Nat) : Dev :=
  if from' = 0 ∧ dest = 1 then d
  else
    let doomed := d.doomedSlots from' dest
    let d := d.each doomed Dev.destroySlot
    let d := d.iff (dest == 5 || dest == 4 || (from' == 1 && dest == 2)) fun d => d.dropCache.dropBlobs
    let d := d.iff (dest != 5 && custodyOf from' != custodyOf dest) fun d => d.deriveSlot0 (custodyOf dest)
    let d := d.iff (from' == 1 && dest == 2) fun d =>
      let (d, bs) := d.random 32
      d.fillSlot 2 (0x6 * 512 + 3 * 32 + 2 * 4) 1 3 (keyOfRandom 2 bs)
    (d.wr KEY_LC_LAST (from' + 8 * dest + 256 * doomed.length)).raise pKEY 2

/-- Slots 0, 1 and 3 as the boot ROM derives and loads them (R275): none in SCRAPPED, no slot 1 in RAW. -/
def Dev.bootSlots (d : Dev) : Dev :=
  if d.lc = 5 then d
  else
    let d := d.deriveSlot0 (custodyOf d.lc)
    let d := d.setSlot 3 { st := 1, alg := 1, usage := 3, origin := 0, scope := 0xF, parent := 0xFF,
                           key := beBytes 32 Config.derivationRoot.toNat }
    if d.lc = 0 then d
    else d.setSlot 1 { st := 1, alg := 2, usage := 0, origin := 1, scope := 0xF, parent := 0xFF,
                       key := beBytes 32 (Config.identityKey.toNat % (p256n - 1) + 1) }

/-- Zeroisation at a tamper latch (R328): slots 4 to 255 and the cache wiped as by INVALIDATE. -/
def Dev.zeroise (d : Dev) : Dev :=
  ((d.each ((List.range 256).filter fun n => 4 ≤ n && (d.slot n).st != 0) Dev.invalidate)).dropCache

/-! ## The page (R276) -/

/-- The computed registers of the KEY page. -/
def keyRead (d : Dev) (off : Nat) : Option Nat :=
  match off with
  | 0x154 => some (d.jobCount 0)
  | 0x174 => some (d.jobCount 1)
  | 0x184 => some (d.slot (d.rd KEY_SLOT_SEL % 256)).attr
  | 0x188 => some (d.slot (d.rd KEY_SLOT_SEL % 256)).gen
  | 0x18C => some d.orphaned
  | 0x198 => some (b2n (!d.key.rngFault) + (d.rd KEY_RNG_STAT / 65536) * 65536)
  | 0x1B0 => some 0
  | _ => none

/-- What KEY makes of a write by a role. -/
def keyWrite (d : Dev) (role : ReqRole) (off v : Nat) : WriteRes :=
  match off with
  | 0x16C => .done (({ d with key := { d.key with ring1Role := roleCode role } }).wr (KEY_JOB_PROD 1) v)
  | 0x1B0 => .done (d.iff (v.testBit 0) Dev.l0Go)
  | _ => .plain

/-- The block bits of KEY PG_STAT (R276). -/
def keyPgStat (d : Dev) : Nat :=
  4 * b2n (keyCfgInvalid d) + 8 * b2n d.key.rngFault
    + 16 * b2n (d.queuedFor 10 (cryptoClient 0) || d.queuedFor 10 (cryptoClient 1))

/-- The generator's health test fails or passes (R270). -/
def Dev.rngHealth (d : Dev) (ok : Bool) : Dev :=
  let d := { d with key := { d.key with rngFault := !ok } }
  d.iff (!ok) fun d => d.wr KEY_RNG_STAT (65536 * satNat (d.rd KEY_RNG_STAT / 65536 + 1) 0xFFFF)

end Sys2Proof.Machine
end

