-- ==== Sys2Proof/Machine/NorOps.lean ====
section
/-!
DEFINITION. The NOR and what is signed in it (R17, R322, R323, R329 to R332): the controller, firmware images, microcode
packages, the boot-control record and the calibration overlay.
-/
namespace Sys2Proof.Machine

/-- The NOR window, and the number of bytes it shows. -/
abbrev norBase : Nat := 0xC0000000
abbrev norSize : Nat := 0x20000000

/-- n bytes of the NOR at an offset. -/
def Dev.norBytes (d : Dev) (off n : Nat) : Bytes := d.ldBytes (norBase + off) n

/-! ## The boot-control record (R323) -/

/-- SEQ, PREF and CAL_EN of one copy; none: its CRC-32C over the first 28 bytes fails. -/
def ctlCopy (b : Bytes) : Option (Nat × Nat × Bool) :=
  if crc32c (b.take 28) = leAt b 28 4 then some (leAt b 0 4, leAt b 4 1 % 2, leAt b 5 1 == 1) else none

/-- The record that is taken: the valid copy with the higher SEQ; PREF A and CAL_EN 0 with neither. -/
def takeCtl (a b : Option (Nat × Nat × Bool)) : Nat × Bool :=
  match a, b with
  | none, none => (0, false)
  | some x, none => x.2
  | none, some y => y.2
  | some x, some y => if x.1 < y.1 then y.2 else x.2

/-- PREF and CAL_EN. -/
def Dev.bootCtl (d : Dev) : Nat × Bool :=
  takeCtl (ctlCopy (d.norBytes 0x10000000 32)) (ctlCopy (d.norBytes 0x10010000 32))

/-! ## The overlay (R332) -/

/-- The overlay's sector. -/
def Dev.overlayBytes (d : Dev) : Bytes := d.norBytes 0x10020000 0x10000

/-- The overlay passes its format and CRC. -/
def Dev.overlayOk (d : Dev) : Bool := let b := d.overlayBytes; leAt b 0 1 == 1 && Config.overlayPasses b

/-! ## Signed images (R322) -/

/-- The fields of a 512-byte header. -/
structure ImgHead where
  format : Nat
  magic : Nat
  keyIdx : Nat
  svn : Nat
  version : Nat
  length : Nat
  secOff : Nat
  secLen : Nat
  appEntry : Nat
  ucOff : Nat
  ucLen : Nat
  pubkey : Bytes
  digest : Bytes
  sig : Bytes
  signed : Bytes
  deriving DecidableEq, Repr

def ImgHead.ofBytes (b : Bytes) : ImgHead :=
  { magic := leAt b 0 4, format := leAt b 4 2, keyIdx := leAt b 6 1, svn := leAt b 7 1, version := leAt b 8 4,
    length := leAt b 0xC 4, secOff := leAt b 0x10 4, secLen := leAt b 0x14 4, appEntry := leAt b 0x18 4,
    ucOff := leAt b 0x1C 4, ucLen := leAt b 0x20 4, pubkey := slice b 0x40 64, digest := slice b 0x80 32,
    sig := slice b 0xA0 64, signed := b.take 0xA0 }

/-- An application entry lies in the NOR window, core SRAM or DRAM. -/
def entryOk (a : Nat) : Bool :=
  match regionOf a with
  | .norWindow => true
  | .coreSram => true
  | .dram => true
  | _ => false

/-- The format of a header; a package holds an engine in APP_ENTRY and no security firmware (R331). -/
def ImgHead.formatOk (h : ImgHead) (package : Bool) : Bool :=
  h.magic == 0x384E5243 && h.format == 1 && decide (h.svn ≤ 63) && decide (1 ≤ h.length) && decide (h.length ≤ 134217216) &&
  (if package then h.secLen == 0 else decide (h.secLen ≤ 196608) && entryOk h.appEntry)

/-- The key of a header is acceptable in the present life-cycle state (R322). -/
def Dev.imgKeyOk (d : Dev) (h : ImgHead) : Bool :=
  if d.lc ≤ 1 then h.keyIdx == 0xFF && h.pubkey == beBytes 64 Config.factoryKey.toNat
  else
    decide (2 ≤ d.lc) && decide (d.lc ≤ 4) && decide (h.keyIdx ≤ 3) &&
    Assoc.get [] d.rst.fuse.owners h.keyIdx == sha256 h.pubkey && !d.rst.fuse.revoked.testBit h.keyIdx

/-- The result of verifying what stands at an address, in the order of R323: 0 OK, 1 FORMAT, 2 KEY, 3 SVN, 4 SIGNATURE, 5 DIGEST. -/
def Dev.imgResult (d : Dev) (a : Nat) (package : Bool) : Nat :=
  let h := ImgHead.ofBytes (d.ldBytes a 512)
  if !h.formatOk package then 1
  else if !d.imgKeyOk h then 2
  else if h.svn < d.rst.fuse.svn then 3
  else if !ecdsaVerify h.pubkey (sha256 h.signed) h.sig then 4
  else if sha256 (d.ldBytes (a + 512) h.length) ≠ h.digest then 5
  else 0

/-- Base of a firmware bank. -/
def bankBase (b : Nat) : Nat := norBase + 0x8000000 * b

/-! ## The controller (R329) -/

/-- The bank that booted, while firmware of the NOR runs. -/
def Dev.bootedBank (d : Dev) : Option Nat := if d.rst.phase = .running then some (d.rd SYS_BOOT_STAT % 2) else none

/-- An offset lies in a protected area. -/
def Dev.norProtected (d : Dev) (off : Nat) : Bool :=
  (match d.bootedBank with
   | none => false
   | some b => decide (off / 0x8000000 = b)) ||
  (decide (0x11000000 ≤ off) && decide (off < 0x1D000000))

def Dev.norBusy (d : Dev) : Bool := d.sys.norJob.isSome

/-- SYS_NOR_CMD: refused with a result, or begun. The offset is taken within the NOR (DESIGN CHOICE). -/
def Dev.norStart (d : Dev) (op : Nat) : Dev :=
  let off := d.rd SYS_NOR_ADDR % norSize
  let unit := if op = 1 then 0x10000 else 256
  if op ≠ 1 ∧ op ≠ 2 then d
  else if d.norProtected off then d.wr SYS_NOR_STAT (2 * 1)
  else if !d.granted 15 fwClient then d.wr SYS_NOR_STAT (2 * 2)
  else if off % unit ≠ 0 then d.wr SYS_NOR_STAT (2 * 3)
  else ({ d with sys := { d.sys with norJob := some (op, off, d.rd64 SYS_NOR_SRC_LO) } } : Dev).wr SYS_NOR_STAT 1

/-- 256 bytes to program; outside DRAM the manual gives none (free values). -/
def Dev.norSource (d : Dev) (a : Nat) : Bytes := if inDram a 256 then d.ldBytes a 256 else d.freeBytes 256

/-- NOR_OP_DONE: a programmed bit only goes from 1 to 0; a read-back that differs is FAIL. -/
def Dev.norDone (d : Dev) : Dev :=
  match d.sys.norJob with
  | none => d
  | some (op, off, src) =>
    let d := { d with sys := { d.sys with norJob := none } }
    let a := norBase + off
    if op = 1 then
      ({ d with mem := Cells.forget (fun x => decide (a ≤ x) && decide (x < a + 0x10000)) d.mem } : Dev).wr SYS_NOR_STAT 0
    else
      let want := d.norSource src
      let got := List.zipWith (· &&& ·) (d.ldBytes a 256) want
      let d := (d.tookFree 256).putBytes a got
      if got = want then d.wr SYS_NOR_STAT 0 else (d.wr SYS_NOR_STAT (2 * 4)).bump SYS_NOR_FAIL_COUNT

/-! ## Verification and microcode (R330, R331) -/

/-- SYS_IMG_CMD. -/
def Dev.imgStart (d : Dev) (v : Nat) : Dev :=
  if v.testBit 0 then ({ d with sys := { d.sys with imgJob := some (bitNat v 1) } } : Dev).wr SYS_IMG_STAT 1 else d

/-- IMG_VERIFY_DONE. -/
def Dev.imgDone (d : Dev) : Dev :=
  match d.sys.imgJob with
  | none => d
  | some b =>
    let r := d.imgResult (bankBase b) false
    let svn := d.ld (bankBase b + 7) 1 % 64
    ({ d with sys := { d.sys with imgJob := none } } : Dev).wr SYS_IMG_STAT (2 * r + 256 * svn)

/-- SYS_UC_CMD. -/
def Dev.ucStart (d : Dev) (v : Nat) : Dev :=
  if v.testBit 0 then
    ({ d with sys := { d.sys with ucJob := some (d.rd64 SYS_UC_ADDR_LO) } } : Dev).wr SYS_UC_STAT 1
  else d

/-- SYS_UC_VER of engine e and store s. -/
def ucVer (e s : Nat) : Nat := if s = 0 then SYS_UC_VER0 e else SYS_UC_VER1 e

/-- UC_LOAD_DONE: the package goes into the store that is not live. A header that is no package, an unacceptable key and a wrong
digest are SIGNATURE (DEDUCED). -/
def Dev.ucDone (d : Dev) : Dev :=
  match d.sys.ucJob with
  | none => d
  | some a =>
    let d := { d with sys := { d.sys with ucJob := none } }
    let h := ImgHead.ofBytes (d.ldBytes a 512)
    let r := d.imgResult a true
    let e := h.appEntry
    let stat := fun (r : Nat) => 2 * r + 256 * (e % 256)
    if r = 3 then d.wr SYS_UC_STAT (stat 2)
    else if r ≠ 0 then d.wr SYS_UC_STAT (stat 1)
    else if 8 ≤ e then d.wr SYS_UC_STAT (stat 3)
    else if (d.rd SYS_UC_SEL).testBit e != (d.mrd SYS_UC_SEL).testBit e then d.wr SYS_UC_STAT (stat 4)
    else (d.wr (ucVer e (1 - bitNat (d.rd SYS_UC_SEL) e)) h.version).wr SYS_UC_STAT (stat 0)

/-- The packages of a booted image go into store 0 of their engines (R323), one after the other. -/
def loadUcode : Nat → Nat → Nat → Dev → Dev
  | 0, _, _, d => d
  | fuel + 1, a, stop, d =>
    let h := ImgHead.ofBytes (d.ldBytes a 512)
    if stop ≤ a || h.magic != 0x384E5243 then d
    else loadUcode fuel (a + 512 + h.length) stop (d.iff (decide (h.appEntry < 8)) (·.wr (ucVer h.appEntry 0) h.version))

end Sys2Proof.Machine
end

