-- ==== Sys2Proof/Machine/PanelOps.lean ====
section
/-!
DEFINITION. The status panel driver (R340 to R349).
-/
namespace Sys2Proof.Machine

/-- HZ, COLS and ROWS that govern the panel. -/
def Dev.hz (d : Dev) : Nat := bitsOf (d.gov DSP_RATE) 6 0
def Dev.cols (d : Dev) : Nat := bitsOf (d.gov DSP_GEOM) 7 0
def Dev.rows (d : Dev) : Nat := bitsOf (d.gov DSP_GEOM) 13 8

/-- The frame period in cycles of 10 MHz: 10,000,000 / HZ rounded (R342). -/
def frameCycles (hz : Nat) : Nat := if hz = 0 then 0 else (2 * 10000000 + hz) / (2 * hz)

/-- P_max in 10 mW (R348), by the words that a reader gives. -/
def panelPmax (rd : Nat → Nat) : Nat :=
  let hz := bitsOf (rd DSP_RATE) 6 0
  if hz = 0 then 0
  else
    let n := 15 * 320 * bitsOf (rd DSP_ISEG) 7 0 * bitsOf (rd DSP_GEOM) 7 0 * bitsOf (rd (DSP_GREY 14)) 11 0 *
      bitsOf (rd DSP_GEOM) 13 8 * hz
    ceilDiv (n + 50000 * 255 * 10000000) (255 * 10000000 * 10000)

/-- The level of pixel x, y in a frame store (R343). -/
def pixelOf (store : Bytes) (x y : Nat) : Nat :=
  let b := (store.getD (64 * y + x / 2) 0#8).toNat
  if x % 2 = 0 then b % 16 else b / 16

/-- The levels that a frame drives, by common and segment, the remaps applied (R340, R343). -/
def Dev.panelFrame (d : Dev) : Bytes :=
  let g := d.gov DSP_GEOM
  (List.range d.rows).flatMap fun com => (List.range d.cols).map fun seg =>
    let x := if g.testBit 16 then d.cols - 1 - seg else seg
    let y := if g.testBit 17 then d.rows - 1 - com else com
    BitVec.ofNat 8 (pixelOf d.dsp.store x y)

/-- Staged words of the panel take effect: no frame runs under the old ones (R41). -/
def Dev.dspBoundary (d : Dev) : Dev := d.boundary (onPage pDSP)

/-- The switch-on sequence begins (R344). -/
def Dev.panelOn (d : Dev) : Dev :=
  { d.dspBoundary with dsp := { d.dsp with st := .rampUp, step := 0, faultRail := 0, toFault := false, frame := none } }

/-- The off sequence begins (R345); one that runs is not started again. -/
def Dev.panelOffStart (d : Dev) : Dev :=
  match d.dsp.st with
  | .rampUp => go d
  | .run => go d
  | _ => d
where
  /-- Scanning stops and the sequence runs. -/
  go (d : Dev) : Dev :=
    { d with dsp := { d.dsp with st := .rampDown, offTick := d.time.ticks, discharged := false, frame := none } }

/-- A switch-off trigger stands: the page is disabled, HZ is 0, or a flush runs. -/
def Dev.panelOffDue (d : Dev) : Bool := !d.en pDSP || d.hz == 0 || d.pwr.pfActive

/-- The discharge of DIS_MS has ended (R345, step 2). -/
def Dev.discharge (d : Dev) : Dev :=
  if d.dsp.discharged then d
  else ({ d with dsp := { d.dsp with discharged := true } } : Dev).bump DSP_DISCHARGE_COUNT

/-- PANEL_OFF: a trigger starts the sequence; in the sequence the discharge completes after DIS_MS. -/
def Dev.panelOff (d : Dev) : Dev :=
  if d.dsp.st = .rampDown then d.iff (d.past d.dsp.offTick (msTicks (bitsOf (d.gov DSP_PHASE) 19 16))) Dev.discharge
  else d.iff d.panelOffDue Dev.panelOffStart

/-- OFF_SEQUENCE_DONE: outputs clamped, PANEL_RST low, OFF or FAULT (R345, R347). -/
def Dev.panelOffDone (d : Dev) : Dev :=
  if d.dsp.st ≠ .rampDown then d
  else
    let d := d.discharge
    ({ d with dsp := { d.dsp with
      st := if d.dsp.toFault then .fault else .off, step := 0, rstHigh := false } } : Dev).dspBoundary

/-- PANEL_RAIL_UP: the next step of R344 completes; the fifth opens the first frame. -/
def Dev.panelRailUp (d : Dev) : Dev :=
  if d.dsp.st ≠ .rampUp ∨ !d.runs pDSP then d
  else if d.dsp.step < 4 then { d with dsp := { d.dsp with step := d.dsp.step + 1 } }
  else { d with dsp := { d.dsp with step := 5, rstHigh := true, st := .run } }

/-- DSP_FRAME_START: boundary-class words apply; with HZ 0 the panel goes off, else the named buffer is copied (R343, R345). -/
def Dev.frameStart (d : Dev) : Dev :=
  if d.dsp.st ≠ .run ∨ d.dsp.frame.isSome ∨ !d.runs pDSP then d
  else
    let d := d.dspBoundary
    if d.hz = 0 then d.panelOffStart
    else
      let sel := d.bit DSP_FB_SEL 0
      let base := if sel then d.rd64 DSP_FB1_BASE_LO else d.rd64 DSP_FB0_BASE_LO
      let d := { d with dsp := { d.dsp with store := d.ldBytes base 3072, shown := sel, frame := some d.time.ticks } }
      d.send .panel d.panelFrame

/-- DSP_FRAME_DONE: the frame period has passed: event 48 and the counts. -/
def Dev.frameDone (d : Dev) : Dev :=
  match d.dsp.frame with
  | none => d
  | some t =>
    if d.dsp.st ≠ .run ∨ !d.runs pDSP ∨ !d.past t (25 * frameCycles d.hz) then d
    else
      let d := { d with dsp := { d.dsp with frame := none } }
      ((d.wr DSP_FRAME_NO (d.rd DSP_FRAME_NO + 1)).bump DSP_FRAME_COUNT).raise pDSP 0

/-- The place of a rail in the order of R344, by its bit of FAULT_RAIL: VSEG 4, VCOMH 2, VCOML 1, VSNK 3. -/
def railStep (rail : Nat) : Nat :=
  match rail with
  | 0 => 4
  | 1 => 2
  | 2 => 1
  | _ => 3

/-- DSP_RAIL_FAULT: a rail that is up leaves its setpoint, or the one that comes up fails to (R347). -/
def Dev.railFault (d : Dev) (rail : Nat) : Dev :=
  let up : Bool := match d.dsp.st with
    | .run => true
    | .rampUp => decide (railStep rail ≤ d.dsp.step + 1)
    | _ => false
  if !up then d
  else
    let d := { d with dsp := { d.dsp with faultRail := d.dsp.faultRail ||| 2 ^ rail, toFault := true } }
    ((d.bump DSP_FAULT_COUNT).raise pDSP 1).panelOffStart

/-- RESTART: from FAULT only; with HZ 0 the panel stays dark (R347). -/
def Dev.dspRestart (d : Dev) : Dev :=
  if d.dsp.st ≠ .fault ∨ !d.runs pDSP then d
  else
    let d := d.dspBoundary
    if d.hz = 0 then { d with dsp := { d.dsp with st := .off, faultRail := 0, toFault := false } } else d.panelOn

/-! ## The page (R349) -/

def dspRead (d : Dev) (off : Nat) : Option Nat :=
  if off = 0x124 then some 0
  else if off = 0x180 then
    some (b2n d.dsp.shown + 2 * b2n (d.dsp.st == .run || (d.dsp.st == .rampUp && decide (4 ≤ d.dsp.step))) + 4 * d.dsp.faultRail)
  else if off = 0x188 then
    some (if d.dsp.st = .off ∨ d.dsp.st = .fault then 0 else satNat (panelPmax d.gov) 0xFFFF)
  else none

def dspWrite (d : Dev) (off v : Nat) : WriteRes :=
  if off = 0x124 then .done (d.iff (v.testBit 0) Dev.dspRestart) else .plain

def PanelState.code : PanelState → Nat
  | .off => 0
  | .rampUp => 1
  | .run => 2
  | .rampDown => 3
  | .fault => 4

def dspPgStat (d : Dev) : Nat := 4 * d.dsp.st.code
def dspBusy (d : Dev) : Bool := d.dsp.st == .rampUp || d.dsp.st == .run || d.dsp.st == .rampDown

/-- A fire: with the panel dark there is no frame to wait for; HZ from 0 to non-zero switches on (R344). -/
def dspFired (old d : Dev) : Dev :=
  match d.dsp.st with
  | .off =>
    let was := bitsOf (old.rd DSP_RATE) 6 0
    let d := d.dspBoundary
    if was = 0 ∧ d.hz ≠ 0 ∧ d.en pDSP then d.panelOn else d
  | .fault => d.dspBoundary
  | _ => d

/-- A soft reset: the outputs are clamped, the panel is dark (R346). -/
def dspReset (d : Dev) : Dev := { d with dsp := {} }

end Sys2Proof.Machine
end

