-- ==== Sys2Proof/Machine/TimOps.lean ====
section
/-!
DEFINITION. The time base, its rate and steps, the servo, the clock class, the compare and capture channels, the transmit
time-stamps and the RTC (R236 to R255).
-/
namespace Sys2Proof.Machine

/-! ## Rate (R237) -/

/-- 4.0 ns per tick in 32.32. -/
abbrev nomInc : Nat := 4 * 2 ^ 32

/-- ppb as units of 2^-32 ns per tick, rounded down (R237; the rounding is DEDUCED from "always lies within"). -/
def ppbUnits (n : Nat) : Nat := n * nomInc / 1000000000

/-- Signed ppb as units, rounded towards zero. -/
def ppbUnitsInt (i : Int) : Int := if i < 0 then -(ppbUnits i.natAbs : Int) else (ppbUnits i.natAbs : Int)

/-- The rate in force. -/
def Dev.inc (d : Dev) : Nat := d.rd64 TIM_INC_LO

/-- Store a rate, clamped; CLAMPED tells (R237). -/
def Dev.storeInc (d : Dev) (raw : Int) : Dev :=
  let c : Int := ppbUnits (d.rd TIM_CLAMP)
  let v := clampInt raw (nomInc - c) (nomInc + c)
  let d := d.wr64 TIM_INC_LO v.toNat
  { d with time := { d.time with clamped := decide (v ≠ raw) } }

/-! ## Class and uncertainty (R251, R252) -/

/-- The SYNCED value of TIM_UNC. -/
def Dev.syncedUnc (d : Dev) : Nat :=
  d.rd TIM_UNC_SYNC + (if d.timSrc = 1 then d.rd TIM_REF_UNC else 0)

/-- Growth of the uncertainty at TIM_HOLD_PPB over a number of ticks, in ns. -/
def Dev.uncGrowth (d : Dev) (ticks : Nat) : Nat := d.rd TIM_HOLD_PPB * (ticks * 4) / 1000000000

/-- TIM_UNC (R252), before saturation. -/
def Dev.uncRaw (d : Dev) : Nat :=
  match d.time.cls with
  | .invalid => m32
  | .synced => d.syncedUnc
  | _ => d.time.uncBase + d.uncGrowth (d.time.ticks - d.time.uncTick)

/-- TIM_UNC. -/
def Dev.unc (d : Dev) : Nat := satNat d.uncRaw m32

/-- Move the class; TIM_UNC outside SYNCED grows from base since a tick. Leaving INVALID starts the loss timer (R250). -/
def Dev.setClass (d : Dev) (c : ClockClass) (base since : Nat) (byLock : Bool := false) : Dev :=
  let start := if d.time.cls = .invalid ∧ c ≠ .invalid then d.time.ticks else d.time.lossTick
  Dev.noteClass { d with time := { d.time with cls := c, uncBase := base, uncTick := since, holdByLock := byLock, lossTick := start } }

/-- T_UNC of a stamp (R244): a port term plus TIM_UNC, saturating. -/
def Dev.stampUnc (d : Dev) (port : Nat) : Nat := satNat (port + d.unc) m32

/-! ## RTC (R253) -/

/-- Nanoseconds as RTC counts, and back. -/
def nsToRtc (ns : Nat) : Nat := ns * 2 ^ 15 / 1000000000
def rtcToNs (n : Nat) : Nat := n * 1000000000 / 2 ^ 15

/-- The RTC count now, at the oscillator's nominal rate. -/
def Dev.rtcNow (d : Dev) : Nat := d.time.rtcCount + nsToRtc ((d.time.ticks - d.time.rtcTick) * 4)

/-- Copy the time base and TIM_UNC to the RTC. -/
def Dev.rtcCopy (d : Dev) : Dev :=
  { d with time := { d.time with
    rtcValid := true, rtcCount := nsToRtc d.ext, rtcTick := d.time.ticks,
    rtcCopyCount := nsToRtc d.ext, rtcCopyUnc := d.unc } }

/-- Start the time base from the RTC at a count the RTC has reached (R253, R251). -/
def Dev.rtcStart (d : Dev) (count : Nat) : Dev :=
  if d.time.rtcValid then
    let past := rtcToNs (count - d.time.rtcCopyCount)
    let unc := d.time.rtcCopyUnc + ceilDiv (past * 150) 1000000 + 30518
    let ns := rtcToNs count
    { d with time := { d.time with
      acc := (ns % 2 ^ 32) * 2 ^ 32, wrap := (ns / 2 ^ 32) % 2 ^ 32, cls := .rtcOnly,
      rtcCount := count, rtcTick := d.time.ticks,
      uncBase := unc, uncTick := d.time.ticks, holdByLock := false, lossTick := d.time.ticks } }
  else { d with time := { d.time with acc := 0, wrap := 0, cls := .invalid, lossTick := d.time.ticks } }

/-- Event 8 TIM_WRAP, and the RTC copy made at it (R238, R253). -/
def Dev.wrapEvent (d : Dev) : Dev :=
  let d := d.raise pTIM 0
  d.iff (d.time.cls == .synced || d.time.cls == .holdover) Dev.rtcCopy

/-- TIM_WRAP: a tick has carried into TIM_WRAP (R238). -/
def Dev.wrapDue (d : Dev) : Dev :=
  if d.time.wrapPend then ({ d with time := { d.time with wrapPend := false } } : Dev).wrapEvent else d

/-! ## Compare channels (R240 to R242) -/

/-- Compare channel n. -/
def Dev.cmp (d : Dev) (n : Nat) : CmpCh := d.time.cmps.getD n {}

/-- Replace compare channel n. -/
def Dev.setCmp (d : Dev) (n : Nat) (c : CmpCh) : Dev :=
  { d with time := { d.time with cmps := d.time.cmps.set n c } }

/-- Channel n follows the FORERUNNER convention. -/
def Dev.cmpFore (d : Dev) (n : Nat) : Bool := d.bit (TIM_CMP_CFG n) 0

/-- The target of channel n as an extended time: the register pair, or the FORERUNNER's taken at arming (R241). -/
def Dev.cmpTarget (d : Dev) (n : Nat) : Int :=
  if d.cmpFore n then (d.cmp n).fore else ((d.rd (TIM_CMP_WRAP n) * 2 ^ 32 + d.rd (TIM_CMP_NS n) : Nat) : Int)

/-- The extended time nearest to now whose low 32 bits are a FORERUNNER target (R241). -/
def Dev.foreAt (d : Dev) (ns : Nat) : Int :=
  (d.ext : Int) + sext 32 (ns + 2 ^ 32 - d.ext % 2 ^ 32)

/-- Channel n has reached its target. -/
def Dev.cmpReached (d : Dev) (n : Nat) : Bool := decide (d.cmpTarget n ≤ (d.ext : Int))

/-- Whole periods a match adds to the target: one, or after a forward step as many as pass the present time (R242). -/
def cmpAdvance (target now : Int) (period : Nat) (stepped : Bool) : Int :=
  let one := target + period
  if stepped ∧ one ≤ now then target + ((now - target) / period + 1) * period else one

/-- Channel n matches (R240, R242). -/
def Dev.cmpMatch (d : Dev) (n : Nat) : Dev :=
  let c := d.cmp n
  let cfg := d.rd (TIM_CMP_CFG n)
  let target := d.cmpTarget n
  let d := d.wr TIM_CMP_PEND (d.rd TIM_CMP_PEND ||| 2 ^ n)
  let d := d.iff (cfg.testBit 2) (·.raise pTIM 1)
  let pps := d.rd TIM_PPS_OUT
  let d := if pps.testBit 4 ∧ bitsOf pps 3 0 = n then
      { d with time := { d.time with ppsEnd := some (d.time.ticks + msTicks (bitsOf pps 15 8)) } } else d
  let period := d.rd (TIM_CMP_PERIOD n)
  let c := { c with fired := true, pulseEnd := some (d.time.ticks + usTicks 1), stepped := false }
  if cfg.testBit 1 ∧ period ≠ 0 then
    let t := cmpAdvance target d.ext period (d.cmp n).stepped
    let d := d.wr (TIM_CMP_NS n) (enc 32 t)
    if cfg.testBit 0 then d.setCmp n { c with fore := d.foreAt (enc 32 t) }
    else (d.wr (TIM_CMP_WRAP n) (enc 64 t / 2 ^ 32)).setCmp n c
  else d.setCmp n { c with armed := false }

/-- TIM_CMP: channel n matches when it is armed and its target is reached (R240). -/
def Dev.cmpDue (d : Dev) (n : Nat) : Dev :=
  if d.en pTIM && (d.cmp n).armed && d.cmpReached n then d.cmpMatch n else d

/-- CMP_OUT_PULSE_END: the 1 µs pulse of channel n is over (R240). -/
def Dev.cmpPulseEnd (d : Dev) (n : Nat) : Dev :=
  match (d.cmp n).pulseEnd with
  | some t => if d.past t 0 then d.setCmp n { d.cmp n with pulseEnd := none } else d
  | none => d

/-- PPS_PULSE_END: the pulse of WIDTH ms is over (R242). -/
def Dev.ppsPulseEnd (d : Dev) : Dev :=
  match d.time.ppsEnd with
  | some t => if d.past t 0 then { d with time := { d.time with ppsEnd := none } } else d
  | none => d

/-- ARM of channel n (R240): a target already reached matches at once and is LATE. -/
def Dev.cmpArm (d : Dev) (n : Nat) : Dev :=
  let d := d.setCmp n { d.cmp n with
    armed := true, fired := false, ovf := false, late := false, stepped := false, fore := d.foreAt (d.rd (TIM_CMP_NS n)) }
  if d.cmpReached n then
    let d := (d.setCmp n { d.cmp n with late := true }).bump TIM_CMP_LATE
    d.iff (d.en pTIM) (·.cmpMatch n)
  else d

/-- DISARM of channel n. -/
def Dev.cmpDisarm (d : Dev) (n : Nat) : Dev := d.setCmp n { d.cmp n with armed := false, stepped := false }

/-- A write of TIM_CMP_CTRL (R240): ARM and DISARM together are ignored. -/
def Dev.cmpCtrl (d : Dev) (n v : Nat) : Dev :=
  if v.testBit 0 ∧ v.testBit 1 then d
  else if v.testBit 0 then d.cmpArm n
  else if v.testBit 1 then d.cmpDisarm n
  else d

/-- What a step from old does to channel n (R48 note j, R242). -/
def Dev.cmpStepped (d : Dev) (old : Nat) (delta : Int) (n : Nat) : Dev :=
  let c := d.cmp n
  if !c.armed then d
  else if d.cmpFore n ∧ delta < -2147483647 then d.setCmp n { c with armed := false, ovf := true }
  else if (old : Int) < d.cmpTarget n ∧ d.cmpTarget n ≤ (d.ext : Int) then d.setCmp n { c with stepped := true }
  else d

/-! ## Steps (R239) -/

/-- Step the extended time; false beside it: a step below 0 was refused (R239). -/
def Dev.stepTime (d : Dev) (delta : Int) : Dev × Bool :=
  let old := d.ext
  if (old : Int) + delta < 0 then (d.bump TIM_STEP_REJ, false)
  else
    let new := ((old : Int) + delta).toNat
    let d := { d with time := { d.time with
      acc := (new % 2 ^ 32) * 2 ^ 32 + d.time.acc % 2 ^ 32, wrap := (new / 2 ^ 32) % 2 ^ 32 } }
    let d := d.bump TIM_STEP_COUNT
    let d := d.wr TIM_LAST_STEP (enc 32 (clampInt delta (-2147483647) 2147483647))
    let d := (d.raise pTIM 3).noteStep old new
    let d := d.iff (decide (old / 2 ^ 32 < new / 2 ^ 32)) Dev.wrapEvent
    (d.each (List.range 16) (fun d n => d.cmpStepped old delta n), true)

/-- A step by firmware: INVALID becomes RTC_ONLY with TIM_UNC = TIM_HOLD_MAX (R251). -/
def Dev.firmwareStep (d : Dev) (delta : Int) : Dev :=
  let (d, ok) := d.stepTime delta
  if ok ∧ d.time.cls = .invalid then d.setClass .rtcOnly (d.rd TIM_HOLD_MAX) d.time.ticks else d

/-! ## The servo (R248 to R252) -/

/-- The integral term of the rate. -/
def Dev.integTerm (d : Dev) : Int := (d.time.integ * 2 ^ 32) / (2 ^ d.fld TIM_SERVO 13 8 : Nat)

/-- The bias term: only in ASSISTED. -/
def Dev.biasTerm (d : Dev) : Int := if d.timMode = 2 then ppbUnitsInt (sext 32 (d.rd TIM_BIAS)) else 0

/-- LOCKED becomes v; the class follows (R251). -/
def Dev.setLocked (d : Dev) (v : Bool) (off : Int) : Dev :=
  let was := d.time.locked
  let d := { d with time := { d.time with locked := v } }
  if v && !was && (d.time.cls == .rtcOnly || d.time.cls == .holdover) then d.setClass .synced 0 d.time.ticks
  else if !v && was && d.time.cls == .synced then
    d.setClass .holdover (d.syncedUnc + off.natAbs) d.time.ticks true
  else d

/-- servo_sample of R249. -/
def Dev.servo (d : Dev) (off : Int) : Dev :=
  let assisted := d.timMode = 2
  let assist := d.rd TIM_ASSIST
  if d.rd TIM_STEP_THR < off.natAbs ∧ d.bit TIM_CORR 4 ∧ ¬(assisted ∧ assist.testBit 1) then
    let d := (d.stepTime (-off)).1
    let d := { d with time := { d.time with integ := 0, run := 0, locked := false } }
    d.iff (d.time.cls == .synced) (fun d => d.setClass .holdover d.syncedUnc d.time.ticks)
  else
    let integ := if assisted ∧ assist.testBit 0 then d.time.integ
      else clampInt (d.time.integ + off) (-2147483648) 2147483647
    let d := { d with time := { d.time with integ := integ } }
    let p := (off * 2 ^ 32) / (2 ^ d.fld TIM_SERVO 5 0 : Nat)
    let d := d.storeInc ((nomInc : Int) - p - d.integTerm + d.biasTerm)
    let d : Dev :=
      if off.natAbs ≤ d.fld TIM_LOCK 15 0 then
        let run := d.time.run + 1
        let d := { d with time := { d.time with run := run } }
        d.iff (decide (d.fld TIM_LOCK 23 16 ≤ run)) (fun d => d.setLocked true off)
      else Dev.setLocked { d with time := { d.time with run := 0 } } false off
    if d.time.cls = .holdover ∧ d.time.holdByLock then
      d.setClass .holdover (d.syncedUnc + off.natAbs) d.time.ticks true
    else d

/-- An offset sample arrives (R248, R250, R251): ignored in INVALID, only counted in MANUAL. -/
def Dev.offsetSample (d : Dev) (off : Int) : Dev :=
  if d.time.cls = .invalid ∨ ¬d.en pTIM then d
  else
    let d := d.bump TIM_SAMPLE_COUNT
    if d.timMode = 0 then d
    else
      let d := d.wr TIM_LAST_OFFSET (enc 32 (clampInt off (-2147483648) 2147483647))
      let d := d.wr64 TIM_LAST_SYNC_LO d.ext
      let d := { d with time := { d.time with
        masterLost := false, lossTick := d.time.ticks, sampleTick := d.time.ticks, syncUnc := d.syncedUnc,
        refCls := if d.timSrc = 1 then
          (match d.fld TIM_REF 1 0 with | 0 => .synced | 1 => .holdover | 2 => .rtcOnly | _ => .invalid) else d.time.refCls } }
      (d.servo off).noteClass

/-- An accepted firmware write of TIM_INC or TIM_CLASS_SET in MANUAL restarts the loss timer and ends a loss (R250). -/
def Dev.manualKick (d : Dev) : Dev :=
  { d with time := { d.time with
    lossTick := d.time.ticks, sampleTick := d.time.ticks, syncUnc := d.syncedUnc, masterLost := false } }

/-- TIM_INC written in MANUAL (R237). -/
def Dev.writeInc (d : Dev) (v : Nat) : Dev := (d.storeInc v).manualKick

/-- TIM_CLASS_SET written in MANUAL (R251). -/
def Dev.classSet (d : Dev) (c : Nat) : Dev :=
  if c % 4 = 3 ∨ d.time.cls = .invalid then d
  else
    let base := d.unc
    let new : ClockClass := if c % 4 = 0 then .synced else if c % 4 = 1 then .holdover else .rtcOnly
    (d.iff (new != d.time.cls) (fun d => d.setClass new base d.time.ticks)).manualKick

/-- The master is lost (R250): event 10 once, LOCKED cleared, holdover at the last rate without its proportional part. -/
def Dev.masterLoss (d : Dev) : Dev :=
  if d.time.masterLost ∨ d.time.cls = .invalid ∨ ¬d.past d.time.lossTick (msTicks (d.rd TIM_MASTER_TO)) ∨ ¬d.en pTIM then d
  else
    let d := { d with time := { d.time with masterLost := true, locked := false, run := 0 } }
    let d := d.raise pTIM 2
    let d := d.iff (d.timMode != 0) (fun d => d.storeInc ((nomInc : Int) - d.integTerm + d.biasTerm))
    d.iff (d.time.cls == .synced) (fun d => d.setClass .holdover d.time.syncUnc d.time.sampleTick)

/-- TIM_UNC has passed TIM_HOLD_MAX in HOLDOVER (R251). -/
def Dev.holdMax (d : Dev) : Dev :=
  if d.time.cls = .holdover ∧ d.rd TIM_HOLD_MAX < d.uncRaw then d.setClass .rtcOnly d.uncRaw d.time.ticks else d

/-! ## Captures (R243) -/

/-- Store a capture in channel n. -/
def Dev.capStore (d : Dev) (n ext : Nat) : Dev :=
  let d := d.wr (TIM_CAP_NS n) ext
  let d := d.wr (TIM_CAP_WRAP n) (ext / 2 ^ 32)
  d.wr (TIM_CAP_SEQ n) (d.rd (TIM_CAP_SEQ n) + 1)

/-- Channel n is enabled on a source. -/
def Dev.capOn (d : Dev) (n src : Nat) : Bool := d.bit (TIM_CAP_CFG n) 4 && d.fld (TIM_CAP_CFG n) 2 0 == src

/-- A capture of every channel enabled on a source, with its edge where the source has one. -/
def Dev.capture (d : Dev) (src ext : Nat) (falling : Option Bool) : Dev :=
  d.each (List.range 8) fun d n =>
    d.iff (d.capOn n src && (match falling with | none => true | some f => d.bit (TIM_CAP_CFG n) 3 == f))
      (·.capStore n ext)

/-- The offset of a PPS edge in (-5*10^8, 5*10^8] (R248). -/
def ppsOffset (edge phase : Nat) : Int :=
  let m := ((edge : Int) - phase) % 1000000000
  if 500000000 < m then m - 1000000000 else m

/-- A PPS_IN edge at a capture channel feeds the servo (R248). -/
def Dev.ppsSample (d : Dev) (edge : Nat) : Dev :=
  if d.timSrc ≠ 0 then d
  else
    let prev := d.time.ppsPrev
    let d := { d with time := { d.time with ppsPrev := some edge } }
    match prev with
    | none => d
    | some p =>
      if p + 900000000 ≤ edge ∧ edge ≤ p + 1100000000 then d.offsetSample (ppsOffset edge (d.rd TIM_PPS_PHASE))
      else d.bump TIM_SAMPLE_REJ

/-- PIN_FUNC and PIN_ARG of land n (R49). -/
def Dev.pinFunc (d : Dev) (n : Nat) : Nat := bitsOf (d.rd (PIN_FUNC (n / 8))) (4 * (n % 8) + 3) (4 * (n % 8))
def Dev.pinArg (d : Dev) (n : Nat) : Nat := bitsOf (d.rd (PIN_ARG (n / 4))) (8 * (n % 4) + 7) (8 * (n % 4))

/-- A capture edge (R243). -/
def Dev.captureEdge (d : Dev) (e : CapEdge) : Dev :=
  if ¬d.en pTIM then d
  else match e with
    | .gpio land rising =>
      let a := d.pinArg land
      let n := bitsOf a 2 0
      d.iff (d.pinFunc land == 2 && decide (land.val < 16) && (a.testBit 4 != rising) && d.capOn n 0) (·.capStore n d.ext)
    | .ppsIn rising =>
      let edge := d.ext - d.rd TIM_LAT_PPS
      let hit := (List.range 8).any fun n => d.capOn n 1 && (d.bit (TIM_CAP_CFG n) 3 == !rising)
      (d.capture 1 edge (some (!rising))).iff hit (·.ppsSample edge)
    | .zcIn rising => d.capture 2 d.ext (some (!rising))
    | .radio => d.capture 3 d.ext none
    | .plc => d.capture 4 d.ext none

/-! ## Transmit time-stamps (R245) -/

/-- A transmit stamp enters the FIFO, or is dropped and counted when it is full. -/
def Dev.txStamp (d : Dev) (ext port id seq : Nat) : Dev :=
  if d.time.txts.length < 16 then
    { d with time := { d.time with
      txts := d.time.txts ++ [{ ext := ext, info := port + 256 * (id % 256) + 65536 * (seq % 65536) }] } }
  else d.bump TIM_TXTS_DROP

/-- POP (R245). -/
def Dev.txPop (d : Dev) : Dev := { d with time := { d.time with txts := d.time.txts.tail } }

/-! ## The page (R254, R255) -/

/-- TIM_STAT. -/
def Dev.timStat (d : Dev) : Nat :=
  d.cls.code + 4 * b2n d.time.locked + 8 * b2n d.time.masterLost + 16 * b2n d.time.rtcValid + 32 * b2n d.time.clamped

/-- The channel of an offset in the compare block, and the register in it. -/
def cmpSlot (off : Nat) : Option (Nat × Nat) :=
  if 0x200 ≤ off ∧ off < 0x400 then some ((off - 0x200) / 0x20, (off - 0x200) % 0x20) else none

/-- The computed registers of the TIM page; none: the stored word. -/
def timRead (d : Dev) (off : Nat) : Option Nat :=
  match off with
  | 0x100 => some (d.ext % 2 ^ 32)
  | 0x104 => some (d.time.wrap % 2 ^ 32)
  | 0x110 => some 0
  | 0x114 => some 0
  | 0x160 => some 0
  | 0x164 => some 0
  | 0x168 => some 0
  | 0x180 => some d.timStat
  | 0x184 => some d.unc
  | 0x18C => some (enc 32 (roundAway (((d.inc : Int) - nomInc) * 1000000000) nomInc))
  | 0x198 => some (if d.time.rtcValid then d.rtcNow % 2 ^ 32 else 0)
  | 0x19C => some (if d.time.rtcValid then d.rtcNow / 2 ^ 32 % 2 ^ 32 else 0)
  | 0x1B0 => some d.time.txts.length
  | 0x1B4 => some (match d.time.txts with | [] => 0 | t :: _ => t.ext % 2 ^ 32)
  | 0x1B8 => some (match d.time.txts with | [] => 0 | t :: _ => t.ext / 2 ^ 32 % 2 ^ 32)
  | 0x1BC => some (match d.time.txts with | [] => 0 | t :: _ => t.info)
  | 0x1C0 => some 0
  | _ =>
    match cmpSlot off with
    | some (_, 0x10) => some 0
    | some (n, 0x14) =>
      let c := d.cmp n
      some (b2n c.armed + 2 * b2n c.fired + 4 * b2n c.ovf + 8 * b2n c.late)
    | _ => none

/-- Offsets whose read latches the registers at the offsets beside it (R236, R243, R245). -/
def timLatches (off : Nat) : List Nat :=
  if off = 0x100 then [0x104]
  else if off = 0x1B4 then [0x1B8, 0x1BC]
  else if 0x400 ≤ off ∧ off < 0x480 ∧ off % 16 = 4 then [off + 4, off + 8]
  else []

/-- What TIM makes of a write at an offset. A 64-bit pair comes with its high half; v is the whole value. -/
def timWrite (d : Dev) (off v : Nat) : WriteRes :=
  match off with
  | 0x108 => if d.timMode ≠ 0 then .refuse ENGINE_BUSY else .plain
  | 0x10C => if d.timMode ≠ 0 then .refuse ENGINE_BUSY else .done (d.writeInc v)
  | 0x114 => .done (d.firmwareStep (sext 64 v))
  | 0x160 => if d.timMode ≠ 0 then .refuse ENGINE_BUSY else .done (d.classSet v)
  | 0x168 => .done (d.iff (d.timSrc == 1) (fun d => d.offsetSample (sext 64 v)))
  | 0x1C0 => .done (d.iff (v.testBit 0) Dev.txPop)
  | _ =>
    match cmpSlot off with
    | some (n, r) =>
      if r = 0x10 then .done (d.cmpCtrl n v)
      else if (r = 4 ∨ r = 8 ∨ r = 0xC) ∧ (d.cmp n).armed then .refuse ENGINE_BUSY
      else .plain
    | none => .plain

/-- The block bits of TIM PG_STAT (R254). -/
def timPgStat (d : Dev) : Nat :=
  4 * d.cls.code + 16 * b2n d.time.locked + 32 * b2n d.time.masterLost + 64 * b2n d.time.rtcValid

/-- What a fire does in TIM beyond the copy: old is the device before it, changed the live addresses it changed. -/
def timFired (old d : Dev) (changed : List Nat) : Dev :=
  let ch := fun a => changed.contains a
  let d := d.iff (ch TIM_CLAMP) fun d =>
    let c := ppbUnits (d.rd TIM_CLAMP)
    d.iff (decide (d.inc < nomInc - c) || decide (nomInc + c < d.inc)) (fun d => d.storeInc d.inc)
  let d := d.iff (ch TIM_HOLD_PPB && (d.time.cls == .holdover || d.time.cls == .rtcOnly)) fun d =>
    { d with time := { d.time with uncBase := old.uncRaw, uncTick := d.time.ticks } }
  let d := d.iff (ch TIM_CORR) fun d => { d with time := { d.time with lossTick := d.time.ticks } }
  let d := d.iff ((ch TIM_CORR && d.fld TIM_CORR 3 2 == 0)
      || (List.range 8).any fun n => ch (TIM_CAP_CFG n) && d.capOn n 1 && !old.capOn n 1)
    fun d => { d with time := { d.time with ppsPrev := none } }
  d.each (List.range 16) fun d n =>
    d.iff ((d.cmp n).armed && ch (TIM_CMP_CFG n) && (old.cmpFore n != d.cmpFore n)) (·.cmpDisarm n)

/-- The internal state of TIM after SOFT_RST (R389): the time base, the class, TIM_UNC and the RTC run on. -/
def timSoftReset (old d : Dev) : Dev :=
  let base := if old.time.cls = .synced then 0 else old.uncRaw
  let d := (d.wr TIM_LAST_SYNC_LO (old.rd TIM_LAST_SYNC_LO)).wr TIM_LAST_SYNC_HI (old.rd TIM_LAST_SYNC_HI)
  { d with time := { d.time with
    locked := false, clamped := false, integ := 0, run := 0, uncBase := base, uncTick := d.time.ticks,
    masterLost := false, lossTick := d.time.ticks, ppsPrev := none, cmps := List.replicate 16 {}, ppsEnd := none,
    txts := [] } }

/-- One tick of the TIME clock (R236): the accumulator takes TIM_INC while the root runs; a carry goes to TIM_WRAP. -/
def Dev.tick (d : Dev) (rootRuns : Bool) : Dev :=
  let d := { d with time := { d.time with ticks := d.time.ticks + 1 } }
  if rootRuns then
    let a := d.time.acc + d.inc
    if a < 2 ^ 64 then { d with time := { d.time with acc := a } }
    else { d with time := { d.time with
      acc := a - 2 ^ 64, wrap := (d.time.wrap + 1) % 2 ^ 32, wrapPend := true } }
  else d

end Sys2Proof.Machine
end

