-- ==== Sys2Proof/Machine/PinOps.lean ====
section
/-!
DEFINITION. Events as the EVT page shows them (R29), the GPIO lands (R49, R50, R388) and the test access port (R368, R369).
-/
namespace Sys2Proof.Machine

/-! ## Pending events (R29) -/

/-- PG_EVT_RAW of a page: the fault log, and the level of event 58; every other event is an instant. -/
def Dev.evtRaw (d : Dev) (p : Nat) : Nat :=
  2 ^ 31 * b2n (d.rd (PG_FAULT_INFO p) != 0) + (if p = pPIN then b2n (d.rd PIN_EDGE_PEND != 0) else 0)

/-- Event n stands in a word that every page has. -/
def evtIn (word : Nat → Nat) (n : Nat) : Bool :=
  (List.range 32).any fun p =>
    if n = 55 then (word p).testBit 31
    else (List.range (pageEvents p).length).any fun b => (pageEvents p).getD b 55 == n && (word p).testBit b

/-- Event n is pending. -/
def Dev.evtPending (d : Dev) (n : Nat) : Bool := evtIn (fun p => d.rd (PG_EVT_PEND p)) n

/-- EVT_RAW and EVT_PEND of events base to base + 31. -/
def evtWord (word : Nat → Nat) (base : Nat) : Nat :=
  (List.range 32).foldl (fun s n => s + 2 ^ n * b2n (evtIn word (base + n))) 0

/-- The targets an event is delivered to now: application cores 0 to 3, 5 the security core (R29). -/
def Dev.deliveredTo (d : Dev) (n : Nat) : List Nat :=
  let en := if n < 32 then (d.rd EVT_EN0).testBit n else (d.rd EVT_EN1).testBit (n - 32)
  let r := bitsOf (d.rd (EVT_ROUTE (n / 8))) (4 * (n % 8) + 3) (4 * (n % 8))
  if !(en && d.evtPending n) then []
  else if 1 ≤ r ∧ r ≤ 4 then [r - 1]
  else if r = 5 then [5]
  else if r = 6 then [0, 1, 2, 3]
  else []

/-- The interrupt line of a target. -/
def Dev.irq (d : Dev) (target : Nat) : Bool := (List.range 64).any fun n => (d.deliveredTo n).contains target

/-- Pending bits cleared in a page; clearing bit 31 clears its fault log; an event whose level still stands is pending at once. -/
def Dev.clearPend (d : Dev) (p v : Nat) : Dev :=
  let d := d.wr (PG_EVT_PEND p) (d.rd (PG_EVT_PEND p) - (d.rd (PG_EVT_PEND p) &&& v))
  let d := d.iff (v.testBit 31) (·.clearFault p)
  d.iff (p == pPIN && d.rd PIN_EDGE_PEND != 0 && d.bit (PG_EVT_EN pPIN) 0) (·.setPend pPIN 0)

/-- Pending bits cleared through the EVT page. -/
def Dev.clearEvt (d : Dev) (base v : Nat) : Dev :=
  d.each (List.range 32) fun d p =>
    let bits := (List.range 31).foldl (fun s b =>
      match (pageEvents p)[b]? with
      | some n => if base ≤ n ∧ n < base + 32 ∧ v.testBit (n - base) then s + 2 ^ b else s
      | none => s) 0
    let bits := if base ≤ 55 ∧ 55 < base + 32 ∧ v.testBit (55 - base) then bits + 2 ^ 31 else bits
    if bits = 0 then d else d.clearPend p bits

/-! ## Test access port (R368, R369) -/

/-- The logic is held: EXTEST, CLAMP or HIGHZ is selected. -/
def JtagSt.holds (j : JtagSt) : Bool := j.instr == .extest || j.instr == .clamp || j.instr == .highz

/-- What the boundary register drives on land k of its list, while it drives lands at all: nothing, or a level; on the open-drain
lands PFW_N (k = 50) and ACTIVE_N (k = 54) a 1 leaves the land released. -/
def JtagSt.cell (j : JtagSt) (k : Nat) : Option Bool :=
  if !(j.instr == .extest || j.instr == .clamp) || !j.boundary.testBit (3 * k + 2) then none
  else if (k == 50 || k == 54) && j.boundary.testBit (3 * k + 1) then none
  else some (j.boundary.testBit (3 * k + 1))

/-! ## The GPIO lands -/

/-- FBn_DE is high: the port sends its request. -/
def Dev.fbSends (d : Dev) (n : Nat) : Bool :=
  match (Assoc.get {} d.fb n : FbSt).trans with
  | none => false
  | some t => decide (d.time.ticks < t.sent)

/-- What the device drives on GPIO land n (R49, R50); none: high impedance. -/
def Dev.gpioOut (d : Dev) (n : Nat) : Option Bool :=
  if d.jtag.holds then d.jtag.cell n
  else
    let a := d.pinArg n
    match d.pinFunc n with
    | 0 => if d.bit PIN_DIR n then some (d.bit PIN_OUT n) else none
    | 1 => if d.en pTIM then some ((d.cmp (a % 16)).pulseEnd.isSome != a.testBit 4) else none
    | 3 => some (d.evtPending (a % 64) != a.testBit 6)
    | 4 => if d.en pRAD then some d.rad.ant else none
    | 5 => if d.en pPLC then some (d.bit PLC_TX_LEVEL (8 + (n - 17))) else none
    | 6 => if d.en pDSP then some d.dsp.rstHigh else none
    | 7 => if d.en (pFB (n - 20)) then some (d.fbSends (n - 20)) else none
    | 8 => some true
    | _ => none

/-- The pull of land n. -/
def Dev.gpioPull (d : Dev) (n : Nat) : Nat :=
  if n < 16 then bitsOf (d.rd PIN_PULL_LO) (2 * n + 1) (2 * n) else bitsOf (d.rd PIN_PULL_HI) (2 * (n - 16) + 1) (2 * (n - 16))

/-- The level on GPIO land n: the device's, the outside's, the pull's; a floating land has a free level (R388). -/
def Dev.gpioLevel (d : Dev) (n : Nat) : Bool :=
  match d.gpioOut n with
  | some v => v
  | none =>
    if d.pin.driven.testBit n then d.pin.level.testBit n
    else match d.gpioPull n with
      | 1 => false
      | 2 => true
      | _ => (Config.freeWord d.free).toNat.testBit n

/-- PIN_IN. -/
def Dev.pinIn (d : Dev) : Nat := (List.range 32).foldl (fun s n => s + 2 ^ n * b2n (d.gpioLevel n)) 0

/-- The level of land n has stood for 20 ns: an enabled edge sets its PIN_EDGE_PEND bit and event 58 (R49). -/
def Dev.latchEdge (d : Dev) (n : Nat) : Dev :=
  let v := d.gpioLevel n
  let was := d.pin.seen.testBit n
  let d := { d with pin := { d.pin with seen := setBit d.pin.seen n v }, free := d.free + 1 }
  if v != was && d.bit (if v then PIN_EDGE_RISE else PIN_EDGE_FALL) n && d.en pPIN then
    (d.wr PIN_EDGE_PEND (setBit (d.rd PIN_EDGE_PEND) n true)).raise pPIN 0
  else d

/-- GPIO_EDGE: the outside drives a land with a level, or lets it go, and the level stands. -/
def Dev.gpioEdge (d : Dev) (n : Nat) (level : Option Bool) : Dev :=
  let p := d.pin
  ({ d with pin := { p with
    driven := setBit p.driven n level.isSome, level := setBit p.level n (level.getD false) } } : Dev).latchEdge n

def pinRead (d : Dev) (off : Nat) : Option Nat := if off = 0x140 then some d.pinIn else none

end Sys2Proof.Machine
end

