-- ==== Sys2Proof/Machine/LaneOps.lean ====
section
/-!
DEFINITION. Lanes by their kind (R197, R223), and the IPv6/UDP datagrams that the ring's lanes carry (R68, R223, R224).
-/
namespace Sys2Proof.Machine

/-- The live lanes that a LN_CFG word admits, ascending. -/
def Dev.lanesBy (d : Dev) (f : Nat → Bool) : List Nat :=
  d.reg.live.filterMap fun e =>
    match regionOf e.1 with
    | .lane n 0 false => if f e.2.toNat then some n else none
    | _ => none

/-- The lane of a LINK and KIND that is enabled (R197). -/
def Dev.laneOf (d : Dev) (link kind : Nat) : Option Nat :=
  (d.lanesBy fun w => bitsOf w 3 0 == link && bitsOf w 7 4 == kind && w.testBit 8).head?

/-- LINK, KIND and EN of a lane. -/
def Dev.laneLink (d : Dev) (n : Nat) : Nat := d.fld (LN_CFG n) 3 0
def Dev.laneKind (d : Dev) (n : Nat) : Nat := d.fld (LN_CFG n) 7 4
def Dev.laneOn (d : Dev) (n : Nat) : Bool := d.bit (LN_CFG n) 8

/-- The ring's BATCH lane. -/
def Dev.batchLane (d : Dev) : Option Nat := d.laneOf 3 2

/-- The IPv6 address of ring identifier s: the prefix in network order, and the identifier (R223). -/
def Dev.ringAddr (d : Dev) (s : Nat) : Bytes := leBytes 8 (d.rd64 TRK_PREFIX_LO) ++ beBytes 8 s

/-- The identifier of the present master (R223). -/
abbrev masterIid : Nat := 0x400

/-- An IPv6/UDP datagram of this station to ring identifier s and a UDP port, the checksum left 0 for TRK to insert (R223).
The manual gives no traffic class, flow label, hop limit or source port: free values. -/
def Dev.datagram (d : Dev) (s port : Nat) (payload : Bytes) : Dev × Bytes :=
  let f := d.freeVal
  let g := (d.tookFree).freeVal
  let d := d.tookFree 2
  let len := payload.length + 8
  (d, beBytes 4 (6 * 2 ^ 28 + f % 2 ^ 28) ++ beBytes 2 len ++ beBytes 1 17 ++ beBytes 1 g ++
    d.ringAddr (d.fld TRK_STN 9 0) ++ d.ringAddr s ++
    beBytes 2 (g / 256) ++ beBytes 2 port ++ beBytes 2 len ++ zeroBytes 2 ++ payload)

/-- The UDP destination port and the payload of an IPv6/UDP datagram. -/
def udpPort (b : Bytes) : Nat := beAt b 42 2
def udpPayload (b : Bytes) : Bytes := b.drop 48

/-- The producer code of an engine in a frame's descriptor (R175). -/
abbrev codeING : Nat := 8
abbrev codeDST : Nat := 9
abbrev codeTRK : Nat := 10

/-- An engine writes a frame into the transmit queue of its lane, which it owns by the rule of R170; true beside the device
when the frame went in. -/
def Dev.enginePush (d : Dev) (code lane : Nat) (data : Bytes) : Dev × Bool :=
  match d.touchLane lane code 0 with
  | (d, some _) => (d, false)
  | (d, none) => d.pushFrame (2 * lane) code data d.ext 0

/-- An engine takes the oldest frame of its lane's receive queue. -/
def Dev.engineFront (d : Dev) (lane : Nat) : Option Frame :=
  if d.laneFenced lane || !d.en pQRY then none else d.front? (2 * lane + 1)

/-- The link-block page by a lane's LINK. -/
def linkPage (link : Nat) : Option Nat :=
  match link with
  | 1 => some pRMC
  | 2 => some pPLC
  | 3 => some pTRK0
  | 5 => some pUPL
  | 6 => some (pFB 0)
  | 7 => some (pFB 1)
  | 8 => some (pFB 2)
  | 9 => some (pFB 3)
  | _ => none

end Sys2Proof.Machine
end

