-- ==== Sys2Proof/Machine/DstOps.lean ====
section
/-!
DEFINITION. The distribution engine (R146 to R157, R384): campaign slots, their targets, pacing, reports and supersession.
-/
namespace Sys2Proof.Machine

/-- States of a slot (R151) and of a target (R150). -/
abbrev dsIDLE : Nat := 0
abbrev dsDELIVER : Nat := 1
abbrev dsREADY : Nat := 2
abbrev dsACTIVATING : Nat := 3
abbrev dsHALTED : Nat := 4
abbrev dsDONE : Nat := 5
abbrev dsABORTED : Nat := 6
abbrev dsSUPERSEDED : Nat := 7
abbrev dsROLLING : Nat := 8
abbrev tPENDING : Nat := 0
abbrev tRECEIVING : Nat := 1
abbrev tCOMPLETE : Nat := 2
abbrev tACTIVE : Nat := 3
abbrev tFAILED : Nat := 4
abbrev tREFUSED : Nat := 5
abbrev tUNREACHABLE : Nat := 6
abbrev tCANCELLED : Nat := 7
abbrev tROLLED : Nat := 8

/-- Message types (R148). -/
abbrev msgANNOUNCE : Nat := 1
abbrev msgBLOCK : Nat := 2
abbrev msgREPORT : Nat := 3
abbrev msgACTIVATE : Nat := 4
abbrev msgCANCEL : Nat := 5
abbrev msgROLLBACK : Nat := 6

/-- Slot c, and its replacement. -/
def Dev.dslot (d : Dev) (c : Nat) : DstSlot := Assoc.get {} d.dst.slots c
def Dev.setDslot (d : Dev) (c : Nat) (s : DstSlot) : Dev := { d with dst := { d.dst with slots := Assoc.put d.dst.slots c s } }

/-! ## The header and the target array (R146, R149) -/

def DstSlot.kind (s : DstSlot) : Nat := leAt s.header 2 1
def DstSlot.imageId (s : DstSlot) : Nat := leAt s.header 4 4
def DstSlot.length (s : DstSlot) : Nat := leAt s.header 8 4
def DstSlot.version (s : DstSlot) : Nat := leAt s.header 0x10 4
def DstSlot.tAct (s : DstSlot) : Nat := leAt s.header 0x18 4

/-- TARIFF is KIND 1 and FIRMWARE KIND 2. -/
def DstSlot.tariff (s : DstSlot) : Bool := s.kind == 1

/-- Blocks of the payload, and the bytes of a bitmap. -/
def DstSlot.blocks (s : DstSlot) : Nat := ceilDiv s.length 256
def DstSlot.mapBytes (s : DstSlot) : Nat := ceilDiv s.blocks 128 * 16

/-- Targets of slot c. -/
def Dev.dCount (d : Dev) (c : Nat) : Nat := d.fld (DST_C_TGT_COUNT c) 16 0

/-- The numbers of the targets of slot c; none while it is IDLE. -/
def Dev.dTargets (d : Dev) (c : Nat) : List Nat := if (d.dslot c).st = dsIDLE then [] else List.range (d.dCount c)

/-- Address of target k of slot c. -/
def Dev.dAddr (d : Dev) (c k : Nat) : Nat := d.rd64 (DST_C_TGT_LO c) + (16 + (d.dslot c).mapBytes) * k

/-- INDEX and TSTATE of a target, and a new TSTATE. -/
def Dev.dIndex (d : Dev) (c k : Nat) : Nat := bitsOf (d.ld (d.dAddr c k) 4) 24 0
def Dev.dState (d : Dev) (c k : Nat) : Nat := bitsOf (d.ld (d.dAddr c k) 4) 28 25
def Dev.setDState (d : Dev) (c k t : Nat) : Dev := d.st (d.dAddr c k) 4 (setFld (d.ld (d.dAddr c k) 4) 28 25 t)

/-- The bitmap of a target as a number, and its replacement with MISSING. -/
def Dev.dMap (d : Dev) (c k : Nat) : Nat := d.ld (d.dAddr c k + 16) (d.dslot c).mapBytes
def Dev.setDMap (d : Dev) (c k m : Nat) : Dev :=
  let n := ((List.range (d.dslot c).blocks).filter m.testBit).length
  (d.st (d.dAddr c k + 4) 2 (satNat n 0xFFFF)).st (d.dAddr c k + 16) (d.dslot c).mapBytes m

/-- The bitmap with every block missing. -/
def DstSlot.fullMap (s : DstSlot) : Nat := 2 ^ s.blocks - 1

/-- Targets of slot c in one of some states. -/
def Dev.dIn (d : Dev) (c : Nat) (sts : List Nat) : List Nat := (d.dTargets c).filter fun k => sts.contains (d.dState c k)

/-- The EUI-64 of a target's lead endpoint. -/
def Dev.dEui (d : Dev) (c k : Nat) : Nat := d.recGet (d.dIndex c k) rADDR 8

/-! ## Slot states -/

/-- Event 36 (bit 0) or 37 (bit 1) of slot c, and its bit of DST_DONE_MAP. -/
def Dev.dstDone (d : Dev) (c b : Nat) : Dev := (d.raise pDST b).wr DST_DONE_MAP (d.rd DST_DONE_MAP ||| 2 ^ c)

/-- A control message is queued to some targets. -/
def Dev.queueCtl (d : Dev) (c typ : Nat) (ks : List Nat) : Dev :=
  let s := d.dslot c
  d.setDslot c { s with ctl := ks.foldl (fun l k => Assoc.put l k typ) s.ctl }

/-- The queued messages of a type are dropped. -/
def Dev.dropCtl (d : Dev) (c typ : Nat) : Dev :=
  let s := d.dslot c
  d.setDslot c { s with ctl := s.ctl.filter fun e => e.2 != typ }

/-- Slot c enters a state. -/
def Dev.dEnter (d : Dev) (c st : Nat) : Dev := d.setDslot c { d.dslot c with st := st }

/-- The result of a slot command. -/
def Dev.dResult (d : Dev) (c r : Nat) : Dev := d.setDslot c { d.dslot c with result := r }

/-- In ACTIVATING (R151): FAILED at the limit halts; no target left COMPLETE ends the campaign. -/
def Dev.activating (d : Dev) (c : Nat) : Dev :=
  let limit := d.fld (DST_C_FAIL_LIMIT c) 16 0
  if (d.dslot c).st ≠ dsACTIVATING then d
  else if limit ≠ 0 ∧ limit ≤ (d.dIn c [tFAILED]).length then ((d.dropCtl c msgACTIVATE).dEnter c dsHALTED).dstDone c 0
  else if (d.dIn c [tCOMPLETE]).isEmpty then (d.dEnter c dsDONE).dstDone c 0
  else d

/-- DELIVER ends (R151): FIRMWARE goes to READY, TARIFF to ACTIVATING, where each COMPLETE target has its ACTIVATE. -/
def Dev.delivered (d : Dev) (c : Nat) : Dev :=
  let s := d.dslot c
  if s.tariff then
    let ks := (d.dIn c [tCOMPLETE]).filter fun k => !s.asked.any fun e => e.1 == k
    ((d.queueCtl c msgACTIVATE ks).dEnter c dsACTIVATING).activating c
  else d.dEnter c dsREADY

/-- What follows a target's change of state (R151). -/
def Dev.dProgress (d : Dev) (c : Nat) : Dev :=
  let st := (d.dslot c).st
  if st = dsDELIVER then d.iff (d.dIn c [tPENDING, tRECEIVING]).isEmpty (·.delivered c)
  else if st = dsACTIVATING then d.activating c
  else if st = dsROLLING then
    d.iff ((d.dslot c).rolled.all fun k => [tROLLED, tFAILED, tUNREACHABLE].contains (d.dState c k)) fun d =>
      (d.dEnter c dsDONE).dstDone c 0
  else d

/-- A campaign stops (R151): CANCEL to its RECEIVING and COMPLETE targets, and no other message. -/
def Dev.dStop (d : Dev) (c st b : Nat) : Dev :=
  let d := d.setDslot c { d.dslot c with ctl := [] }
  ((d.queueCtl c msgCANCEL (d.dIn c [tRECEIVING, tCOMPLETE])).dEnter c st).dstDone c b

/-- A CANCEL of slot c is still due (R151). -/
def Dev.cancelDue (d : Dev) (c : Nat) : Bool :=
  decide (d.ext < d.rd64 (DST_C_DEADLINE_LO c)) && !(d.dIn c [tRECEIVING, tCOMPLETE]).isEmpty

/-- Changes of slot c and of bytes of its target array go to the armature (R292). -/
def Dev.mirrorDst (d : Dev) (c addr n : Nat) : Dev := d.mirror (.dstState c (d.dslot c) addr (d.ldBytes addr n))

/-- The whole target array of slot c goes with them. -/
def Dev.mirrorSlot (d : Dev) (c : Nat) : Dev :=
  d.mirrorDst c (d.rd64 (DST_C_TGT_LO c)) ((16 + (d.dslot c).mapBytes) * (d.dTargets c).length)

/-! ## START (R147, R152, R154) -/

/-- The publisher key. -/
def Dev.publisher (d : Dev) : Bytes := (List.range 16).flatMap fun i => leBytes 4 (d.rd (DST_PUBKEY i))

/-- A header field out of range or a reserved encoding (R146). -/
def headerBad (h : Bytes) : Bool :=
  let kind := leAt h 2 1
  let len := leAt h 8 4
  leAt h 0 2 != 1 || !(kind == 1 || kind == 2) || len == 0 || decide (4194304 < len) || leAt h 0x1C 4 != 0 ||
  (kind == 1 && len != 8192) || (kind == 2 && (leAt h 3 1 != 0 || leAt h 0x18 4 != 0))

/-- Results of a slot command (R152, R151). -/
abbrev drSIGNATURE : Nat := 1
abbrev drRANGE : Nat := 2
abbrev drROLE : Nat := 3
abbrev drSTATE : Nat := 4
abbrev drKIND : Nat := 5
abbrev drACT_TIME : Nat := 6

/-- UTC ns of an extended time. -/
def Dev.utcOf (d : Dev) (t : Nat) : Int := t + sext 64 (d.rd64 TRF_UTC_BASE_LO)

/-- The first failing check of START with link bits (R152), 0 for none. -/
def Dev.startCheck (d : Dev) (c links : Nat) : Nat :=
  let img := d.rd64 (DST_C_IMG_LO c)
  let tgt := d.rd64 (DST_C_TGT_LO c)
  let n := d.dCount c
  let h := d.ldBytes img 128
  let s : DstSlot := { header := h }
  if (d.dslot c).st ≠ dsIDLE then drSTATE
  else if d.role = 1 ∨ (links.testBit 0 ∧ ¬(d.en pRAD ∧ d.en pRMC)) ∨ (links.testBit 1 ∧ ¬d.en pPLC) then drROLE
  else if img % 256 ≠ 0 ∨ tgt % 16 ≠ 0 ∨ n = 0 ∨ 65536 < n ∨ ¬inDram img 128 then drRANGE
  else if headerBad h || !inDram img (128 + s.length) || !inDram tgt (n * (16 + s.mapBytes)) then drRANGE
  else if s.tariff ∧ d.ld (img + 128) 2 ≠ 1 then drRANGE
  else if sha256 (d.ldBytes (img + 128) s.length) ≠ slice h 0x20 32 then drSIGNATURE
  else if !ecdsaVerify d.publisher (sha256 (h.take 64)) (slice h 0x40 64) then drSIGNATURE
  else if s.tariff ∧ (s.tAct * 1000000000 : Nat) ≤ d.utcOf (d.rd64 (DST_C_DEADLINE_LO c)) then drACT_TIME
  else 0

/-- A campaign of another slot with the same region and KIND that a START of slot c supersedes (R154). -/
def Dev.superseded (d : Dev) (c : Nat) : List Nat :=
  (List.range 8).filter fun e =>
    e != c && [dsDELIVER, dsREADY, dsACTIVATING].contains (d.dslot e).st &&
    d.fld (DST_C_REGION e) 15 0 == d.fld (DST_C_REGION c) 15 0 && (d.dslot e).kind == leAt (d.ldBytes (d.rd64 (DST_C_IMG_LO c)) 128) 2 1

/-- START (R151, R152, R154). -/
def Dev.dstStart (d : Dev) (c links : Nat) : Dev :=
  let r := d.startCheck c links
  if r ≠ 0 then d.dResult c r
  else
    let d := d.each (d.superseded c) fun d e => ((d.dStop e dsSUPERSEDED 1).bump DST_SUPERSEDE_COUNT).mirrorSlot e
    let h := d.ldBytes (d.rd64 (DST_C_IMG_LO c)) 128
    let d := (d.setDslot c { st := dsDELIVER, header := h }).wr (DST_C_CTRL c) (256 * (links % 4))
    let s := d.dslot c
    let d := d.each (d.dTargets c) fun d k =>
      let i := d.dIndex c k
      let live : Bool := i < d.fld ING_REG_HWM 25 0 && d.recState i == stLIVE
      let d := (d.setDState c k (if live then tPENDING else tREFUSED)).setDMap c k s.fullMap
      d.iff live (·.queueCtl c msgANNOUNCE [k])
    (d.dProgress c).mirrorSlot c

/-! ## The other slot commands (R151) -/

/-- ACTIVATE with DST_C_TACT. -/
def Dev.dstActivate (d : Dev) (c : Nat) : Dev :=
  let s := d.dslot c
  if s.st ≠ dsIDLE ∧ s.tariff then d.dResult c drKIND
  else if s.st ≠ dsREADY then d.dResult c drSTATE
  else
    let d := (d.setDslot c { s with tact := d.rd (DST_C_TACT c) }).queueCtl c msgACTIVATE (d.dIn c [tCOMPLETE])
    (((d.dEnter c dsACTIVATING).dResult c 0).activating c).mirrorSlot c

/-- ABORT. -/
def Dev.dstAbort (d : Dev) (c : Nat) : Dev :=
  if [dsDELIVER, dsREADY, dsACTIVATING, dsHALTED].contains (d.dslot c).st then
    ((d.dStop c dsABORTED 0).dResult c 0).mirrorSlot c
  else d.dResult c drSTATE

/-- ROLLBACK. -/
def Dev.dstRollback (d : Dev) (c : Nat) : Dev :=
  let s := d.dslot c
  if s.st ≠ dsIDLE ∧ s.tariff then d.dResult c drKIND
  else if !(List.contains [dsACTIVATING, dsHALTED, dsDONE] s.st) then d.dResult c drSTATE
  else
    let ks := d.dIn c [tACTIVE]
    let d := (d.dropCtl c msgACTIVATE).queueCtl c msgROLLBACK ks
    let d := d.setDslot c { d.dslot c with st := dsROLLING, result := 0, rolled := ks, asked := [] }
    (d.dProgress c).mirrorSlot c

/-- RELEASE: the slot is cleared, its registers with it. -/
def Dev.dstRelease (d : Dev) (c : Nat) : Dev :=
  if !(List.contains [dsDONE, dsABORTED, dsSUPERSEDED] (d.dslot c).st) || d.cancelDue c then d.dResult c drSTATE
  else
    let d := d.setDslot c {}
    let base := DST_C_IMG_LO c
    let d := { d with reg := { d.reg with live := d.reg.live.forget fun a => decide (base ≤ a) && decide (a < base + 0x40) } }
    d.mirrorSlot c

/-- A slot command by its code. -/
def Dev.dstRun (d : Dev) (c v : Nat) : Dev :=
  match bitsOf v 2 0 with
  | 1 => d.dstStart c (bitsOf v 9 8)
  | 2 => d.dstActivate c
  | 3 => d.dstAbort c
  | 4 => d.dstRollback c
  | 5 => d.dstRelease c
  | _ => d

/-- The commands that wait for their mirror acknowledgement run, oldest first, as it covers them (R384). -/
def dstPumpAux : Nat → Dev → Dev
  | 0, d => d
  | fuel + 1, d =>
    match d.dst.due with
    | [] => d
    | x :: rest =>
      if d.mirrored x.mirror then
        dstPumpAux fuel (({ d with dst := { d.dst with due := rest } } : Dev).dstRun x.slot x.value)
      else d
def Dev.dstPump (d : Dev) : Dev := dstPumpAux d.dst.due.length d

/-- The registers of slot c as a mirrored command carries them. -/
def Dev.dstRegs (d : Dev) (c : Nat) : List Nat := (List.range 16).map fun i => d.rd (DST_C_IMG_LO c + 4 * i)

/-- A slot command by firmware: at once, or once the standby has acknowledged it (R384). -/
def Dev.dstCommand (d : Dev) (c v : Nat) : Dev :=
  if d.mirrors then
    let d := d.mirror (.dstCmd c v (d.dstRegs c))
    ({ d with dst := { d.dst with due := d.dst.due ++ [{ slot := c, cmd := bitsOf v 2 0, value := v, mirror := d.red.nextSeq }] } } : Dev).dstPump
  else d.dstRun c v

/-! ## The standby (R292, R384) -/

/-- A mirrored slot command on the standby: the slot's registers, then the command. -/
def Dev.dstMirrored (d : Dev) (c v : Nat) (regs : List Nat) : Dev :=
  let skip := [8, 9, 11, 12, 13]
  let d := d.each ((List.range 16).filter fun i => !skip.contains i) fun d i => d.wr (DST_C_IMG_LO c + 4 * i) (regs.getD i 0)
  d.dstRun c v

/-- A mirrored slot and part of its target array. -/
def Dev.dstMirrorState (d : Dev) (c : Nat) (s : DstSlot) (addr : Nat) (bytes : Bytes) : Dev :=
  (d.setDslot c s).stBytes addr bytes

/-- The control queue of a new active (R384). -/
def Dev.dstTakeover (d : Dev) : Dev :=
  d.each (List.range 8) fun d c =>
    let st := (d.dslot c).st
    let d := d.setDslot c { d.dslot c with ctl := [], runs := [] }
    if st = dsSUPERSEDED ∨ st = dsABORTED then d.queueCtl c msgCANCEL (d.dIn c [tRECEIVING, tCOMPLETE])
    else
      let d := d.queueCtl c msgANNOUNCE (d.dIn c [tPENDING])
      if st = dsACTIVATING then d.queueCtl c msgACTIVATE (d.dIn c [tCOMPLETE])
      else if st = dsROLLING then d.queueCtl c msgROLLBACK (d.dIn c [tACTIVE])
      else d

/-! ## Contacts and lanes (R149, R153) -/

/-- A link block is in contact with a meter: a poll, a connection event, a frame received. Its earlier contact ends, and
with it the runs of blocks sent to it. -/
def Dev.dstContact (d : Dev) (link addr : Nat) : Dev :=
  if !d.en pDST then d
  else
    let cs := d.dst.contacts.filter fun x => !(x.addr == addr && x.link == link)
    let slots := d.dst.slots.map fun e =>
      (e.1, { e.2 with runs := e.2.runs.filter fun r => d.dEui e.1 r.target != addr })
    { d with dst := { d.dst with contacts := cs ++ [{ addr := addr, link := link, tick := d.time.ticks }], slots := slots } }

/-- The lane of a LINK and KIND whose peer is an address. -/
def Dev.peerLane (d : Dev) (link kind addr : Nat) : Option Nat :=
  (d.lanesBy fun w => bitsOf w 3 0 == link && bitsOf w 7 4 == kind && w.testBit 8).find? fun n => d.rd64 (LN_PEER_LO n) == addr

/-- A way to a target: its link, its lane, and how long a contact on it lasts in ms; 0: always reachable. -/
structure Way where
  link : Nat
  lane : Nat
  window : Nat

/-- The link and lane by which a target of slot c is reached: its CONNECTION or PEER lane, else the INDIRECT lane of the
radio, else the DEFAULT lane. DEDUCED: the registry gives no lane (R149), the lane array names peers. -/
def Dev.wayTo (d : Dev) (c addr : Nat) : Option Way :=
  let w := d.rd (DST_C_CTRL c)
  let radio := w.testBit 8
  let plc := w.testBit 9
  let a := if radio then (d.peerLane 1 1 addr).map fun n => Way.mk 0 n 16 else none
  let b := if plc then (d.peerLane 2 1 addr).map fun n => Way.mk 1 n 0 else none
  let e := if radio then (d.laneOf 1 2).map fun n => Way.mk 0 n (d.fld RMC_IND_CFG 23 16) else none
  let f := if plc then (d.laneOf 2 0).map fun n => Way.mk 1 n 0 else none
  let g := if radio then (d.laneOf 1 0).map fun n => Way.mk 0 n 0 else none
  (((a.or b).or e).or f).or g

/-- The lane on which a target of slot c can be sent a message on a link now (R153). -/
def Dev.reach (d : Dev) (c k link : Nat) : Option Nat :=
  let addr := d.dEui c k
  match d.wayTo c addr with
  | none => none
  | some w =>
    if w.link ≠ link then none
    else if w.window = 0 then some w.lane
    else if d.dst.contacts.any (fun x => x.addr == addr && x.link == link && !d.past x.tick (msTicks w.window)) then some w.lane
    else none

/-! ## Sending (R148, R153) -/

/-- A message that DST would send: of which slot, to which target (none: multicast), by which lane, its type and block. -/
structure DstMsg where
  slot : Nat
  target : Option Nat
  lane : Nat
  typ : Nat
  block : Nat := 0

/-- Block b of slot c's payload, padded with zeros. -/
def Dev.dBlock (d : Dev) (c b : Nat) : Bytes :=
  padTo 256 (d.ldBytes (d.rd64 (DST_C_IMG_LO c) + 128 + 256 * b) (min 256 ((d.dslot c).length - 256 * b)))

/-- The bytes of a message (R148). -/
def Dev.dBytes (d : Dev) (m : DstMsg) : Bytes :=
  let s := d.dslot m.slot
  leBytes 1 m.typ ++ leBytes 4 s.imageId ++
  (if m.typ = msgANNOUNCE then s.header
   else if m.typ = msgBLOCK then leBytes 2 m.block ++ d.dBlock m.slot m.block
   else if m.typ = msgACTIVATE then leBytes 4 (if s.tariff then s.tAct else s.tact)
   else [])

/-- The transmit header of R188 before a message: secured and acknowledged to a meter, plain to all. -/
def Dev.dFrame (d : Dev) (m : DstMsg) : Bytes :=
  (match m.target with
   | some k => leBytes 8 (d.dEui m.slot k) ++ leBytes 1 3
   | none => zeroBytes 8 ++ leBytes 1 0) ++ leBytes 1 1 ++ zeroBytes 6 ++ d.dBytes m

/-- The first control message of slot c on a link that a target can be sent now. A CANCEL due to the same meter under
another campaign of the same KIND goes before an ANNOUNCE (R154). -/
def Dev.ctlMsg (d : Dev) (c link : Nat) : Option DstMsg :=
  let s := d.dslot c
  s.ctl.findSome? fun e =>
    match d.reach c e.1 link with
    | none => none
    | some lane =>
      let older := if e.2 ≠ msgANNOUNCE then none else
        (List.range 8).findSome? fun o =>
          let so := d.dslot o
          if o = c ∨ so.kind ≠ s.kind then none
          else (so.ctl.find? fun x => x.2 == msgCANCEL && d.dEui o x.1 == d.dEui c e.1).map fun x => (o, x.1)
      match older with
      | some (o, k) => some { slot := o, target := some k, lane := lane, typ := msgCANCEL }
      | none => some { slot := c, target := some e.1, lane := lane, typ := e.2 }

/-- Multicast blocks of slot c sent on a link. -/
def DstSlot.sent (s : DstSlot) (link : Nat) : Nat := if link = 0 then s.sent0 else s.sent1

/-- The next multicast block of slot c on a link (R153, 2). -/
def Dev.castMsg (d : Dev) (c link : Nat) : Option DstMsg :=
  let s := d.dslot c
  let lane := if link = 0 then d.fld DST_CFG 16 8 else d.fld DST_CFG 25 17
  let n := s.sent link
  if s.st = dsDELIVER ∧ n < d.fld DST_ROUNDS 3 0 * s.blocks
  then some { slot := c, target := none, lane := lane, typ := msgBLOCK, block := n % max 1 s.blocks }
  else none

/-- The blocks sent to a target in its present contact. -/
def DstSlot.run (s : DstSlot) (k : Nat) : List Nat := ((s.runs.find? fun r => r.target == k).map (·.blocks)).getD []

/-- The next repair block of slot c on a link (R153, 3). -/
def Dev.repairMsg (d : Dev) (c link : Nat) : Option DstMsg :=
  let s := d.dslot c
  if s.st ≠ dsDELIVER then none
  else (d.dIn c [tRECEIVING]).findSome? fun k =>
    let done := s.run k
    if d.fld DST_ROUNDS 15 8 ≤ done.length then none
    else match d.reach c k link with
      | none => none
      | some lane =>
        let m := d.dMap c k
        ((List.range s.blocks).find? fun b => m.testBit b && !done.contains b).map fun b =>
          { slot := c, target := some k, lane := lane, typ := msgBLOCK, block := b }

/-- The slots in the order of R153 that send on a link: TARIFF before FIRMWARE, the lower slot first. -/
def Dev.slotOrder (d : Dev) (link : Nat) : List Nat :=
  let on := (List.range 8).filter fun c => (d.dslot c).st != dsIDLE && (d.rd (DST_C_CTRL c)).testBit (8 + link)
  (on.filter fun c => (d.dslot c).tariff) ++ (on.filter fun c => !(d.dslot c).tariff)

/-- The next message on a link. -/
def Dev.nextMsg (d : Dev) (link : Nat) : Option DstMsg :=
  (d.slotOrder link).findSome? fun c => ((d.ctlMsg c link).or (d.castMsg c link)).or (d.repairMsg c link)

/-- What a message's sending changes in its slot. -/
def Dev.msgSent (d : Dev) (m : DstMsg) (link : Nat) : Dev :=
  let s := d.dslot m.slot
  let s := match m.target with
    | none => if link = 0 then { s with sent0 := s.sent0 + 1 } else { s with sent1 := s.sent1 + 1 }
    | some k =>
      if m.typ = msgBLOCK then
        { s with runs := s.runs.filter (fun r => r.target != k) ++ [{ target := k, blocks := s.run k ++ [m.block] }] }
      else
        let s := { s with ctl := Assoc.del s.ctl k }
        if m.typ = msgCANCEL then { s with cancelled := insertNat k (s.cancelled.filter (· != k)) }
        else if m.typ = msgANNOUNCE then s
        else { s with asked := Assoc.put s.asked k d.ext }
  ((d.setDslot m.slot s).bump (DST_C_SENT m.slot)).mirrorDst m.slot (d.rd64 (DST_C_TGT_LO m.slot)) 0

/-- The client and the class of DST's leave on a link (R311). -/
def dstClient (link : Nat) : Client := ⟨pDST, link⟩
def dstClass (link : Nat) : Nat := if link = 0 then 2 else 4

/-- DST runs on a link: its enable, the link's, and no silence by the pair (R153). -/
def Dev.dstLink (d : Dev) (link : Nat) : Bool :=
  d.linkStarts pDST && !d.pairSlave && d.bit DST_CFG link && (if link = 0 then d.en pRMC else d.en pPLC)

/-- DST_SEND: the next paced message on a link (R153). -/
def Dev.dstSend (d : Dev) (link : Nat) : Dev :=
  let due := if link = 0 then d.dst.next0 else d.dst.next1
  if !d.dstLink link || decide (d.time.ticks < due) then d
  else match d.nextMsg link with
    | none => d
    | some m =>
      let d := d.request (dstClass link) (dstClient link)
      if !d.granted (dstClass link) (dstClient link) then
        ({ d with dst := { d.dst with leaveWait := true } } : Dev).bump DST_LEAVE_DENY
      else
        let (d, ok) := d.enginePush codeDST m.lane (d.dFrame m)
        let d := d.giveBack (dstClass link) (dstClient link)
        let d : Dev := { d with dst := { d.dst with leaveWait := false } }
        if !ok then d
        else
          let rate := max 1 (if link = 0 then d.rd DST_RATE_RAD else d.rd DST_RATE_PLC)
          let next := d.time.ticks + ceilDiv 250000000 rate
          let d : Dev := { d with dst := if link = 0 then { d.dst with next0 := next } else { d.dst with next1 := next } }
          d.msgSent m link

/-! ## Reports (R148 to R151) -/

/-- The bitmap of a target after a REPORT RECEIVING: blocks below FIRST are held; the bytes given say the rest, and blocks
beyond them stay as they are (DEDUCED). -/
def reportMap (blocks old first : Nat) (bm : Bytes) : Nat :=
  let lo := first / 8 * 8
  let hi := lo + 8 * bm.length
  let listed := leNat bm
  (List.range blocks).foldl (fun m b =>
    let missing : Bool := if b < first then false else if b < hi then listed.testBit (b - lo) else old.testBit b
    if missing then m + 2 ^ b else m) 0

/-- A REPORT of target k of slot c. -/
def Dev.dReport (d : Dev) (c k : Nat) (msg : Bytes) : Dev :=
  let s := d.dslot c
  let mstate := leAt msg 5 1
  let version := leAt msg 6 4
  let first := leAt msg 10 2
  let bm := slice msg 13 (leAt msg 12 1)
  let st := d.dState c k
  let d := d.st (d.dAddr c k + 8) 8 d.ext
  let stopped := s.st = dsABORTED ∨ s.st = dsSUPERSEDED
  let d :=
    if stopped then
      if s.cancelled.contains k ∧ (st = tRECEIVING ∨ st = tCOMPLETE) then
        (d.setDState c k tCANCELLED).setDslot c { s with ctl := Assoc.del s.ctl k } else d
    else if s.st = dsROLLING ∧ s.rolled.contains k ∧ version < s.version ∧ (s.asked.any fun e => e.1 == k) then
      if st = tACTIVE then d.setDState c k tROLLED else d
    else if mstate = 4 then if st ≤ tCOMPLETE then d.setDState c k tREFUSED else d
    else if mstate = 3 then if st ≤ tACTIVE then d.setDState c k tFAILED else d
    else if mstate = 2 then if st = tCOMPLETE ∧ version = s.version then d.setDState c k tACTIVE else d
    else if s.st ≠ dsDELIVER ∨ tRECEIVING < st then d
    else if mstate = 1 then
      let d := (d.setDState c k tCOMPLETE).setDMap c k 0
      d.iff s.tariff (·.queueCtl c msgACTIVATE [k])
    else
      let old := d.dMap c k
      if first = 0 ∧ st = tRECEIVING ∧ ¬old.testBit 0 then
        let n := satNat (d.ld (d.dAddr c k + 6) 1 + 1) 255
        let d := ((d.bump DST_DIGEST_FAIL).st (d.dAddr c k + 6) 1 n).setDMap c k s.fullMap
        d.iff (decide (2 ≤ n)) (·.setDState c k tFAILED)
      else (d.setDState c k tRECEIVING).setDMap c k (reportMap s.blocks old first bm)
  (d.dProgress c).mirrorDst c (d.dAddr c k) (16 + s.mapBytes)

/-- DST_REPORT: a REPORT of a meter, for every campaign that carries its image and names it (R148 to R151). -/
def Dev.dstReport (d : Dev) (meter : Nat) (msg : Bytes) : Dev :=
  if !d.runs pDST || leAt msg 0 1 != msgREPORT || decide (msg.length < 13) then d
  else
    let d := d.bump DST_REPORT_COUNT
    d.each (List.range 8) fun d c =>
      if (d.dslot c).st = dsIDLE ∨ (d.dslot c).imageId ≠ leAt msg 1 4 then d
      else match (d.dTargets c).find? fun k => d.dEui c k == meter with
        | none => d
        | some k => d.dReport c k msg

/-! ## Deadlines (R150, R151) -/

/-- CAMPAIGN_DEADLINE: DST_C_DEADLINE of slot c is reached. -/
def Dev.dstDeadline (d : Dev) (c : Nat) : Dev :=
  let st := (d.dslot c).st
  if !d.runs pDST || decide (d.ext < d.rd64 (DST_C_DEADLINE_LO c)) then d
  else if st = dsDELIVER then
    let d := d.each (d.dIn c [tPENDING, tRECEIVING]) fun d k => d.setDState c k tUNREACHABLE
    ((d.setDslot c { d.dslot c with ctl := (d.dslot c).ctl.filter fun e => e.2 != msgANNOUNCE }).delivered c).mirrorSlot c
  else if st = dsABORTED ∨ st = dsSUPERSEDED then (d.dropCtl c msgCANCEL).mirrorDst c (d.rd64 (DST_C_TGT_LO c)) 0
  else d

/-- The extended time at which a target's silence ends it (R150): DST_ACT_WAIT after T_ACT for TARIFF; for FIRMWARE after the
latest of T_ACT, the sending of ACTIVATE or ROLLBACK, and its last REPORT. None while nothing has been sent to it. -/
def Dev.silentUntil (d : Dev) (c k : Nat) : Option Int :=
  let s := d.dslot c
  let wait : Nat := d.rd DST_ACT_WAIT * 1000000000
  let act := fun (t : Nat) => (t * 1000000000 : Nat) - sext 64 (d.rd64 TRF_UTC_BASE_LO)
  if s.tariff then some (act s.tAct + wait)
  else match s.asked.find? fun e => e.1 == k with
    | none => none
    | some e =>
      let t : Int := max e.2 (d.ld (d.dAddr c k + 8) 8)
      some ((if s.tact = 0 ∨ s.st = dsROLLING then t else max t (act s.tact)) + wait)

/-- ACT_WAIT_EXPIRE: the activated targets of slot c that have been silent too long become UNREACHABLE. -/
def Dev.dstSilent (d : Dev) (c : Nat) : Dev :=
  let st := (d.dslot c).st
  let ks := if st = dsACTIVATING then d.dIn c [tCOMPLETE] else if st = dsROLLING then d.dIn c [tACTIVE] else []
  let gone := ks.filter fun k => match d.silentUntil c k with | none => false | some t => decide (t ≤ (d.ext : Int))
  if !d.runs pDST || gone.isEmpty then d
  else ((d.each gone fun d k => d.setDState c k tUNREACHABLE).dProgress c).mirrorSlot c

/-! ## The page (R157) -/

/-- The computed registers of the DST page. -/
def dstRead (d : Dev) (off : Nat) : Option Nat :=
  if 0x200 ≤ off ∧ off < 0x400 then
    let c := (off - 0x200) / 0x40
    let s := d.dslot c
    match (off - 0x200) % 0x40 with
    | 0x24 => some (s.st + 16 * s.result + 32768 * (d.dIn c [tUNREACHABLE]).length)
    | 0x2C => some (d.dIn c [tCOMPLETE]).length
    | 0x30 => some (d.dIn c [tACTIVE]).length
    | 0x34 => some (d.dIn c [tFAILED]).length
    | _ => none
  else none

/-- What DST makes of a write to its page: a slot's registers are held from START to RELEASE (R152). -/
def dstWrite (d : Dev) (off v : Nat) : WriteRes :=
  if 0x200 ≤ off ∧ off < 0x400 then
    let c := (off - 0x200) / 0x40
    let o := (off - 0x200) % 0x40
    if o = 0x20 then
      if bitsOf v 2 0 ≠ 0 then .done (d.dstCommand c v)
      else if (d.dslot c).st = dsIDLE then .done (d.wr (DST_C_CTRL c) (256 * bitsOf v 9 8))
      else .done d
    else if (d.dslot c).st ≠ dsIDLE then .refuse ENGINE_BUSY
    else .plain
  else .plain

/-- CFG_INVALID of DST: an enabled link has no multicast lane of its own (DEDUCED from the check of step 4). -/
def dstCfgInvalid (d : Dev) : Bool :=
  (d.bit DST_CFG 0 && !(d.laneLink (d.fld DST_CFG 16 8) == 1 && d.laneKind (d.fld DST_CFG 16 8) == 3)) ||
  (d.bit DST_CFG 1 && !(d.laneLink (d.fld DST_CFG 25 17) == 2 && d.laneKind (d.fld DST_CFG 25 17) == 3))

/-- The block bits of DST PG_STAT. -/
def dstPgStat (d : Dev) : Nat := 4 * b2n (dstCfgInvalid d) + 8 * b2n d.dst.leaveWait

/-- DST has work in its pipeline: a message waits for leave, or a command for its mirror acknowledgement. -/
def dstBusy (d : Dev) : Bool := d.dst.leaveWait || !d.dst.due.isEmpty

/-- A soft reset: every slot IDLE. -/
def dstReset (d : Dev) : Dev := { d with dst := {} }

end Sys2Proof.Machine
end

