-- ==== Sys2Proof/Machine/RecOps.lean ====
section
/-!
DEFINITION. The condition recorder (R277 to R285): records and their slots in the NOR, histograms, conditions, the window.
-/
namespace Sys2Proof.Machine

/-- The recorder area (R17, R281): 1,024 sectors of 512 slots of 128 bytes. -/
abbrev recBase : Nat := 0xC0000000 + 0x11000000
abbrev recSlots : Nat := 524288
abbrev recBuffer : Nat := 64
def slotAddr (n : Nat) : Nat := recBase + 128 * n
def sectorOf (slot : Nat) : Nat := slot / 512

/-! ## Records -/

/-- The 128 bytes of a record (R277); body is padded with zero bytes. -/
def recordBytes (typ sev seq tFirst tLast code flags reps : Nat) (body : Bytes) : Bytes :=
  let b := leBytes 2 1 ++ leBytes 1 typ ++ leBytes 1 sev ++ leBytes 4 seq ++ leBytes 8 tFirst ++ leBytes 8 tLast ++
    leBytes 2 code ++ leBytes 2 flags ++ leBytes 4 reps ++ padTo 92 body
  b ++ leBytes 4 (crc32c b)

/-- The check of a record's bytes passes, and its slot is not erased (R277). -/
def recGood (b : Bytes) : Bool := leAt b 0x7C 4 == crc32c (b.take 0x7C)
def recErased (b : Bytes) : Bool := leAt b 0 2 == 0xFFFF

/-- A record closes: it takes the next SEQ and a place in the buffer, or is dropped (R281). -/
def Dev.recAdd (d : Dev) (mk : Nat → Bytes) : Dev :=
  if recBuffer ≤ d.rcd.buf.length then d.bump REC_DROP
  else
    { d with rcd := { d.rcd with buf := d.rcd.buf ++ [mk d.rcd.nextSeq], nextSeq := (d.rcd.nextSeq + 1) % 2 ^ 32 } }

/-- A MARK record: 1 START_UP, 2 CLEARED, 3 LOST. -/
def Dev.recMark (d : Dev) (code : Nat) (body : Bytes) : Dev :=
  let t := d.ext
  let c := d.cls.code
  d.recAdd fun seq => recordBytes 3 0 seq t t code c 0 body

/-! ## Histograms (R278, R279) -/

/-- SPAN of channel c: 0 off; HIST_EN off turns every channel off. -/
def Dev.chSpan (d : Dev) (c : Nat) : Nat := if d.bit REC_CFG 0 then d.fld (REC_CH_CFG c) 1 0 else 0

/-- ns of a span kind. -/
def spanNs (kind : Nat) : Nat := if kind = 2 then 86400000000000 else 3600000000000

/-- The first span end after extended time t (R279). -/
def Dev.spanEnd (d : Dev) (kind t : Nat) : Nat :=
  let n := (spanNs kind : Int)
  let u := d.utcOf t
  ((t : Int) + (n - u % n)).toNat

/-- Channel c opens a span at extended time t. -/
def Dev.openSpan (d : Dev) (c t : Nat) (part : Bool) : Dev :=
  let k := d.chSpan c
  if k = 1 ∨ k = 2 then
    let s : Span := { start := t, next := d.spanEnd k t, kind := k, part := part, worst := d.cls.code }
    { d with rcd := { d.rcd with spans := Assoc.put d.rcd.spans c s } }
  else { d with rcd := { d.rcd with spans := Assoc.del d.rcd.spans c } }

/-- The bin of sample v (R278). -/
def binOf (v lo : Int) (w : Nat) : Nat :=
  if v < lo then 0
  else if lo + 14 * (w : Int) ≤ v then 15
  else 1 + (v - lo).toNat / w

/-- A span with one more sample, taken at extended time t. -/
def Span.take (s : Span) (v lo : Int) (w t : Nat) : Span :=
  let b := binOf v lo w
  let lower : Bool := s.count == 0 || decide (v < s.min)
  let upper : Bool := s.count == 0 || decide (s.max < v)
  { s with
    bins := s.bins.set b (satNat (s.bins.getD b 0 + 1) m32)
    min := if lower then v else s.min, tMin := if lower then t else s.tMin
    max := if upper then v else s.max, tMax := if upper then t else s.tMax
    sum := clampInt (s.sum + v) (-(2 ^ 63)) (2 ^ 63 - 1)
    count := satNat (s.count + 1) m32 }

/-- Channel c takes a sample. -/
def Dev.histTake (d : Dev) (c : Nat) (v : Int) : Dev :=
  if !d.runs pREC || !d.rcd.ready then d
  else
    match d.rcd.spans.find? fun e => e.1 == c with
    | none => d
    | some e =>
      let s := e.2.take v (sext 32 (d.rd (REC_CH_LO c))) (d.rd (REC_CH_W c)) d.ext
      { d with rcd := { d.rcd with spans := Assoc.put d.rcd.spans c s } }

/-- ms from t0 to t, held to 0..2^32 - 1. -/
def msFrom (t0 t : Nat) : Nat := satNat ((t - t0) / 1000000) m32

/-- A signed number held to 32 bits. -/
def enc32Sat (v : Int) : Nat := enc 32 (clampInt v (-(2 ^ 31)) (2 ^ 31 - 1))

/-- The body of a histogram record. -/
def Span.body (s : Span) : Bytes :=
  s.bins.flatMap (leBytes 4 ·) ++ leBytes 4 (enc32Sat s.min) ++ leBytes 4 (enc32Sat s.max) ++
  leBytes 4 (if s.count = 0 then 0 else msFrom s.start s.tMin) ++
  leBytes 4 (if s.count = 0 then 0 else msFrom s.start s.tMax) ++
  leBytes 8 (enc 64 s.sum) ++ leBytes 4 s.count

/-- Write channel c's record of a span that ends at extended time t. -/
def Dev.writeSpan (d : Dev) (c : Nat) (s : Span) (t : Nat) : Dev :=
  let out : Bool := s.bins.getD 0 0 != 0 || s.bins.getD 15 0 != 0
  let sev := if out then d.fld (REC_CH_CFG c) 6 4 else 0
  d.recAdd fun seq =>
    recordBytes 1 sev seq s.start t (c + 16 * s.kind) (s.worst + 4 * b2n s.part + 8 * b2n s.stepped) 0 s.body

/-- Channel c's spans that have ended by now are written; of several only the last has the samples (R279). -/
def Dev.endSpans (d : Dev) (c : Nat) : Nat → Dev
  | 0 => d
  | fuel + 1 =>
    match d.rcd.spans.find? fun e => e.1 == c with
    | none => d
    | some e =>
      let s := e.2
      if d.ext < s.next then d
      else
        let after := d.spanEnd s.kind s.next
        if d.ext < after then (d.writeSpan c s s.next).openSpan c s.next false
        else
          let bare : Span := { start := s.start, next := s.next, kind := s.kind, part := s.part, stepped := s.stepped, worst := s.worst }
          let d := d.writeSpan c bare s.next
          let s := { s with start := s.next, next := after, part := false }
          let d := { d with rcd := { d.rcd with spans := Assoc.put d.rcd.spans c s } }
          d.endSpans c fuel

/-- Every span end that has been reached (R279). -/
def Dev.spanEnds (d : Dev) : Dev :=
  if !d.runs pREC || !d.rcd.ready then d
  else d.each (List.range 16) fun d c =>
    match d.rcd.spans.find? fun e => e.1 == c with
    | none => d
    | some e => d.endSpans c ((d.ext - e.2.next) / 3600000000000 + 2)

/-- Channel c's open span closes early, PARTIAL (R279, R282). -/
def Dev.closeSpan (d : Dev) (c : Nat) : Dev :=
  match d.rcd.spans.find? fun e => e.1 == c with
  | none => d
  | some e =>
    let d := d.writeSpan c { e.2 with part := true } d.ext
    { d with rcd := { d.rcd with spans := Assoc.del d.rcd.spans c } }

/-- A running total's growth since its last sample; a total that was cleared counts from 0. -/
def grew (now last : Nat) : Nat := if now < last then now else now - last

/-- µs spent waiting for leave, all classes: the waits ended and the waits under way. -/
def Dev.waitTotal (d : Dev) : Nat :=
  ((List.range 16).foldl (fun s c => s + d.rd (PWR_CLS_WAIT c)) 0) +
    d.pwr.queue.foldl (fun s q => s + usBetween q.since d.time.ticks) 0

/-- A channel's sample (R278). Channels 0 to 2 take the measurement given, which the PWR page shows from then on; channels 10
and 11 take the value of the frame given; the others read the device. -/
def Dev.histSample (d : Dev) (c : Nat) (v : BitVec 32) : Dev :=
  match c with
  | 0 => ({ d with pwr := { d.pwr with vinMv := v.toNat } }).histTake 0 v.toNat
  | 1 => ({ d with pwr := { d.pwr with tempMk := v.toInt } }).histTake 1 v.toInt
  | 2 => ({ d with pwr := { d.pwr with pin := v.toNat } }).histTake 2 v.toNat
  | 3 => d.histTake 3 d.rateNow
  | 4 => d.histTake 4 ((quarryCells : Int) - d.rsvSum - d.qry.retired - d.poolFree)
  | 5 =>
    let n := d.waitTotal
    ({ d with rcd := { d.rcd with waitLast := n } }).histTake 5 (grew n d.rcd.waitLast)
  | 6 =>
    let n := d.rd MEM_CORR_COUNT
    ({ d with rcd := { d.rcd with memLast := n } }).histTake 6 (grew n d.rcd.memLast)
  | 7 =>
    let n := d.rd QRY_CORR_TOTAL
    ({ d with rcd := { d.rcd with qryLast := n } }).histTake 7 (grew n d.rcd.qryLast)
  | 8 => d.histTake 8 (sext 32 (d.rd TIM_LAST_OFFSET)).natAbs
  | 9 => d.histTake 9 d.unc
  | 10 => d.histTake 10 v.toInt
  | 11 => d.histTake 11 v.toInt
  | _ => d

/-! ## Conditions (R280) -/

/-- The open condition record closes. -/
def Dev.closeCond (d : Dev) : Dev :=
  match d.rcd.cond with
  | none => d
  | some o =>
    let d := { d with rcd := { d.rcd with cond := none } }
    d.recAdd fun seq => recordBytes 2 o.sev seq o.first o.last o.code (o.worst + 8 * b2n o.stepped) o.repeats o.detail

/-- REC_HOLD has passed since the open record's T_FIRST. -/
def Dev.holdExpired (d : Dev) : Bool :=
  match d.rcd.cond with
  | none => false
  | some o => d.past o.tick (d.rd REC_HOLD * 250000000)

/-- The open record closes when REC_HOLD has passed. -/
def Dev.condHold (d : Dev) : Dev := d.iff (d.runs pREC && d.holdExpired) Dev.closeCond

/-- A condition at extended time t: the open record repeats, or closes and a new one opens. -/
def Dev.condition (d : Dev) (code sev t cls : Nat) (detail : Bytes) : Dev :=
  let d := d.condHold
  let fresh : OpenCond :=
    { code := code, sev := sev, first := t, last := t, tick := d.time.ticks, detail := detail, repeats := 1, worst := cls }
  match d.rcd.cond with
  | some o =>
    if o.code = code ∧ o.detail.take 4 = detail.take 4 then
      let o := { o with repeats := satNat (o.repeats + 1) m32, last := t, sev := max o.sev sev, worst := max o.worst cls }
      { d with rcd := { d.rcd with cond := some o } }
    else
      let d := d.closeCond
      { d with rcd := { d.rcd with cond := some fresh } }
  | none => { d with rcd := { d.rcd with cond := some fresh } }

/-- REC_SEV of event n. -/
def Dev.recSev (d : Dev) (n : Nat) : Nat := bitsOf (d.rd (REC_SEV (n / 8))) (4 * (n % 8) + 2) (4 * (n % 8))

/-- The recorder takes conditions: it runs, its scan is done, COND_EN. -/
def Dev.condOn (d : Dev) : Bool := d.runs pREC && d.rcd.ready && d.bit REC_CFG 1

/-- The oldest raising that the recorder has not yet looked at; stat gives a page's PG_STAT. -/
def Dev.recEvent (d : Dev) (stat : Dev → Nat → Nat) : Dev :=
  match d.evq with
  | [] => d
  | e :: t =>
    let d := { d with evq := t }
    let mask := if e.event < 32 then (d.rd REC_EVT_MASK0).testBit e.event else (d.rd REC_EVT_MASK1).testBit (e.event - 32)
    if d.condOn && mask then
      d.condition e.event (d.recSev e.event) e.ext e.cls
        (leBytes 4 (stat d e.page) ++ leBytes 4 e.faultAddr ++ leBytes 4 e.faultInfo ++ zeroBytes 4)
    else d

/-- A write of REC_FW_CODE. -/
def Dev.fwCode (d : Dev) (v : Nat) : Dev :=
  let code := bitsOf v 15 0
  if code < 0x100 then d.bump REC_DROP
  else if d.condOn then
    d.condition code (bitsOf v 18 16) d.ext d.cls.code
      ((List.range 4).flatMap fun i => leBytes 4 (d.rd (REC_FW_DETAIL i)))
  else d

/-! ## The NOR (R281, R282) -/

/-- The client of the recorder. -/
abbrev recClient : Client := ⟨pREC, 0⟩

/-- A slot is erased. -/
def Dev.slotFree (d : Dev) (n : Nat) : Bool := !d.rcd.slots.any fun s => s.slot == n

/-- The first erased slot from n on, going round. -/
def Dev.freeSlotFrom (d : Dev) (n : Nat) : Nat → Option Nat
  | 0 => none
  | fuel + 1 => if d.slotFree (n % recSlots) then some (n % recSlots) else d.freeSlotFrom (n + 1) fuel

/-- The next erased slot after the one written last. -/
def Dev.nextSlot (d : Dev) : Option Nat :=
  let from' := match d.rcd.pos with | none => 0 | some p => p + 1
  if recSlots ≤ d.rcd.slots.length then none else d.freeSlotFrom from' (d.rcd.slots.length + 1)

/-- Sectors in the order of the lowest SEQ that each holds; a sector without a good record comes last. -/
def Dev.sectorsOldest (d : Dev) : List Nat :=
  let good := d.rcd.slots.filter (·.ok)
  ((good ++ d.rcd.slots).map fun s => sectorOf s.slot).eraseDups

/-- The highest severity that a sector holds. -/
def Dev.maxSev (d : Dev) (s : Nat) : Nat :=
  d.rcd.slots.foldl (fun m r => if r.ok && sectorOf r.slot == s then max m r.sev else m) 0

/-- choose_victim of R281: the sector to erase, and how many were kept. -/
def Dev.victimFrom (d : Dev) (keep top : Nat) : List Nat → Nat → Option Nat × Nat
  | [], kept => (none, kept)
  | s :: t, kept =>
    if keep ≠ 0 ∧ keep ≤ d.maxSev s ∧ kept < top then d.victimFrom keep top t (kept + 1) else (some s, kept)
def Dev.victim (d : Dev) : Option Nat × Nat :=
  let all := d.sectorsOldest
  match d.victimFrom (d.fld REC_CFG 4 2) (d.fld REC_KEEP_MAX 9 0) all 0 with
  | (some s, k) => (some s, k)
  | (none, k) => (all.head?, k)

/-- SEQ a comes after b (R283). -/
def seqAfter (a b : Nat) : Bool := a != b && decide ((a + 2 ^ 32 - b) % 2 ^ 32 < 2 ^ 31)

/-- Erase sector s: its slots read as erased. -/
def Dev.recErase (d : Dev) (s : Nat) : Dev :=
  { d with
    mem := Cells.forget (fun a => decide (slotAddr (512 * s) ≤ a) && decide (a < slotAddr (512 * (s + 1)))) d.mem
    rcd := { d.rcd with slots := d.rcd.slots.filter fun r => sectorOf r.slot != s } }

/-- Erase a victim: unacknowledged records in it are lost (R281). -/
def Dev.recOverwrite (d : Dev) : Dev :=
  let (v, kept) := d.victim
  let d := d.wr REC_KEPT kept
  match v with
  | none => d
  | some s =>
    let lost := d.rcd.slots.filter fun r => r.ok && sectorOf r.slot == s && seqAfter r.seq (d.rd REC_ACK_SEQ)
    let d := d.recErase s
    match lost.getLast? with
    | none => d
    | some r =>
      ((d.bump REC_LOST lost.length).raise pREC 0).recMark 3 (leBytes 4 lost.length ++ leBytes 4 r.seq)

/-- Program a record into a slot. -/
def Dev.recProgram (d : Dev) (n : Nat) (b : Bytes) : Dev :=
  let d := d.putBytes (slotAddr n) b
  let r : RecSlot := { slot := n, seq := leAt b 4 4, sev := bitsOf (leAt b 3 1) 2 0, ok := true }
  ({ d with rcd := { d.rcd with slots := d.rcd.slots ++ [r], pos := some n } }).bump REC_RECORDS

/-- One NOR operation of the recorder: a CLEAR's erasure, a victim's erasure, or the oldest record's program. -/
def Dev.recStep (d : Dev) : Dev :=
  if d.rcd.clearing then
    let d := d.each (d.rcd.slots.map fun s => sectorOf s.slot).eraseDups Dev.recErase
    { d with rcd := { d.rcd with clearing := false } }
  else
    match d.rcd.buf with
    | [] => d
    | b :: t =>
      match d.nextSlot with
      | none => d.recOverwrite
      | some n => ({ d with rcd := { d.rcd with buf := t } }).recProgram n b

/-- The recorder writes while it has records and leave; each NOR operation asks for its own (R281). -/
def Dev.recPump (d : Dev) : Nat → Dev
  | 0 => d
  | fuel + 1 =>
    if (d.rcd.buf.isEmpty && !d.rcd.clearing) || !d.starts pREC || !d.rcd.ready then d
    else
      let d := d.request 11 recClient
      if d.granted 11 recClient then (d.recStep.giveBack 11 recClient).recPump fuel else d

/-- REC_NOR_WRITE. -/
def Dev.recWrite (d : Dev) : Dev := d.recPump (2 * d.rcd.buf.length + 8)

/-- A slot's check has failed: counted, event 42 once per start-up, and never used again before its erasure (R282). -/
def Dev.recFail (d : Dev) (n : Nat) : Dev :=
  let first := !d.rcd.failed
  let ss := d.rcd.slots.map fun s => if s.slot = n then { s with ok := false } else s
  let d := { d with rcd := { d.rcd with failed := true, slots := ss } }
  (d.bump REC_CHECK_FAIL_COUNT).iff first (·.raise pREC 1)

/-- Slots of the NOR that no longer hold what was programmed into them. -/
def Dev.recDecay (d : Dev) (l : List (Fin 524288 × Bytes)) : Dev :=
  d.each l fun d e => d.putBytes (slotAddr e.1.val) (padTo 128 e.2)

/-- Insert a slot behind every one of an earlier SEQ. -/
def insertSlot (s : RecSlot) : List RecSlot → List RecSlot
  | [] => [s]
  | t :: rest => if seqAfter t.seq s.seq then s :: t :: rest else t :: insertSlot s rest

/-- What the start-up scan finds: every slot that is not erased, in the order of SEQ. -/
def Dev.recFind (d : Dev) (slots : List Nat) : List RecSlot :=
  let all : List RecSlot := slots.filterMap fun n =>
    let b := d.ldBytes (slotAddr n) 128
    if recErased b then none else some { slot := n, seq := leAt b 4 4, sev := bitsOf (leAt b 3 1) 2 0, ok := recGood b }
  (all.filter (·.ok)).foldl (fun l s => insertSlot s l) [] ++ all.filter fun s => !s.ok

/-- REC_STARTUP_SCAN (R282): an interrupted erasure is repeated, the records are found, SEQ goes on, MARK START_UP is written,
and every enabled channel opens a span. -/
def Dev.recScan (d : Dev) (erase : Option Nat) (decayed : List (Fin 524288 × Bytes)) : Dev :=
  if d.rcd.ready || !d.runs pREC then d
  else
    let known := d.rcd.slots.map (·.slot)
    let d := d.recDecay decayed
    let d := match erase with | none => d | some s => d.recErase s
    let found : List RecSlot := d.recFind (known ++ decayed.map (·.1.val)).eraseDups
    let good : List RecSlot := found.filter (·.ok)
    let newest : Option RecSlot := good.getLast?
    let d := { d with rcd := { d.rcd with
      ready := true, failed := false, slots := found, pos := newest.map RecSlot.slot
      nextSeq := match newest with | none => d.rcd.nextSeq | some r => (r.seq + 1) % 2 ^ 32 } }
    let d := d.each (found.filter fun (s : RecSlot) => !s.ok) fun d (s : RecSlot) => d.recFail s.slot
    let d := d.recMark 1 (leBytes 4 (d.rd RST_CAUSE) ++ leBytes 4 d.lc)
    let d := d.each (List.range 16) fun d c => d.openSpan c d.ext true
    d.recWrite

/-- The power-fail warning: the open condition record and the open spans close (R280, R282). -/
def Dev.recPowerFail (d : Dev) : Dev :=
  if !d.runs pREC || !d.rcd.ready then d
  else d.closeCond.each (List.range 16) Dev.closeSpan

/-! ## The window (R283, R284) -/

/-- Half h of the window takes the record of a slot, or nothing; its bits of REC_WIN_STAT beside it. A half without a record
holds free values. -/
def Dev.loadHalf (d : Dev) (h : Nat) (s : Option RecSlot) : Dev × Nat :=
  let put (d : Dev) (b : Bytes) : Dev :=
    d.each (List.range 32) fun d i => d.wr (REC_WIN (32 * h + i)) (leAt b (4 * i) 4)
  match s with
  | none => ((put d (d.freeBytes 128)).tookFree 128, 0)
  | some s =>
    let b := d.ldBytes (slotAddr s.slot) 128
    let good := recGood b
    let d := put d b
    (d.iff (!good) (·.recFail s.slot), (if h = 0 then 1 else 2) + (if good then (if h = 0 then 4 else 8) else 0))

/-- LOAD at the cursor. -/
def Dev.recLoad (d : Dev) : Dev :=
  let cur := d.rd REC_CURSOR
  let d := d.iff (d.rcd.cond.isSome && (cur == d.rcd.nextSeq || seqAfter cur d.rcd.nextSeq)) Dev.closeCond
  let good := d.rcd.slots.filter (·.ok)
  let here := good.dropWhile fun s => seqAfter cur s.seq
  let skip : Bool := match here.head?, good.head? with
    | some a, some b => a == b && a.seq != cur
    | _, _ => false
  let (d, w0) := d.loadHalf 0 here.head?
  let (d, w1) := d.loadHalf 1 here.tail.head?
  d.wr REC_WIN_STAT (w0 + w1 + 16 * b2n skip + 32 * b2n here.isEmpty)

/-- NEXT: the cursor goes past the second record, or past the first where there is no second, and LOAD follows. -/
def Dev.recNext (d : Dev) : Dev :=
  let st := d.rd REC_WIN_STAT
  let d :=
    if st.testBit 1 then d.wr REC_CURSOR ((d.rd (REC_WIN 33) + 1) % 2 ^ 32)
    else if st.testBit 0 then d.wr REC_CURSOR ((d.rd (REC_WIN 1) + 1) % 2 ^ 32)
    else d
  d.recLoad

/-- CLEAR (R284). -/
def Dev.recClear (d : Dev) : Dev :=
  let newest := match (d.rcd.slots.filter (·.ok)).getLast? with
    | some s => s.seq
    | none => (d.rcd.nextSeq + (2 ^ 32 - 1)) % 2 ^ 32
  let d := { d with rcd := { d.rcd with cond := none, buf := [], clearing := true } }
  (d.recMark 2 (leBytes 4 newest)).recWrite

/-! ## The page (R285) -/

/-- Computed registers. -/
def recRead (d : Dev) (off : Nat) : Option Nat :=
  let good := d.rcd.slots.filter (·.ok)
  if off = 0x1BC then some (match good.head? with | some s => s.seq | none => d.freeVal)
  else if off = 0x1C0 then some (match good.getLast? with | some s => s.seq | none => d.freeVal)
  else if off = 0x180 ∨ off = 0x1B4 ∨ off = 0x1C8 ∨ (0x194 ≤ off ∧ off ≤ 0x1A0) then some 0
  else none

/-- Writes with an effect. -/
def recRegWrite (d : Dev) (off v : Nat) : WriteRes :=
  if off = 0x180 then .done (d.iff (d.en pREC) (·.fwCode v))
  else if 0x194 ≤ off ∧ off ≤ 0x1A0 then .done (d.iff (d.en pREC) (·.histTake (12 + (off - 0x194) / 4) (sext 32 v)))
  else if off = 0x1B4 then
    .done (if !(d.runs pREC && d.rcd.ready) then d else if v.testBit 0 then d.recLoad else if v.testBit 1 then d.recNext else d)
  else if off = 0x1C8 then
    if d.lc = 3 then .refuse LIFECYCLE
    else .done (d.iff (v.testBit 0 && d.runs pREC && d.rcd.ready) Dev.recClear)
  else .plain

/-- The block bits of PG_STAT: ERASING, LEAVE_WAIT. An erasure is over within its step. -/
def recPgStat (d : Dev) : Nat := 4 * b2n d.rcd.clearing + 8 * b2n (d.queuedFor 11 recClient)

/-- Work in flight: records to write, or sectors to erase. -/
def recBusy (d : Dev) : Bool := d.rcd.clearing || !d.rcd.buf.isEmpty

/-- A fire changes a channel's SPAN or HIST_EN: its open span closes, PARTIAL, and the new one opens (R279). -/
def recFired (old d : Dev) : Dev :=
  if !d.runs pREC || !d.rcd.ready then d
  else d.each (List.range 16) fun d c =>
    if old.chSpan c = d.chSpan c then d else (d.closeSpan c).openSpan c d.ext true

/-- SOFT_RST touches no NOR (R284): what is in the part's own memory is lost, the places of the records stay known. -/
def recReset (d : Dev) : Dev :=
  { d with rcd := { d.rcd with spans := [], cond := none, buf := [] } }

end Sys2Proof.Machine
end

