-- ==== Sys2Proof/Machine/BatchOps.lean ====
section
/-!
DEFINITION. Batches, their acknowledgements, islanding and replay (R68 to R70, R224).
-/
namespace Sys2Proof.Machine

/-! ## Datagrams -/

/-- The nonce of a batch or of an acknowledgement: the first field, a mark of two bytes, the sequence, 0 (R68, R224). -/
def ackNonce (stn mark seq : Nat) : Bytes := leBytes 2 stn ++ leBytes 2 mark ++ leBytes 4 seq ++ zeroBytes 4

/-- The header of a batch (R68). -/
def batchHeader (stn count seq t : Nat) : Bytes := leBytes 2 stn ++ leBytes 2 count ++ leBytes 4 seq ++ leBytes 8 t

/-- The header of an acknowledgement (R224). -/
def ackHeader (stn seq : Nat) : Bytes := leBytes 2 stn ++ leBytes 2 1 ++ leBytes 4 seq ++ zeroBytes 8

/-- Put a datagram on the BATCH lane; without one, or with its queue refusing, it is not sent and is sent again by R69. -/
def Dev.sendDatagram (d : Dev) (s port : Nat) (payload : Bytes) : Dev :=
  match d.batchLane with
  | none => d
  | some lane =>
    let (d, dg) := d.datagram s port payload
    (d.enginePush codeING lane dg).1

/-- Batches go out only in FIELD, with ING running and no power-fail warning (R307). -/
def Dev.batchRuns (d : Dev) : Bool := d.role == 0 && d.starts pING && !d.pwr.pfActive

/-! ## Field side (R68 to R70) -/

/-- Send a batch's datagram to the master. -/
def Dev.sendBatch (d : Dev) (b : Batch) : Dev := d.sendDatagram masterIid (d.rd TRK_BATCH_PORT) b.bytes

/-- Close a batch of the n oldest waiting records and send it; none is built beyond 64 outstanding, or without a link key. -/
def Dev.closeBatch (d : Dev) (n : Nat) (replay : Bool) : Dev :=
  let recs := d.ing.unsent.take n
  if recs.isEmpty ∨ 64 ≤ d.ing.outstanding.length then d
  else
    let stn := d.fld TRK_STN 9 0 + 2 ^ 15 * b2n replay
    let seq := d.ing.nextSeq
    let head := batchHeader stn recs.length seq d.ext
    match d.linkSeal (ackNonce stn 0 seq) head (recs.flatMap (·.body)) with
    | none => d
    | some ct =>
      let b : Batch := { seq := seq, bytes := head ++ ct, count := recs.length, journalled := (recs.filter (·.journalled)).length }
      let first := d.ing.outstanding.isEmpty
      let d := { d with ing := { d.ing with
        unsent := d.ing.unsent.drop n, outstanding := d.ing.outstanding ++ [b], nextSeq := (seq + 1) % 2 ^ 32,
        ackTick := if first then d.time.ticks else d.ing.ackTick, sendTick := if first then d.time.ticks else d.ing.sendTick } }
      d.sendBatch b

/-- MAX_RECORDS and HOLD_MS. -/
def Dev.maxRecords (d : Dev) : Nat := d.fld ING_BATCH_CFG 5 0
def Dev.holdMs (d : Dev) : Nat := d.fld ING_BATCH_CFG 31 16

/-- Full batches close at once while the module is neither islanded nor replaying. -/
def closeFull : Nat → Dev → Dev
  | 0, d => d
  | fuel + 1, d =>
    if !d.batchRuns || d.ing.islanded || d.ing.replaying || d.maxRecords == 0 || decide (d.ing.unsent.length < d.maxRecords) then d
    else closeFull fuel (d.closeBatch d.maxRecords false)
def Dev.closeFullBatches (d : Dev) : Dev := closeFull 64 d

/-- BATCH_HOLD_EXPIRE: the first record of the open batch has waited HOLD_MS. -/
def Dev.batchHoldExpire (d : Dev) : Dev :=
  match d.ing.unsent with
  | [] => d
  | w :: _ =>
    if !d.batchRuns || d.ing.islanded || d.ing.replaying || !d.past w.tick (msTicks d.holdMs) then d
    else d.closeBatch d.maxRecords false

/-- ACK_TIMEOUT: resend from the first unacknowledged batch, only that one while islanded (R69, R70). -/
def Dev.ackTimeout (d : Dev) : Dev :=
  if !d.batchRuns || d.ing.outstanding.isEmpty
      || !d.past (max d.ing.ackTick d.ing.sendTick) (msTicks (d.rd ING_ACK_TIMEOUT)) then d
  else
    let again := if d.ing.islanded then d.ing.outstanding.take 1 else d.ing.outstanding
    let d := { d with ing := { d.ing with sendTick := d.time.ticks } }
    d.each again Dev.sendBatch

/-- ISLAND_TIMEOUT (R70). -/
def Dev.islandTimeout (d : Dev) : Dev :=
  if !d.batchRuns || d.ing.outstanding.isEmpty || d.ing.islanded
      || !d.past d.ing.ackTick (msTicks (d.rd ING_ISLAND_TIMEOUT)) then d
  else { d with ing := { d.ing with islanded := true, replaying := false } }

/-- REPLAY_SEND: one batch of the backlog, at no more than ING_REPLAY_RATE records per second (R70). -/
def Dev.replaySend (d : Dev) : Dev :=
  if !d.batchRuns || !d.ing.replaying || d.ing.islanded || decide (d.time.ticks < d.ing.replayTick) then d
  else
    let n := min d.maxRecords d.ing.unsent.length
    let before := d.ing.outstanding.length
    let d := d.closeBatch n true
    if d.ing.outstanding.length = before then d
    else { d with ing := { d.ing with
      replayTick := d.time.ticks + ceilDiv (n * 250000000) (d.rd ING_REPLAY_RATE), replaying := !d.ing.unsent.isEmpty } }

/-- Sequence a is at or before b (modulo 2^32). -/
def seqLe (a b : Nat) : Bool := decide (0 ≤ sext 32 (b + 2 ^ 32 - a % 2 ^ 32))

/-- BATCH_ACK_RECEIVE: an acknowledgement reaches the field module (R69, R70, R224). -/
def Dev.batchAckReceive (d : Dev) : Dev :=
  if !d.batchRuns then d
  else match d.batchLane with
  | none => d
  | some lane =>
    match d.engineFront lane with
    | none => d
    | some f =>
      if udpPort f.data ≠ d.rd TRK_BATCH_PORT + 1 then d
      else
        let d := d.popFront (2 * lane + 1)
        let p := udpPayload f.data
        let stn := leAt p 0 2
        let seq := leAt p 4 4
        match (if p.length = 32 then d.linkOpen (ackNonce stn 1 seq) (p.take 16) [] (p.drop 16) else (d, none)) with
        | (d, none) => d.bump TRK_ACK_FAIL
        | (d, some _) =>
          if stn % 1024 ≠ d.fld TRK_STN 9 0 then d
          else
            let left := d.ing.outstanding.filter fun b => !seqLe b.seq seq
            let back := d.ing.islanded && !d.ing.unsent.isEmpty
            let d := { d with ing := { d.ing with
              outstanding := left, ackedSeq := seq, ackTick := d.time.ticks, islanded := false,
              replaying := d.ing.replaying || back, replayTick := if back then d.time.ticks else d.ing.replayTick } }
            d.closeFullBatches

/-! ## Head-end side (R69) -/

/-- The records of a batch's plain text. -/
def recordsOf : Nat → Bytes → List Bytes
  | 0, _ => []
  | n + 1, b => b.take 48 :: recordsOf n (b.drop 48)

/-- Owe a station the acknowledgement of its last in-order sequence, unless one is owed already. -/
def Dev.ackAgain (d : Dev) (stn expected : Nat) : Dev :=
  if d.ing.acks.any (fun a => a.station == stn) then d
  else { d with ing := { d.ing with
    acks := d.ing.acks ++ [{ station := stn, seq := (expected + 2 ^ 32 - 1) % 2 ^ 32, mirror := 0, write := 0 }] } }

/-- Take a batch in sequence: journal, ring 7, the owed acknowledgement (R19, R69, R293). -/
def Dev.takeBatch (d : Dev) (stn seq count : Nat) (recs : List Bytes) : Dev :=
  let (d, w) := d.journalDrive (48 * count)
  let d := (d.inPush 7 recs).mirror (.batchSeq stn seq)
  { d with ing := { d.ing with
    journalled := d.ing.journalled + count, stations := Assoc.put d.ing.stations stn ((seq + 1) % 2 ^ 32),
    acks := d.ing.acks ++ [{ station := stn, seq := seq, mirror := d.red.nextSeq, write := w }] } }

/-- BATCH_RECEIVE: the oldest datagram of the BATCH lane, when it is a batch (R69). While the journal range is full the head-end
takes none (R335). -/
def Dev.batchReceive (d : Dev) : Dev :=
  if d.role = 0 ∨ !d.starts pING ∨ d.pwr.pfActive ∨ d.pairSlave ∨ d.jrnFull then d
  else match d.batchLane with
  | none => d
  | some lane =>
    match d.engineFront lane with
    | none => d
    | some f =>
      if udpPort f.data ≠ d.rd TRK_BATCH_PORT then d
      else
        let d := d.popFront (2 * lane + 1)
        let p := udpPayload f.data
        let n := p.length - 32
        let seq := leAt p 4 4
        match (if 32 ≤ p.length then
            d.linkOpen (ackNonce (leAt p 0 2) 0 seq) (p.take 16) (slice p 16 n) (p.drop (16 + n)) else (d, none)) with
        | (d, none) => d.bump ING_BATCH_FAIL_COUNT
        | (d, some pt) =>
          let stn := leAt p 0 2 % 1024
          let count := leAt p 2 2
          let expected := Assoc.get 0 d.ing.stations stn
          if seq = expected then
            if d.inLog 7 = 0 ∨ 2 ^ d.inLog 7 < d.inCount 7 + count then d.bump ING_BATCH_BUSY_COUNT
            else d.takeBatch stn seq count (recordsOf count pt)
          else if seqLe seq expected then (d.bump ING_BATCH_DUP_COUNT).ackAgain stn expected
          else (d.bump ING_BATCH_GAP_COUNT).ackAgain stn expected

/-- An acknowledgement may go: mirrored (R293) and journalled (R19). -/
def Dev.ackReady (d : Dev) (a : AckDue) : Bool := d.mirrored a.mirror && d.jrnDurable a.write

/-- BATCH_ACK_SEND: the head-end sends the first acknowledgement that may go (R69, R224). -/
def Dev.batchAckSend (d : Dev) : Dev :=
  if !d.starts pING || d.pwr.pfActive || d.pairSlave || d.jrnFull then d
  else match d.ing.acks.find? d.ackReady with
    | none => d
    | some a =>
      let head := ackHeader a.station a.seq
      match d.linkSeal (ackNonce a.station 1 a.seq) head [] with
      | none => d
      | some tag =>
        let d := { d with ing := { d.ing with
          acks := d.ing.acks.filter fun b => !(b.station == a.station && seqLe b.seq a.seq) } }
        d.sendDatagram a.station (d.rd TRK_BATCH_PORT + 1) (head ++ tag)

end Sys2Proof.Machine
end

