-- ==== Sys2Proof/Machine/FbOps.lean ====
section
/-!
DEFINITION. The field buses (R229 to R232, R235): the poll list, transactions and their results.
-/
namespace Sys2Proof.Machine

def Dev.fbus (d : Dev) (n : Nat) : FbSt := Assoc.get {} d.fb n
def Dev.setFbus (d : Dev) (n : Nat) (x : FbSt) : Dev := { d with fb := Assoc.put d.fb n x }

/-- Bus n runs, and may start a transaction: not in STANDBY or RESYNC, not while it drains (R232). -/
def Dev.fbRuns (d : Dev) (n : Nat) : Bool := d.runs (pFB n) && !d.pairSlave
def Dev.fbStarts (d : Dev) (n : Nat) : Bool := d.linkStarts (pFB n) && !d.pairSlave

/-! ## The poll list (R230) -/

/-- Address of poll list entry e, under the list that governs the bus. -/
def Dev.pollAddr (d : Dev) (n e : Nat) : Nat := d.gov64 (FB_LIST_BASE_LO n) + 32 * e
def Dev.pollLen (d : Dev) (n : Nat) : Nat := d.gov (FB_LIST_LEN n) % 2048

/-- The newest due instant of entry e at the present time. -/
def Dev.pollInstant (d : Dev) (n e : Nat) : Option Nat :=
  let a := d.pollAddr n e
  let period := d.ld (a + 4) 4 * 1000000
  let first := d.rd64 (FB_ORIGIN_LO n) + d.ld (a + 0x10) 4 * 1000000
  if period = 0 ∨ d.ext < first then none else some (first + (d.ext - first) / period * period)

/-- An entry put in order of due time, then number (R231). -/
def insertDue (x : PollDue) : List PollDue → List PollDue
  | [] => [x]
  | y :: t => if x.due < y.due ∨ (x.due = y.due ∧ x.entry < y.entry) then x :: y :: t else y :: insertDue x t

/-- POLL_DUE: entry e falls due; while it still waits from before it is counted in FB_SKIP (R231). -/
def Dev.pollDue (d : Dev) (n e : Nat) : Dev :=
  let x := d.fbus n
  if !d.fbRuns n || decide (d.pollLen n ≤ e) || !(d.ld (d.pollAddr n e) 2).testBit 0 then d
  else match d.pollInstant n e with
    | none => d
    | some t =>
      if t ≤ x.since ∨ t ≤ Assoc.get 0 x.handled e then d
      else
        let d := d.setFbus n { x with handled := Assoc.put x.handled e t }
        let x := d.fbus n
        if x.waiting.any fun y => y.entry == e then d.bump (FB_SKIP n)
        else d.setFbus n { x with waiting := insertDue { entry := e, due := t } x.waiting }

/-! ## Frames (R231, R232) -/

/-- Bits of a character, and the ns of a number of bit times. -/
def Dev.charBits (d : Dev) (n : Nat) : Nat :=
  let c := d.gov (FB_CFG n)
  9 + b2n (c % 4 != 0) + 1 + b2n (c.testBit 2)
def Dev.bitNs (d : Dev) (n bits : Nat) : Nat := ceilDiv (bits * 1000000000) (max 1 (d.gov (FB_BAUD n)))

/-- Octet of the C field of an M-Bus request (R231). -/
def mbusC (b : Bytes) : Nat := if leAt b 0 1 = 0x68 then 4 else 1

/-- The M-Bus checksum of octets from the C field. -/
def mbusSum (b : Bytes) : Nat := (b.foldl (fun s x => s + x.toNat) 0) % 256

/-- A request with its check: Modbus CRC-16, low octet first; M-Bus checksum and 0x16. -/
def withCheck (mbus : Bool) (req : Bytes) : Bytes :=
  if mbus then req ++ leBytes 1 (mbusSum (req.drop (mbusC req))) ++ leBytes 1 0x16
  else req ++ leBytes 2 (crcModbus req)

/-- What a response comes to (R232), by the conditions of the table; framing: a parity, stop-bit or silence error. The order in
which a response with several faults is judged is a DESIGN CHOICE. -/
def judge (mbus framing : Bool) (req resp : Bytes) : Nat :=
  let n := resp.length
  if mbus then
    if 261 < n then 7
    else if framing then 3
    else if n = 1 ∧ leAt resp 0 1 = 0xE5 then 0
    else
      let head := leAt resp 0 1
      let l := leAt resp 1 1
      let size := if head = 0x10 then 5 else l + 6
      if head ≠ 0x10 ∧ head ≠ 0x68 then 3
      else if head = 0x68 ∧ 4 ≤ n ∧ (leAt resp 2 1 ≠ l ∨ leAt resp 3 1 ≠ 0x68) then 3
      else if n < size then 4
      else if leAt resp (size - 1) 1 ≠ 0x16 then 3
      else
        let c := if head = 0x10 then 1 else 4
        if mbusSum (slice resp c (size - 2 - c)) ≠ leAt resp (size - 2) 1 then 2
        else
          let want := leAt req (mbusC req + 1) 1
          if want ≠ 253 ∧ leAt resp (c + 1) 1 ≠ want then 5 else 0
  else if 256 < n then 7
  else if framing then 3
  else if n < 5 then 4
  else if crcModbus (resp.take (n - 2)) ≠ leAt resp (n - 2) 2 then 2
  else if leAt resp 0 1 ≠ leAt req 0 1 then 5
  else if leAt resp 1 1 = leAt req 1 1 % 128 + 128 then 6
  else 0

/-- A response without its check and stop octets. -/
def stripCheck (mbus : Bool) (resp : Bytes) : Bytes :=
  if mbus ∧ resp.length = 1 then resp else resp.take (resp.length - 2)

/-! ## Transactions (R231) -/

/-- The request of the transaction goes out; its last stop bit falls after the gap, DE_LEAD and its characters. -/
def Dev.fbSend (d : Dev) (n : Nat) (x : FbTrans) : Dev :=
  let f := withCheck x.mbus x.req
  let t := d.gov (FB_TIMING n)
  let bits := t / 65536 + t % 256 + f.length * d.charBits n
  let x := { x with sent := d.time.ticks + ceilDiv (d.bitNs n bits) 4 }
  (d.setFbus n { d.fbus n with trans := some x }).send (.fb n) f

/-- FB_TRANSACTION_START: the transmit queue's head first, then the first due entry (R231). -/
def Dev.fbStart (d : Dev) (n : Nat) : Dev :=
  let x := d.fbus n
  let lane := d.fld (FB_LANE n) 8 0
  let dflt := d.rd (FB_TMO n)
  if !d.fbStarts n || x.trans.isSome then d
  else match (if d.laneLink lane = 6 + n ∧ d.laneOn lane then d.txFront? lane else none) with
    | some q =>
      let b := q.data
      let fl := leAt b 0 1
      let tmo := leAt b 1 2
      let t : FbTrans := { entry := none, mbus := fl.testBit 0, bcast := fl.testBit 1, req := b.drop 16,
                           tmo := if tmo = 0 then dflt else tmo, retries := leAt b 3 1, pollCnt := 0, sent := 0 }
      (d.popFront (2 * lane)).fbSend n t
    | none =>
      match x.waiting with
      | [] => d
      | e :: rest =>
        let a := d.pollAddr n e.entry
        let fl := d.ld a 2
        let tmo := d.ld (a + 0x14) 2
        let cnt := (d.ld (a + 0x18) 4 + 1) % 2 ^ 32
        let t : FbTrans := { entry := some e.entry, mbus := fl.testBit 1, bcast := fl.testBit 2,
                             req := d.ldBytes (d.ld (a + 8) 8) (d.ld (a + 2) 2), tmo := if tmo = 0 then dflt else tmo,
                             retries := d.ld (a + 0x16) 1, pollCnt := cnt, sent := 0 }
        (((d.setFbus n { x with waiting := rest }).st (a + 0x18) 4 cnt).bump (FB_POLL_COUNT n)).fbSend n t

/-- The transaction ends with a result: the entry's record, the events and the bus's medium boundary (R41, R232). -/
def Dev.fbFinish (d : Dev) (n : Nat) (t : FbTrans) (r : Nat) : Dev :=
  let good : Bool := r == 0 || r == 6
  let lane := d.fld (FB_LANE n) 8 0
  let d := match t.entry with
    | none => d.bump (if good then LN_TX_OK lane else LN_TX_FAIL lane)
    | some e =>
      let a := d.pollAddr n e
      (d.st (a + 0x1C) 1 r).st (a + 0x1D) 1 (if good then 0 else satNat (d.ld (a + 0x1D) 1 + 1) 255)
  let d := d.iff (!good) (·.wr (FB_LAST_ERR n) (t.entry.getD 0 + 65536 * r))
  let d := if r = 1 then d.raise (pFB n) 0 else if good || r == 8 then d else d.raise (pFB n) 1
  (d.setFbus n { d.fbus n with trans := none }).boundary (onPage (pFB n))

/-- The counter of a result. -/
def fbCounter (n r : Nat) : Nat :=
  match r with
  | 0 => FB_OK n
  | 1 => FB_TIMEOUT n
  | 2 => FB_CRC_ERR n
  | 3 => FB_FRAME_ERR n
  | 4 => FB_RUNT n
  | 5 => FB_ADDR_ERR n
  | 6 => FB_EXCEPTION n
  | 7 => FB_LONG n
  | _ => FB_REFUSED n

/-- A try has a result: the transaction ends, or the request is sent again (R231). -/
def Dev.fbTry (d : Dev) (n : Nat) (t : FbTrans) (r : Nat) : Dev :=
  let d := d.bump (fbCounter n r)
  if r = 0 ∨ r = 6 ∨ r = 8 ∨ t.retries ≤ t.tries then d.fbFinish n t r
  else (d.bump (FB_RETRY n)).fbSend n { t with tries := t.tries + 1 }

/-- FB_RESPONSE: a response ends; ago: ns since its first start bit (R232). OK and EXCEPTION go to the lane's receive queue. -/
def Dev.fbResponse (d : Dev) (n : Nat) (resp : Bytes) (framing : Bool) (ago : Nat) : Dev :=
  match (d.fbus n).trans with
  | none => d
  | some t =>
    if t.bcast ∨ ¬d.runs (pFB n) then d
    else
      let r := judge t.mbus framing t.req resp
      if r = 0 ∨ r = 6 then
        let lane := d.fld (FB_LANE n) 8 0
        let head := leBytes 2 (t.entry.getD 0xFFFF) ++ leBytes 1 r ++ leBytes 1 (t.tries + 1) ++ leBytes 4 t.pollCnt ++ zeroBytes 8
        let unc := d.stampUnc (ceilDiv 1000000000 (16 * max 1 (d.gov (FB_BAUD n))) + 50)
        let (d, ok) := d.pushFrame (2 * lane + 1) 0 (head ++ stripCheck t.mbus resp) (d.ext - ago) unc
        if ok then (d.bump (LN_RX_OK lane)).fbTry n t r else d.fbTry n t 8
      else d.fbTry n t r

/-- FBS_POLL_TIMEOUT: no start bit within the response timeout. -/
def Dev.fbTimeout (d : Dev) (n : Nat) : Dev :=
  match (d.fbus n).trans with
  | none => d
  | some t => if t.bcast ∨ ¬d.runs (pFB n) ∨ ¬d.past t.sent (msTicks t.tmo) then d else d.fbTry n t 1

/-- FB_TURN_END: FB_TURN has passed after a broadcast. -/
def Dev.fbTurnEnd (d : Dev) (n : Nat) : Dev :=
  match (d.fbus n).trans with
  | none => d
  | some t => if ¬t.bcast ∨ ¬d.runs (pFB n) ∨ ¬d.past t.sent (msTicks (d.rd (FB_TURN n))) then d else d.fbTry n t 0

/-! ## The pages (R235) -/

/-- The computed registers of an FB page. -/
def fbRead (d : Dev) (n off : Nat) : Option Nat :=
  if off = 0x180 then
    let x := d.fbus n
    let e := match x.trans with | none => 0 | some t => t.entry.getD 0
    some (e + 32768 * b2n x.trans.isSome + 65536 * satNat x.waiting.length 255)
  else none

def fbBusy (d : Dev) (n : Nat) : Bool := (d.fbus n).trans.isSome

/-- The bus begins: entries due up to now are not taken. -/
def Dev.fbBegin (d : Dev) (n : Nat) : Dev := d.setFbus n { since := d.ext }

/-- At takeover the bus resumes with the entries then due (R232): no instant has been handled. -/
def Dev.fbTakeover (d : Dev) (n : Nat) : Dev := d.setFbus n { d.fbus n with since := 0 }

/-- A soft reset. -/
def fbReset (d : Dev) (n : Nat) : Dev := d.setFbus n {}

end Sys2Proof.Machine
end

