-- ==== Sys2Proof/Machine/SealOps.lean ====
section
/-!
DEFINITION. Sealing (R81 to R93): the seal's states, ashlar headers, amendments, retained sets, export and the live fence.
-/
namespace Sys2Proof.Machine

/-- The client of sealing. -/
abbrev sealClient : Client := ⟨pEPC, 0⟩

/-- EPC may take a step of a seal; while it drains only the steps out of FINALISE and HASH (R380). -/
def Dev.sealRuns (d : Dev) : Bool :=
  d.continues pEPC && (!d.drains pEPC || d.epc.state == .finalise || d.epc.state == .hash) && !epcCfgInvalid d &&
    !d.pwr.pfActive && d.role != 0

/-- Leave of the sealing class stands, asked for again where it was lost. -/
def Dev.sealLeave (d : Dev) : Dev × Bool :=
  let d := d.request 7 sealClient
  (d, d.granted 7 sealClient)

/-- The seal instant of an epoch: its boundary, and the settle window now in force of its own lengths (R76, R81). -/
def Dev.sealInstantOf (d : Dev) (e : EpochRec) : Nat := e.tEnd + d.settle * e.length

/-- SEAL_INSTANT: the oldest unsealed epoch is due. -/
def Dev.sealInstant (d : Dev) : Dev :=
  match d.epc.unsealed with
  | [] => d
  | e :: _ =>
    let due := d.sealInstantOf e
    if !d.sealRuns || d.epc.state != .idle || decide (d.ext < due) then d
    else ({ d with epc := { d.epc with state := .leave, instant := due } } : Dev).request 7 sealClient

/-! ## Ashlars (R85) -/

/-- An empty ashlar of a type for an epoch. -/
def newAshlar (typ : Nat) (e : EpochRec) (leaves : List Bytes) : Ashlar :=
  { typ := typ, epoch := e, amendNo := 0, amendsRoot := zeroBytes 32, leaves := leaves, root := [], digest := [] }

/-- An entry is ESTIMATED. -/
def entryEstimated (e : Bytes) : Bool := entryKind e == 1 && (leAt e 0x38 1).testBit 1

/-- The bytes 0x00 to 0x9F of a header. -/
def Dev.headerText (d : Dev) (a : Ashlar) (seq slot : Nat) (prev : Bytes) : Bytes :=
  let e := a.epoch
  leBytes 2 1 ++ leBytes 1 a.typ ++ leBytes 1 e.len ++ leBytes 4 (d.rd EPC_SITE_ID) ++ leBytes 8 e.no ++ leBytes 8 e.tStart ++
  leBytes 8 e.tEnd ++ leBytes 8 seq ++ leBytes 8 d.ext ++ leBytes 4 a.leaves.length ++ leBytes 4 e.gen ++
  leBytes 1 e.worst ++
  leBytes 1 (b2n e.stepped + 2 * b2n (d.rd EPC_UNCOVERED != 0) + 4 * b2n (a.leaves.any entryEstimated)) ++
  leBytes 2 a.amendNo ++ leBytes 4 (slot + 256 * (d.slot slot).gen) ++ prev ++ a.root ++ a.amendsRoot

/-- The hash that the next header carries: of the newest header, zero for the first. -/
def Dev.prevHash (d : Dev) : Bytes :=
  match (d.epc.ashlars.filter fun a => !a.header.isEmpty).getLast? with
  | none => zeroBytes 32
  | some a => sha256 a.header

/-- The configuration digest of R294: the S registers of pages 0x13 to 0x18 as live at T_END, EPC_SIGN_SLOT left out. The
manual gives the hash and not the order of its input: ascending addresses, little-endian words (DESIGN CHOICE). -/
def Dev.configDigest (d : Dev) (t : Nat) : Bytes :=
  sha256 ([19, 20, 21, 22, 23, 24].flatMap fun p =>
    ((pageRegs p).filter fun r => r.cls == .s).flatMap fun r =>
      (List.range r.count).flatMap fun i =>
        let a := pageBase p + r.off + r.stride * i
        if a = EPC_SIGN_SLOT then [] else leBytes 4 (d.cfgAt t a))

/-- The descriptor of an ashlar (R92); the archive position is the block of the archive range at which it begins. -/
def descriptorOf (a : Ashlar) (pos : Nat) : Bytes :=
  a.header ++ leBytes 8 a.leafAddr ++ leBytes 8 a.nodeAddr ++ leBytes 8 pos ++ zeroBytes 8

/-- A root for RED's comparison (R294): only where a partner is there to compare. -/
def Dev.ownRoot (d : Dev) (a : Ashlar) : Dev :=
  if !(d.pairSlave || d.mirrors) then d
  else { d with red := { d.red with roots := d.red.roots ++ [{
    own := true, epoch := a.epoch.no, typ := a.typ, amend := a.amendNo, root := a.root, digest := a.digest }] } }

/-- A signed ashlar enters the chain: archive, mirror, descriptor, EPC_SEAL_SEQ and EPC_LAST_ROOT (R81, R92, R293). -/
def Dev.keepAshlar (d : Dev) (a : Ashlar) : Dev :=
  let pos := d.rd64 NVS_ARC_LBA_LO + d.io.arcHead
  let d := (d.nvsSubmit (.archive a.sealSeq) (224 + 64 * a.leaves.length)).mirror (.header a.header a.digest)
  let due : DescDue := { sealSeq := a.sealSeq, mirror := d.red.nextSeq, bytes := descriptorOf a pos }
  let d := { d with epc := { d.epc with ashlars := d.epc.ashlars ++ [a], descs := d.epc.descs ++ [due] } }
  let d := d.bump EPC_ESTIMATED_COUNT (a.leaves.countP entryEstimated)
  let d := d.wr64 EPC_SEAL_SEQ_LO a.sealSeq
  d.each (List.range 8) fun d k => d.wr (EPC_LAST_ROOT k) (leAt a.root (4 * k) 4)

/-- Sign an ashlar under its epoch's slot and keep it (R87); none while KEY cannot sign. -/
def Dev.signAshlar (d : Dev) (a : Ashlar) : Option Dev :=
  let seq := d.rd64 EPC_SEAL_SEQ_LO + 1
  let text := d.headerText a seq a.epoch.slot d.prevHash
  if !d.en pKEY then none
  else (d.signUnder a.epoch.slot (sha256 text)).map fun (d, sig) =>
    d.keepAshlar { a with header := text ++ sig, sealSeq := seq }

/-! ## Retained sets (R91) -/

/-- The base of set k, and the bytes an area holds. -/
def Dev.setBase (d : Dev) (k : Nat) : Nat := if k = 0 then d.rd64 EPC_SET0_BASE_LO else d.rd64 EPC_SET1_BASE_LO
def Dev.setRoom (d : Dev) : Nat := 224 + 96 * d.rd EPC_SET_CAP
def Dev.setFill (d : Dev) (k : Nat) : Nat := if k = 0 then d.epc.fill0 else d.epc.fill1
def Dev.putFill (d : Dev) (k n : Nat) : Dev :=
  { d with epc := if k = 0 then { d.epc with fill0 := n } else { d.epc with fill1 := n } }

/-- Firmware has consumed an ashlar's descriptor. -/
def Dev.consumed (d : Dev) (a : Ashlar) : Bool :=
  !(d.epc.descs.any fun x => x.sealSeq == a.sealSeq) &&
  (match a.exportNo with
    | none => true
    | some n => decide (0 < sext 32 (d.rd EPC_EXP_CONS + 2 ^ 32 - n)))

/-- Set k may be overwritten (R91, R116). -/
def Dev.setFree (d : Dev) (k : Nat) : Bool :=
  !d.epc.pinned.contains k && (d.epc.ashlars.filter fun a => a.setNo == some k).all d.consumed

/-- The set that holds an epoch. -/
def Dev.setOf (d : Dev) (no : Nat) : Option Nat :=
  (d.epc.ashlars.find? fun a => a.typ == 0 && a.epoch.no == no && a.setNo.isSome).bind (·.setNo)

/-- Write leaves and inner nodes into set k behind what it holds: the addresses; none without room. -/
def Dev.putInSet (d : Dev) (k : Nat) (leaves : List Bytes) : Option (Dev × Nat × Nat) :=
  let nodes := innerNodes leaves
  let at' := d.setFill k
  if d.setRoom < at' + 64 * leaves.length + 32 * nodes.length then none
  else
    let a := d.setBase k + at'
    let n := a + 64 * leaves.length
    some (((d.stBytes a leaves.flatten).stBytes n nodes.flatten).putFill k (at' + 64 * leaves.length + 32 * nodes.length), a, n)

/-! ## Amendments (R82, R88) -/

/-- The entry of an endpoint for a sealed boundary, recomputed: old is the entry that stands; none when neither a value nor a
delta changes. -/
def Dev.amendEntry (d : Dev) (e : EpochRec) (i : Nat) (late : Bool) (old : Bytes) (recompute : Bool) : Option Bytes :=
  let key := entryKey old
  let prev := entryIn d.epc.ashlars e.tStart 1 key
  let pf := (prev.map entryValF).getD 0
  let pr := (prev.map entryValR).getD 0
  let lateBit := if late then qLATE else 0
  let new :=
    if recompute then
      boundaryEntry key (d.valueAt i e.tEnd) e.tEnd pf pr (leAt old 0x3B 1) (leAt old 0x3C 1) (leAt old 0x3D 1) lateBit
    else
      old.take 0x18 ++ leBytes 8 (enc 64 (s64 (entryValF old - pf))) ++ leBytes 8 (enc 64 (s64 (entryValR old - pr))) ++
      slice old 0x28 16 ++ leBytes 1 (leAt old 0x38 1 ||| lateBit) ++ old.drop 0x39
  if slice new 8 32 = slice old 8 32 then none else some new

/-- The newest root of an epoch, and how many amendments it has. -/
def Dev.newestRoot (d : Dev) (no : Nat) : Bytes :=
  ((d.epc.ashlars.filter fun a => a.epoch.no == no && a.typ != 2).getLast?).elim (zeroBytes 32) (·.root)
def Dev.amendCount (d : Dev) (no : Nat) : Nat := d.epc.ashlars.countP fun a => a.epoch.no == no && a.typ == 1

/-- One AMENDMENT ashlar, its root computed, placed behind its epoch's set where that has room. -/
def Dev.buildAmend (d : Dev) (e : EpochRec) (leaves : List Bytes) : Dev × Ashlar :=
  let leaves := sortEntries leaves
  let a := { newAshlar 1 e leaves with
    amendNo := d.amendCount e.no + 1, amendsRoot := d.newestRoot e.no, root := merkleRoot leaves, digest := d.configDigest e.tEnd }
  match d.setOf e.no with
  | none => (d, a)
  | some k =>
    match d.putInSet k leaves with
    | none => (d, a)
    | some (d, x, y) => (d, { a with leafAddr := x, nodeAddr := y, setNo := some k })

/-- Amend one sealed epoch; moved lists the endpoints whose entry at the boundary before has just changed, with their LATE:
the device and the endpoints whose entry changes here. None while KEY cannot sign. -/
def Dev.amendEpoch (d : Dev) (e : EpochRec) (moved : List (Nat × Bool)) : Option (Dev × List (Nat × Bool)) :=
  let marks := d.epc.marks.filter fun m => m.tEnd == e.tEnd
  let hit := sortUniq (marks.map (·.idx) ++ moved.map (·.1))
  let changed := hit.filterMap fun i =>
    let late := marks.any (fun m => m.idx == i && m.late) || moved.any fun m => m.1 == i && m.2
    match entryIn d.epc.ashlars e.tEnd 1 (d.recGet i rADDR 8) with
    | none => none
    | some old => (d.amendEntry e i late old (marks.any fun m => m.idx == i)).map fun x => (i, late, x)
  let d := { d with epc := { d.epc with marks := d.epc.marks.filter fun m => m.tEnd != e.tEnd } }
  if changed.isEmpty then some (d, [])
  else
    let entries := changed.map (·.2.2)
    let (d, zs) := d.balAmend e.tEnd entries
    let (d, a) := d.buildAmend e (entries ++ zs)
    let out := changed.map fun x => (x.1, x.2.1)
    let d := d.ownRoot a
    if d.pairSlave then some ({ d with epc := { d.epc with ashlars := d.epc.ashlars ++ [a] } }, out)
    else (d.signAshlar a).map fun d => ((d.bump EPC_AMEND_COUNT).raise pEPC 2, out)

/-- Amend the sealed epochs in ascending order. -/
def Dev.amendAll : List EpochRec → List (Nat × Bool) → Dev → Option Dev
  | [], _, d => some d
  | e :: rest, moved, d =>
    if !d.amendable e then Dev.amendAll rest [] { d with epc := { d.epc with marks := d.epc.marks.filter fun m => m.tEnd != e.tEnd } }
    else match d.amendEpoch e moved with
      | none => none
      | some (d, moved) => Dev.amendAll rest moved d

/-- SEAL_LEAVE_GRANTED: the pending amendments seal, then FINALISE (R81, R82). -/
def Dev.sealLeaveGranted (d : Dev) : Dev :=
  if !d.sealRuns || d.epc.state != .leave then d
  else
    let (d, ok) := d.sealLeave
    if !ok then d
    else match Dev.amendAll d.sealedEpochs [] d with
      | none => d
      | some d => { d with epc := { d.epc with state := .finalise } }

/-! ## The due epoch -/

/-- The tariff register that TRF reports at a boundary (R83). -/
def Dev.trfReport (d : Dev) (i t : Nat) : Nat := if d.en pTRF then d.tariffAt (d.schemeNo i) t (d.cls == .invalid) else 0

/-- The entry of endpoint i for epoch e. -/
def Dev.finalEntry (d : Dev) (e : EpochRec) (i : Nat) (v : BVal) : Bytes :=
  let key := d.recGet i rADDR 8
  let prev := entryIn d.epc.ashlars e.tStart 1 key
  boundaryEntry key v e.tEnd ((prev.map entryValF).getD 0) ((prev.map entryValR).getD 0) (d.trfReport i e.tEnd)
    (bitsOf (d.recGet i rASSIGN 4) 7 0) (d.recState i) 0

/-- What TRF's closing takes from an endpoint's boundary value. -/
def closeIn (i : Nat) (v : BVal) : CloseIn :=
  { idx := i, method := v.method, val := v.valF, quality := v.flags,
    a := match v.before with | none => ⟨0, 0⟩ | some p => ⟨p.t, p.cls⟩,
    aCum := match v.before with | none => 0 | some p => p.cumF }

/-- BAL's epoch cadence is configured at an instant. -/
def Dev.balEpochOn (d : Dev) (t : Nat) : Bool := (d.cfgAt t BAL_CFG).testBit 0

/-- SEAL_FINALISE: every endpoint of the epoch has its entry, and a due closing its leaves (R81, R83, R106). -/
def Dev.sealFinalise (d : Dev) : Dev :=
  match d.epc.unsealed with
  | [] => d
  | e :: rest =>
    if !d.sealRuns || d.epc.state != .finalise then d
    else
      let (d, ok) := d.sealLeave
      if !ok then d
      else
        let all := d.endpoints known
        let cap := d.rd EPC_WORK_CAP
        let mine := (all.filter fun i => decide (i < cap)).map fun i => (i, d.valueAt i e.tEnd)
        let leaves := sortEntries (mine.map fun x => d.finalEntry e x.1 x.2)
        let d := d.wr EPC_UNCOVERED (all.length - mine.length)
        let due : Bool := d.rd64 TRF_PEND_CLOSE_LO == e.tEnd && !d.trf.closing.isEmpty
        let (d, closing) :=
          if due then
            let (d, l) := d.closeLeaves e.tEnd (mine.map fun x => closeIn x.1 x.2)
            (d, some (e, sortEntries l))
          else (d, none)
        { d with epc := { d.epc with
          unsealed := rest, job := some (newAshlar 0 e leaves), closing := closing, zones := [], balDone := false,
          state := if d.balEpochOn e.tEnd then .waitBal else .hash } }

/-- BAL_EPOCH_REPORT: BAL has balanced and its records are written, or BAL is disabled (R81, R135, R139). -/
def Dev.balEpochReport (d : Dev) : Dev :=
  match d.epc.job with
  | none => d
  | some j =>
    if !d.sealRuns || d.epc.state != .waitBal then d
    else if (d.epc.balDone && d.bal.susp.isEmpty) || !d.en pBAL then
      let leaves := sortEntries (j.leaves ++ d.epc.zones)
      { d with epc := { d.epc with job := some { j with leaves := leaves }, zones := [], state := .hash } }
    else d

/-- SEAL_HASH_DONE: the tree stands, in the retained set for an EPOCH; the leave ends (R81, R86, R91). -/
def Dev.sealHashDone (d : Dev) : Dev :=
  match d.epc.job with
  | none => d
  | some j =>
    if !d.sealRuns || d.epc.state != .hash then d
    else
      let (d, ok) := d.sealLeave
      let k := d.epc.nextSet
      if !ok || (j.typ == 0 && !d.setFree k) then d
      else
        let j := { j with root := merkleRoot j.leaves, digest := d.configDigest j.epoch.tEnd }
        let (d, j) :=
          if j.typ ≠ 0 then (d, j)
          else
            let d := { d with epc := { d.epc with
              ashlars := d.epc.ashlars.map fun (a : Ashlar) => if a.setNo = some k then { a with setNo := none } else a,
              nextSet := 1 - k } }
            let d := d.putFill k 224
            match d.putInSet k j.leaves with
            | none => (d, j)
            | some (d, x, y) =>
              (d.wr64 (if k = 0 then EPC_SET_EPOCH0_LO else EPC_SET_EPOCH1_LO) j.epoch.no,
                { j with leafAddr := x, nodeAddr := y, setNo := some k })
        let d := ({ d with epc := { d.epc with job := some j, state := .waitSign } } : Dev).ownRoot j
        d.giveBack 7 sealClient

/-- The signed header goes into the ashlar's set. -/
def Dev.headerToSet (d : Dev) (a : Ashlar) : Dev :=
  match a.setNo with
  | none => d
  | some k => if a.typ = 0 then d.stBytes (d.setBase k) a.header else d

/-- The signatures that a standby's amendments still lack when it has become the active (R383). -/
def Dev.signPending (d : Dev) : Option Dev :=
  let bare := d.epc.ashlars.filter fun a => a.header.isEmpty
  let kept := { d with epc := { d.epc with ashlars := d.epc.ashlars.filter fun a => !a.header.isEmpty } }
  bare.foldl (fun (r : Option Dev) a =>
    r.bind fun d => (d.signAshlar a).map fun d => (d.bump EPC_AMEND_COUNT).raise pEPC 2) (some kept)

/-- SEAL_SIGNED: KEY returns the signature; the ashlar goes to the set and the archive (R81, R87). A standby does not sign
(R93). -/
def Dev.sealSigned (d : Dev) : Dev :=
  match d.epc.job with
  | none => d
  | some j =>
    if !d.sealRuns || d.pairSlave || d.epc.state != .waitSign then d
    else match d.signPending with
      | none => d
      | some d =>
        match d.signAshlar j with
        | none => d
        | some d =>
          let d := match d.epc.ashlars.getLast? with | none => d | some a => d.headerToSet a
          { d with epc := { d.epc with state := .exporting } }

/-! ## Export (R92) -/

/-- LOG2 of the export ring, its entries waiting, and whether it takes no descriptor. -/
def Dev.expLog (d : Dev) : Nat := d.fld EPC_EXP_CFG 4 0
def Dev.expCount (d : Dev) : Nat := d.waiting EPC_EXP_PROD EPC_EXP_CONS
def Dev.expFull (d : Dev) : Bool := d.expLog == 0 || decide (2 ^ d.expLog ≤ d.expCount)

/-- Generations whose fire lies in a sealed epoch are retired (R42). -/
def Dev.retireGens (d : Dev) : Dev :=
  match d.newestSealed with
  | none => d
  | some e => { d with cmt := { d.cmt with gens := d.cmt.gens.filter fun g => decide (e.tEnd < g.fired) } }

/-- The seal in EXPORT is done: event 29, EPC_SEALED_NO, the latency; a due CLOSING ashlar begins (R81, R84). -/
def Dev.sealEnd (d : Dev) (j : Ashlar) : Dev :=
  let d := (d.bump EPC_SEAL_COUNT).raise pEPC 1
  let d := if j.typ = 2 then d.closeSealed j.epoch.tEnd else d.wr64 EPC_SEALED_NO_LO j.epoch.no
  let d := (d.wr EPC_SEAL_LAT_MS (satNat ((d.ext - d.epc.instant) / 1000000) m32)).retireGens
  match d.epc.closing with
  | some (e, leaves) =>
    ({ d with epc := { d.epc with job := some (newAshlar 2 e leaves), closing := none, state := .hash } } : Dev).request 7 sealClient
  | none => { d with epc := { d.epc with job := none, state := .idle } }

/-- SEAL_EXPORT: the oldest waiting descriptor takes a free slot, once the mirror has it (R81, R92, R293). -/
def Dev.sealExport (d : Dev) : Dev :=
  match d.epc.descs with
  | [] => d
  | x :: rest =>
    if !d.sealRuns || d.pairSlave || d.expFull || !d.mirrored x.mirror then d
    else
      let prod := d.rd EPC_EXP_PROD
      let d := (d.stBytes (d.rd64 EPC_EXP_BASE_LO + 256 * (prod % 2 ^ d.expLog)) x.bytes).wr EPC_EXP_PROD (prod + 1)
      let d := { d with epc := { d.epc with
        descs := rest, ashlars := d.epc.ashlars.map fun (a : Ashlar) => if a.sealSeq = x.sealSeq then { a with exportNo := some prod } else a } }
      match d.epc.job, d.epc.state with
      | some j, .exporting => if d.rd64 EPC_SEAL_SEQ_LO = x.sealSeq ∧ rest.isEmpty then d.sealEnd j else d
      | _, _ => d

/-! ## The standby's chain (R93, R296, R383) -/

/-- A signed header of the active arrives: the standby's own ashlar of that epoch, type and amendment takes it. -/
def Dev.takeHeader (d : Dev) (h digest : Bytes) : Dev :=
  let typ := leAt h 2 1
  let no := leAt h 8 8
  let amend := leAt h 0x3A 2
  let seq := leAt h 0x20 8
  let theirs : RootRec := { own := false, epoch := no, typ := typ, amend := amend, root := slice h 0x60 32, digest := digest }
  let d : Dev := { d with red := { d.red with roots := d.red.roots ++ [theirs] } }
  let d := d.wr64 EPC_SEAL_SEQ_LO seq
  let signed := fun (a : Ashlar) => ({ a with header := h, sealSeq := seq } : Ashlar)
  let mine := fun (a : Ashlar) => a.typ == typ && a.epoch.no == no && a.amendNo == amend
  match d.epc.job with
  | some j =>
    if mine j && d.epc.state == SealState.waitSign then
      let a := signed j
      let pos := d.rd64 NVS_ARC_LBA_LO + d.io.arcHead
      let d := d.nvsSubmit (.archive seq) (224 + 64 * a.leaves.length)
      let d := { d with epc := { d.epc with
        ashlars := d.epc.ashlars ++ [a], state := .idle, job := none,
        descs := [{ sealSeq := seq, mirror := 0, bytes := descriptorOf a pos }] } }
      let d := if typ = 2 then d.closeSealed a.epoch.tEnd else d.wr64 EPC_SEALED_NO_LO no
      let d := (d.headerToSet a).retireGens
      match d.epc.closing with
      | some (e, leaves) =>
        ({ d with epc := { d.epc with job := some (newAshlar 2 e leaves), closing := none, state := .hash } } : Dev).request 7 sealClient
      | none => d
    else { d with epc := { d.epc with ashlars := d.epc.ashlars.map fun (a : Ashlar) => if mine a then signed a else a } }
  | none => { d with epc := { d.epc with ashlars := d.epc.ashlars.map fun (a : Ashlar) => if mine a then signed a else a } }

/-! ## The live fence (R90) -/

/-- OBJ holds the live fence for a group (R116). -/
def Dev.objFence (d : Dev) : Bool := match d.obj.group with | none => false | some g => g.fenced

/-- A write of EPC_LIVE_FENCE; the fence stays while OBJ holds it for a group. -/
def Dev.writeFence (d : Dev) (v : Nat) : Dev :=
  let d := d.wr EPC_LIVE_FENCE (v % 2)
  if v.testBit 0 then
    { d with epc := { d.epc with
      fence := match d.epc.fence with | some t => some t | none => some d.time.ticks, expired := false } }
  else if d.objFence then d
  else { d with epc := { d.epc with fence := none } }

/-- FENCE_EXPIRE: EPC_FENCE_MAX has passed; a LIVE group of OBJ sees the expiry (R90, R116). -/
def Dev.fenceExpire (d : Dev) : Dev :=
  match d.epc.fence with
  | none => d
  | some t =>
    if !d.past t (usTicks (d.rd EPC_FENCE_MAX)) then d
    else
      let d := d.wr EPC_LIVE_FENCE 0
      { d with
        epc := { d.epc with fence := none, expired := true },
        obj := { d.obj with group := d.obj.group.map fun g => if g.view = 0 then { g with expired := true, fenced := false } else g } }

/-! ## The page (R94) -/

def SealState.code : SealState → Nat
  | .idle => 0
  | .leave => 1
  | .finalise => 2
  | .waitBal => 3
  | .hash => 4
  | .waitSign => 5
  | .exporting => 6

def epcRead (d : Dev) (off : Nat) : Option Nat :=
  if off = 0x164 then some d.expCount
  else if off = 0x180 then some (d.nextBoundary % 2 ^ 32)
  else if off = 0x184 then some (d.nextBoundary / 2 ^ 32)
  else if off = 0x1A8 then some (b2n d.epc.fence.isSome)
  else if off = 0x1AC then some (b2n d.epc.fence.isSome + 2 * b2n d.epc.expired)
  else if off = 0x1C0 then some (d.epc.state.code + 256 * satNat (sortUniq (d.epc.marks.map (·.tEnd))).length 255)
  else none

def epcWrite (d : Dev) (off v : Nat) : WriteRes := if off = 0x1A8 then .done (d.writeFence v) else .plain

/-- A seal waits (R81, R91). -/
def Dev.sealWaits (d : Dev) : Bool :=
  match d.epc.state with
  | .leave => true
  | .waitBal => true
  | .waitSign => true
  | .exporting => true
  | .hash => !d.setFree d.epc.nextSet
  | _ => false

def epcPgStat (d : Dev) : Nat :=
  4 * b2n (epcCfgInvalid d) + 8 * b2n d.sealWaits + 16 * b2n (d.expLog != 0 && d.expFull) + 32 * b2n (d.rd EPC_UNCOVERED != 0)

def epcBusy (d : Dev) : Bool := d.epc.state != .idle

/-- What of EPC is on the drive, and what is in DRAM: the archive of ashlars; with keepDram also the retained sets and the work
area of readings and late changes (DEDUCED: R24, R319 reset the block's own state, not DRAM). -/
def EpcSt.kept (e : EpcSt) (keepDram : Bool) : EpcSt :=
  let arch := e.ashlars.map fun (a : Ashlar) => { a with setNo := if keepDram then a.setNo else none, exportNo := none }
  if keepDram then { ashlars := arch, points := e.points, marks := e.marks, nextSet := e.nextSet, fill0 := e.fill0, fill1 := e.fill1 }
  else { ashlars := arch }

/-- The sequence registers are restored from the archive (R94). -/
def Dev.epcRestore (d : Dev) : Dev :=
  let last := (d.epc.ashlars.filter fun a => !a.header.isEmpty).getLast?
  (d.wr64 EPC_SEAL_SEQ_LO (last.elim 0 (·.sealSeq))).wr64 EPC_SEALED_NO_LO (d.newestSealed.elim 0 (·.no))

/-- A soft reset of EPC (R24). -/
def epcReset (d : Dev) : Dev :=
  (({ d with epc := d.epc.kept true } : Dev).giveBack 7 sealClient).epcRestore.epcBegin

end Sys2Proof.Machine
end

