-- ==== Sys2Proof/Machine/ObjOps.lean ====
section
/-!
DEFINITION. The object engine (R113 to R123): requests, rights, views, groups, responses and audit.
-/
namespace Sys2Proof.Machine

/-! ## Results (R120) -/

abbrev oOK : Nat := 0
abbrev oNO_OBJECT : Nat := 1
abbrev oNO_ATTRIBUTE : Nat := 2
abbrev oDENIED_RIGHT : Nat := 3
abbrev oDENIED_PROTECTION : Nat := 4
abbrev oDENIED_LIFECYCLE : Nat := 5
abbrev oRANGE : Nat := 6
abbrev oVIEW_UNAVAILABLE : Nat := 7
abbrev oRETRY : Nat := 8
abbrev oLENGTH : Nat := 9
abbrev oREAD_ONLY_VIEW : Nat := 10
abbrev oBUSY : Nat := 11
abbrev oGROUP_LIMIT : Nat := 12
abbrev oSTANDBY : Nat := 13
abbrev oAUDIT_FULL : Nat := 14

/-- OP codes. -/
abbrev opGET : Nat := 1
abbrev opSET : Nat := 2
abbrev opACTION : Nat := 3

/-- A request (R120). -/
structure Req where
  target : Nat
  obis : List Nat
  cls : Nat
  id : Nat
  op : Nat
  role : Nat
  prot : Nat
  view : Nat
  tag : Nat
  viewSeq : Nat
  dataAddr : Nat
  dataLen : Nat
  session : Nat
  group : Nat
  deriving DecidableEq, Repr

/-- A request from its 64 bytes. -/
def Req.ofBytes (b : Bytes) : Req :=
  { target := leAt b 0 8, obis := (slice b 8 6).map (·.toNat), cls := leAt b 0xE 1, id := leAt b 0xF 1, op := leAt b 0x10 1,
    role := leAt b 0x11 1 % 16, prot := leAt b 0x12 1, view := leAt b 0x13 1, tag := leAt b 0x14 4, viewSeq := leAt b 0x18 8,
    dataAddr := leAt b 0x20 8, dataLen := leAt b 0x28 4, session := leAt b 0x2C 2, group := leAt b 0x2E 2 }

/-- The slot of the rights table that a request names (R118, R119). -/
def Req.slot (q : Req) : Nat := if q.op = opACTION then 16 + q.id else q.id

/-! ## Rings (R123) -/

def Dev.reqLog (d : Dev) : Nat := d.fld OBJ_REQ_CFG 4 0
def Dev.reqCount (d : Dev) : Nat := d.waiting OBJ_REQ_PROD OBJ_REQ_CONS
def Dev.rspLog (d : Dev) : Nat := d.fld OBJ_RSP_CFG 4 0
def Dev.rspFull (d : Dev) : Bool := d.rspLog == 0 || decide (2 ^ d.rspLog ≤ d.waiting OBJ_RSP_PROD OBJ_RSP_CONS)
def Dev.audLog (d : Dev) : Nat := d.fld OBJ_AUD_CFG 4 0
def Dev.audFull (d : Dev) : Bool := d.audLog == 0 || decide (2 ^ d.audLog ≤ d.waiting OBJ_AUD_PROD OBJ_AUD_CONS)

/-- CFG_INVALID of OBJ: a base that is not 0, or an enabled ring, lies outside DRAM. -/
def objCfgInvalid (d : Dev) : Bool :=
  let far := fun (a n : Nat) => d.rd64 a != 0 && outside (d.rd64 a) n
  let ring := fun (a n log : Nat) => log != 0 && outside (d.rd64 a) (n * 2 ^ log)
  far OBJ_RIGHTS_BASE_LO 16384 || far OBJ_USER_BASE_LO 16384 || far OBJ_REQ_BASE_LO 1 || far OBJ_RSP_BASE_LO 1 ||
  far OBJ_AUD_BASE_LO 1 || ring OBJ_REQ_BASE_LO 64 d.reqLog || ring OBJ_RSP_BASE_LO 32 d.rspLog || ring OBJ_AUD_BASE_LO 32 d.audLog

/-- The k-th waiting request. -/
def Dev.reqAt (d : Dev) (k : Nat) : Req :=
  Req.ofBytes (d.ldBytes (d.rd64 OBJ_REQ_BASE_LO + 64 * ((d.rd OBJ_REQ_CONS + k) % 2 ^ d.reqLog)) 64)

/-- Write a response. -/
def Dev.respond (d : Dev) (q : Req) (result seq written : Nat) : Dev :=
  let prod := d.rd OBJ_RSP_PROD
  let x := leBytes 4 q.tag ++ leBytes 1 result ++ leBytes 1 q.view ++ zeroBytes 2 ++ leBytes 8 seq ++ leBytes 4 written ++ zeroBytes 12
  (d.stBytes (d.rd64 OBJ_RSP_BASE_LO + 32 * (prod % 2 ^ d.rspLog)) x).wr OBJ_RSP_PROD (prod + 1)

/-- Write an audit record (R122); deny marks a denial, which a full ring leaves out. -/
def Dev.audit (d : Dev) (q : Req) (deny : Bool) : Dev :=
  if d.audFull then d
  else
    let prod := d.rd OBJ_AUD_PROD
    let x := leBytes 4 q.tag ++ leBytes 2 q.session ++ leBytes 1 q.role ++ leBytes 1 (q.op + 128 * b2n deny) ++
      q.obis.flatMap (fun v => leBytes 1 v) ++ leBytes 1 q.cls ++ leBytes 1 q.id ++ leBytes 8 q.target ++ leBytes 8 d.ext
    (d.stBytes (d.rd64 OBJ_AUD_BASE_LO + 32 * (prod % 2 ^ d.audLog)) x).wr OBJ_AUD_PROD (prod + 1)

/-! ## Objects (R113, R114) -/

/-- What a request's identifier, class and target match. -/
inductive Obj where
  | user (n : Nat)
  | cum (i : Nat) (rev : Bool)
  | tariff (i k : Nat)
  | edit (i : Nat)
  | meter (i : Nat)
  | demand (i m : Nat)
  | endpoint (i : Nat)
  | scheme (s : Nat)
  | zone (z : Nat)
  | ashlar
  | clock
  deriving DecidableEq, Repr

/-- The object of an endpoint by groups C, D, E and the class; trf: TRF allocates. -/
def endpointObj (trf : Bool) (i c dd e cls : Nat) : Option Obj :=
  if c = 1 ∧ dd = 8 then
    if e = 0 then (if cls = 3 then some (.cum i false) else none)
    else if e ≤ 8 ∧ cls = 2 ∧ trf then some (.tariff i (e - 1)) else none
  else if c = 2 ∧ dd = 8 ∧ e = 0 ∧ cls = 3 then some (.cum i true)
  else if c = 128 ∧ dd = 8 ∧ e = 0 ∧ cls = 2 then some (.edit i)
  else if c = 129 ∧ dd = 8 ∧ e = 0 ∧ cls = 2 then some (.meter i)
  else if c = 1 ∧ dd = 6 ∧ 1 ≤ e ∧ e ≤ 4 ∧ cls = 4 ∧ trf then some (.demand i (e - 1))
  else if c = 96 ∧ dd = 1 ∧ e = 0 ∧ cls = 5 then some (.endpoint i)
  else none

/-- resolve of R119, by the table of R114. -/
def Dev.resolve (d : Dev) (q : Req) : Option Obj :=
  let g := fun k => q.obis.getD k 0
  let trf := d.trfAllocates d.ext
  if g 1 ≠ 0 ∨ g 5 ≠ 255 then none
  else if g 0 = 0 then
    if q.cls = 6 ∧ g 2 = 13 ∧ g 3 = 0 ∧ q.target = 0 ∧ trf then some (.scheme (g 4))
    else if q.cls = 7 ∧ g 2 = 130 ∧ g 3 = 0 ∧ g 4 = 0 then
      if q.target < 65536 ∧ !balCfgInvalid d ∧ d.ld (d.rd64 BAL_TBL_BASE_LO + 64 * q.target) 1 ≠ 0 then some (.zone q.target) else none
    else if q.cls = 8 ∧ g 2 = 128 ∧ g 3 = 0 ∧ g 4 = 0 then some .ashlar
    else if q.cls = 9 ∧ g 2 = 1 ∧ g 3 = 0 ∧ g 4 = 0 ∧ q.target = 0 then some .clock
    else if q.cls = 1 ∧ g 2 = 96 ∧ g 3 = 128 ∧ q.target = 0 ∧ d.rd64 OBJ_USER_BASE_LO ≠ 0 then some (.user (g 4))
    else none
  else match d.lookup q.target with
    | none => none
    | some h =>
      if bitsOf (d.recGet h.idx rASSIGN 4) 7 0 ≠ g 0 then none else endpointObj trf h.idx (g 2) (g 3) (g 4) q.cls

/-- A class has an attribute or a method (R113). -/
def hasSlot (cls slot : Nat) : Bool :=
  let attrs := match cls with | 1 => 2 | 2 => 3 | 3 => 6 | 4 => 4 | 5 => 6 | 6 => 4 | 7 => 3 | 8 => 4 | 9 => 3 | _ => 0
  let methods := match cls with | 5 => 3 | 7 => 1 | _ => 0
  (1 ≤ slot && slot ≤ attrs) || (17 ≤ slot && slot ≤ 16 + methods)

/-- The UNIT code of a QUANTITY (R64, R113). -/
def quantityUnit (q : Nat) : Nat := (unitsOf q).headD 0

/-- Scaler and unit. -/
def scalerUnit (scaler : Int) (unit : Nat) : Bytes := leBytes 1 (enc 8 scaler) ++ leBytes 1 unit

/-- The compact newest reading of endpoint i. -/
def Dev.newest (d : Dev) (i : Nat) : Compact := d.recCompact i rNEWEST

/-- The quantity of endpoint i. -/
def Dev.quantity (d : Dev) (i : Nat) : Nat := bitsOf (d.recGet i rASSIGN 4) 7 0

/-- The next switch of scheme s. -/
def Dev.schemeNext (d : Dev) (s : Nat) : Nat :=
  let a := d.scheme d.ext s
  if d.schUsed a then ((d.switches a d.ext (d.ext + 259200000000000)).head?).getD 0 else 0

/-- The newest epoch entry of a zone. -/
def Dev.zoneEntryOf (d : Dev) (z : Nat) : Option Bytes := ((d.zoneSt z).entries.getLast?).map (·.bytes)

/-- An attribute in the LIVE view (R113 to R115): none is VIEW_UNAVAILABLE. A LIVE uncertainty is a free value: the manual names
none for a register as it stands. -/
def Dev.liveAttr (d : Dev) (q : Req) (o : Obj) : Option Bytes :=
  if q.id = 1 then some (q.obis.flatMap fun v => leBytes 1 v)
  else match o, q.id with
    | .user n, 2 => some (d.ldBytes (d.rd64 OBJ_USER_BASE_LO + 64 * n) 64)
    | .cum i rev, 2 => some (d.recBytes i (if rev then rCUM_REV else rCUM_FWD) 8)
    | .cum i _, 3 => some (scalerUnit (-3) (quantityUnit (d.quantity i)))
    | .cum i _, 4 => some (leBytes 1 (d.newest i).quality)
    | .cum i _, 5 => some (leBytes 8 (d.newest i).t)
    | .cum _ _, _ => some (leBytes 4 d.freeVal)
    | .tariff i k, 2 => some (d.recBytes i (rTARIFF + 8 * k) 8)
    | .tariff i _, _ => some (scalerUnit (-3) (quantityUnit (d.quantity i)))
    | .edit i, 2 => some (d.recBytes i rCUM_EDIT 8)
    | .edit i, _ => some (scalerUnit (-3) (quantityUnit (d.quantity i)))
    | .meter i, 2 => some (d.recBytes i rCUM_METER 8)
    | .meter i, _ => some (leBytes 1 (Assoc.get 0 d.ing.exps i) ++ leBytes 1 (quantityUnit (d.quantity i)))
    | .demand i m, 2 => some (d.recBytes i (rMAXDEM + 12 * m) 4 ++ zeroBytes 4)
    | .demand i _, 3 => some (scalerUnit (-3) (quantityUnit (d.quantity i)))
    | .demand i m, _ => some (d.recBytes i (rMAXDEM + 12 * m + 4) 8)
    | .endpoint i, 2 => some (d.recBytes i rADDR 8)
    | .endpoint i, 3 => some (d.recBytes i rIDX_STATE 4)
    | .endpoint i, 4 => some (d.recBytes i rASSIGN 8)
    | .endpoint i, 5 => some (d.recBytes i rNEWEST 32)
    | .endpoint i, _ => some (d.recBytes i rTRIP_MASK 2)
    | .scheme s, 2 => some (d.ldBytes (d.scheme d.ext s) 64)
    | .scheme s, 3 => some (leBytes 1 (d.tariffAt s d.ext (d.cls == .invalid)))
    | .scheme s, _ => some (leBytes 8 (d.schemeNext s))
    | .zone z, 2 => d.zoneEntryOf z
    | .zone z, _ => (d.zoneSt z).fast
    | .clock, 2 => some (leBytes 8 d.ext)
    | .clock, _ => some (leBytes 1 d.cls.code)
    | _, _ => none

/-! ## The SEALED view (R89, R115) -/

/-- The newest sequence issued. -/
def Dev.lastSeal (d : Dev) : Nat := d.rd64 EPC_SEAL_SEQ_LO

/-- The newest EPOCH ashlar at sequence s, when a retained set holds it (R91). -/
def Dev.epochAt (d : Dev) (s : Nat) : Option Ashlar :=
  if d.role = 0 ∨ d.lastSeal < s then none
  else match (d.epc.ashlars.filter fun a => a.typ == 0 && !a.header.isEmpty && decide (a.sealSeq ≤ s)).getLast? with
    | none => none
    | some a => if a.setNo.isSome then some a else none

/-- The ashlar that supplies an entry of a key at sequence s, and the entry's place among its leaves. -/
def Dev.supplies (d : Dev) (epoch s key : Nat) (kinds : List Nat) : Option (Ashlar × Nat) :=
  let l := d.epc.ashlars.filter fun a => a.typ != 2 && a.epoch.no == epoch && !a.header.isEmpty && decide (a.sealSeq ≤ s)
  kinds.findSome? fun k => l.reverse.findSome? fun a =>
    (a.leaves.findIdx? fun e => entryKind e == k && entryKey e == key).map fun i => (a, i)

/-- An attribute in the SEALED view at s, or the result instead. -/
def Dev.sealedAttr (d : Dev) (q : Req) (o : Obj) (s : Nat) : Bytes ⊕ Nat :=
  match o with
  | .cum i rev =>
    match d.epochAt s with
    | none => .inr oVIEW_UNAVAILABLE
    | some a =>
      match d.supplies a.epoch.no s q.target [1] with
      | none => .inr oNO_OBJECT
      | some (x, k) =>
        let e := x.leaves.getD k []
        if q.id = 1 then .inl (q.obis.flatMap fun v => leBytes 1 v)
        else if q.id = 2 then .inl (slice e (if rev then 0x10 else 8) 8)
        else if q.id = 3 then .inl (scalerUnit (-3) (quantityUnit (d.quantity i)))
        else if q.id = 4 then .inl (slice e 0x38 1)
        else if q.id = 5 then .inl (leBytes 8 a.epoch.tEnd)
        else .inl (slice e (if rev then 0x2C else 0x28) 4)
  | .ashlar =>
    match d.epochAt s with
    | none => .inr oVIEW_UNAVAILABLE
    | some a =>
      if q.id = 1 then .inl (q.obis.flatMap fun v => leBytes 1 v)
      else match d.supplies a.epoch.no s q.target [1, 2] with
        | none => .inr oNO_OBJECT
        | some (x, k) =>
          if q.id = 2 then .inl x.header
          else if q.id = 3 then .inl (x.leaves.getD k [])
          else
            let p := inclusionProof x.leaves k
            .inl (leBytes 4 k ++ leBytes 1 p.length ++ zeroBytes 3 ++ p.flatten)
  | _ => .inr oVIEW_UNAVAILABLE

/-! ## Decision (R117 to R119) -/

/-- The rights byte of role, class and slot in the table that was live at t; a base of 0 grants nothing. -/
def Dev.rights (d : Dev) (t : Nat) (q : Req) : Nat :=
  let base := d.cfgAt64 t OBJ_RIGHTS_BASE_LO
  if base = 0 then 0 else d.ld (base + 1024 * q.role + 32 * q.cls + q.slot) 1

/-- RIGHT permits an operation. -/
def permits (right op : Nat) : Bool :=
  if op = opGET then right == 1 || right == 3
  else if op = opSET then right == 2 || right == 3
  else right == 4

/-- decide of R119 up to serve, for a request that arrived at t: the result, or the object. -/
def Dev.decideReq (d : Dev) (t : Nat) (q : Req) : Obj ⊕ Nat :=
  if d.cfgAt64 t OBJ_RIGHTS_BASE_LO = 0 then .inr oDENIED_RIGHT
  else if !(d.cfgAt t OBJ_ROLE_EN).testBit q.role then .inr oDENIED_RIGHT
  else if q.role = 6 ∧ d.lc ≠ 1 ∧ d.lc ≠ 4 then .inr oDENIED_LIFECYCLE
  else if q.cls < 1 ∨ 31 < q.cls then .inr oNO_OBJECT
  else if 15 < q.id then .inr oNO_ATTRIBUTE
  else
    let r := d.rights t q
    if !permits (bitsOf r 2 0) q.op then .inr oDENIED_RIGHT
    else if r.testBit 5 ∧ q.view = 0 then .inr oDENIED_RIGHT
    else if q.prot < bitsOf r 4 3 then .inr oDENIED_PROTECTION
    else if d.red.state = .standby ∧ q.op ≠ opGET then .inr oSTANDBY
    else if q.op ≠ opGET ∧ d.audFull then .inr oAUDIT_FULL
    else match d.resolve q with
      | none => .inr oNO_OBJECT
      | some o => if hasSlot q.cls q.slot then .inl o else .inr oNO_ATTRIBUTE

/-! ## Service -/

/-- What a request came to: the device, its result, and the bytes written. -/
structure Served where
  dev : Dev
  result : Nat
  written : Nat := 0

/-- The sequence a request resolves to (R115). -/
def Dev.reqSeq (d : Dev) (q : Req) (s : Nat) : Nat := if q.view = 0 then d.rd64 EPC_LIVE_SEQ_LO else s

/-- Put bytes into the request's buffer. A buffer outside DRAM gives RANGE (DESIGN CHOICE). -/
def Dev.objDeliver (d : Dev) (q : Req) (b : Bytes) : Served :=
  if q.dataLen < b.length then ⟨d, oLENGTH, 0⟩
  else if !inDram q.dataAddr b.length then ⟨d, oRANGE, 0⟩
  else ⟨d.stBytes q.dataAddr b, oOK, b.length⟩

/-- Serve a GET. -/
def Dev.serveGet (d : Dev) (q : Req) (o : Obj) (s : Nat) : Served :=
  if q.view = 0 then
    match d.liveAttr q o with
    | none => ⟨d, oVIEW_UNAVAILABLE, 0⟩
    | some b =>
      let free : Bool := q.cls == 3 && q.id == 6
      (d.iff free (·.tookFree)).objDeliver q b
  else match d.sealedAttr q o s with
    | .inr r => ⟨d, r, 0⟩
    | .inl b => d.objDeliver q b

/-- Where the stored source of an attribute lies, and its length (DESIGN CHOICE: a SET gives these attributes their value; an
attribute that is computed, or that names the endpoint, keeps it). -/
def Dev.storedAt (d : Dev) (q : Req) (o : Obj) : Option (Nat × Nat) :=
  match o, q.id with
  | .user n, 2 => some (d.rd64 OBJ_USER_BASE_LO + 64 * n, 64)
  | .cum i rev, 2 => some (d.recBase i + (if rev then rCUM_REV else rCUM_FWD), 8)
  | .tariff i k, 2 => some (d.recBase i + rTARIFF + 8 * k, 8)
  | .edit i, 2 => some (d.recBase i + rCUM_EDIT, 8)
  | .meter i, 2 => some (d.recBase i + rCUM_METER, 8)
  | .demand i m, 2 => some (d.recBase i + rMAXDEM + 12 * m, 4)
  | .demand i m, 4 => some (d.recBase i + rMAXDEM + 12 * m + 4, 8)
  | .endpoint i, 4 => some (d.recBase i + rASSIGN, 8)
  | .endpoint i, 5 => some (d.recBase i + rNEWEST, 32)
  | .endpoint i, 6 => some (d.recBase i + rTRIP_MASK, 2)
  | _, _ => none

/-- Serve a SET (R115, R119). -/
def Dev.serveSet (d : Dev) (q : Req) (o : Obj) : Served :=
  if q.view ≠ 0 then ⟨d, oREAD_ONLY_VIEW, 0⟩
  else match d.storedAt q o with
    | none => ⟨d, oOK, 0⟩
    | some (a, n) =>
      let want := if q.cls = 4 ∧ q.id = 2 then 8 else n
      if q.dataLen < want then ⟨d, oLENGTH, 0⟩
      else if !inDram q.dataAddr want then ⟨d, oRANGE, 0⟩
      else ⟨d.stBytes a (d.ldBytes q.dataAddr n), oOK, want⟩

/-- A registry command by an object method (R57, R114): 11 BUSY while the registry is. -/
def Dev.methodRegistry (d : Dev) (q : Req) (cmd : Nat) : Served :=
  if q.view ≠ 0 then ⟨d, oREAD_ONLY_VIEW, 0⟩
  else if d.ing.cmd ≠ 0 ∨ d.regLocked then ⟨d, oBUSY, 0⟩
  else
    let (d, _) := d.regCommand cmd q.target
    ⟨d.mirror (.regCmd cmd 0 0 q.target), oOK, 0⟩

/-- ACK_SUSPECT by an object method (R141). -/
def Dev.methodAck (d : Dev) (q : Req) (z : Nat) : Served :=
  if q.view ≠ 0 then ⟨d, oREAD_ONLY_VIEW, 0⟩
  else if q.dataLen < 1 then ⟨d, oLENGTH, 0⟩
  else ⟨d.balAck (z + 65536 * (d.ld q.dataAddr 1 % 8)), oOK, 0⟩

/-- Serve an ACTION. -/
def Dev.serveAction (d : Dev) (q : Req) (o : Obj) : Served :=
  match o, q.id with
  | .endpoint _, 1 => d.methodRegistry q cmdSUSPEND
  | .endpoint _, 2 => d.methodRegistry q cmdRESUME
  | .endpoint _, 3 => d.methodRegistry q cmdRESEQ
  | .zone z, _ => d.methodAck q z
  | _, _ => ⟨d, oNO_ATTRIBUTE, 0⟩

/-- Count a denial (R122). -/
def Dev.deny (d : Dev) (q : Req) (r : Nat) : Dev :=
  let d := (d.bump (OBJ_DENY_COUNT q.role)).wr OBJ_DENY_LAST (q.role + 16 * r + 256 * (q.cls % 32) + 8192 * (q.slot % 32))
  let d := d.wr OBJ_DENY_SESSION q.session
  d.iff (d.bit OBJ_CFG 0) (·.audit q true)

/-! ## Groups (R116) -/

/-- How many of the waiting requests, from the first, carry a group number. -/
def Dev.groupRun (d : Dev) (g : Nat) : Nat → Nat → Nat
  | 0, _ => 0
  | fuel + 1, k => if (d.reqAt k).group = g then d.groupRun g fuel (k + 1) + 1 else 0

/-- The set that holds the epoch of sequence s. -/
def Dev.setAt (d : Dev) (s : Nat) : Option Nat := (d.epochAt s).bind (·.setNo)

/-- A group's next request: the group begins with its first, and a request that is no GET of its view spoils it. -/
def Dev.joinGroup (d : Dev) (q : Req) : Dev :=
  let fresh : Bool := match d.obj.group with | none => true | some g => g.no != q.group
  let ahead := (List.range (min 64 (d.groupRun q.group d.reqCount 0))).map d.reqAt
  let d :=
    if fresh then
      let s := if q.viewSeq = 0 then d.lastSeal else q.viewSeq
      let hold : Bool := q.view == 0 && d.epc.fence.isNone
      let g : Group := { no := q.group, count := 0, view := q.view, viewSeq := q.viewSeq, seq := s, fenced := hold, expired := false, range := false }
      let d := d.iff hold fun d => { d with epc := { d.epc with fence := some d.time.ticks, expired := false } }
      let pin := if q.view = 1 then (d.setAt s).toList else []
      { d with obj := { d.obj with group := some g }, epc := { d.epc with pinned := pin } }
    else d
  { d with obj := { d.obj with group := d.obj.group.map fun g =>
    { g with count := g.count + 1, range := g.range || ahead.any fun x => x.op != opGET || x.view != g.view || x.viewSeq != g.viewSeq } } }

/-- A group ends when the ring's next request is not of it. -/
def Dev.leaveGroup (d : Dev) : Dev :=
  match d.obj.group with
  | none => d
  | some g =>
    if d.reqCount ≠ 0 ∧ (d.reqAt 0).group = g.no then d
    else
      let d := d.iff (g.fenced && !d.bit EPC_LIVE_FENCE 0) fun d => { d with epc := { d.epc with fence := none } }
      { d with obj := { d.obj with group := none }, epc := { d.epc with pinned := [] } }

/-- What a group makes of its request before it is decided. -/
def Dev.groupResult (d : Dev) : Option Nat :=
  match d.obj.group with
  | none => none
  | some g => if 64 < g.count then some oGROUP_LIMIT else if g.range then some oRANGE else if g.expired then some oRETRY else none

/-! ## One request -/

/-- Decide and serve a request that arrived at t; s is its sealed sequence. -/
def Dev.runReq (d : Dev) (t : Nat) (q : Req) (s : Nat) : Served :=
  if q.op < 1 ∨ 3 < q.op ∨ 1 < q.view then ⟨d, oRANGE, 0⟩
  else
    let early := d.groupResult
    if early = some oGROUP_LIMIT ∨ early = some oRANGE then ⟨d, early.getD oRANGE, 0⟩
    else match d.decideReq t q with
      | .inr r => ⟨d.iff (r == oDENIED_RIGHT || r == oDENIED_PROTECTION || r == oDENIED_LIFECYCLE) (·.deny q r), r, 0⟩
      | .inl o =>
        let d := d.bump (OBJ_GRANT_COUNT q.role)
        if early.isSome then ⟨d, oRETRY, 0⟩
        else
          let x := if q.op = opGET then d.serveGet q o s else if q.op = opSET then d.serveSet q o else d.serveAction q o
          if q.op ≠ opGET ∧ x.result = oOK then { x with dev := x.dev.audit q false } else x

/-- The rows of the command table that serve a request. -/
inductive ObjRow where
  | get | set | suspend | resume | reseq | ack
  deriving DecidableEq, Repr

/-- The row a request belongs to; whatever no other row names goes with GET. -/
def Req.row (q : Req) : ObjRow :=
  if q.op = opSET then .set
  else if q.op = opACTION ∧ q.cls = 5 ∧ q.id = 1 then .suspend
  else if q.op = opACTION ∧ q.cls = 5 ∧ q.id = 2 then .resume
  else if q.op = opACTION ∧ q.cls = 5 ∧ q.id = 3 then .reseq
  else if q.op = opACTION ∧ q.cls = 7 then .ack
  else .get

/-- OBJ takes the oldest request, when it is of the given row (R119, R120). -/
def Dev.objTake (d : Dev) (row : ObjRow) : Dev :=
  if !(d.starts pOBJ || (d.continues pOBJ && d.obj.group.isSome)) || objCfgInvalid d || d.pwr.pfActive || d.rspFull || d.reqLog == 0 || d.reqCount == 0 then d
  else
    let q := d.reqAt 0
    if q.row ≠ row then d
    else
      let t := d.obj.arrivals.headD d.ext
      let d := d.iff (q.group != 0) (·.joinGroup q)
      let s := match d.obj.group with
        | some g => if q.group = 0 then (if q.viewSeq = 0 then d.lastSeal else q.viewSeq) else g.seq
        | none => if q.viewSeq = 0 then d.lastSeal else q.viewSeq
      let d := d.wr OBJ_REQ_CONS (d.rd OBJ_REQ_CONS + 1)
      let d := { d with obj := { d.obj with arrivals := d.obj.arrivals.tail } }
      let x := d.runReq t q s
      let d := x.dev.iff (x.result == oRETRY) (·.bump OBJ_RETRY_COUNT)
      let d := d.iff (x.result == oVIEW_UNAVAILABLE) (·.bump OBJ_UNAVAIL_COUNT)
      (d.respond q x.result (d.reqSeq q s) x.written).leaveGroup

/-! ## Validation (R118) -/

/-- The fault of one byte of a rights table at an offset: 1 RANGE, 2 KIND. -/
def rightsFault (off v : Nat) : Nat :=
  let c := off / 32 % 32
  let a := off % 32
  let right := bitsOf v 2 0
  if c = 0 ∨ a = 0 ∨ a = 16 then (if v = 0 then 0 else 1)
  else if 5 ≤ right ∨ bitsOf v 4 3 = 3 then 1
  else if (a < 16 ∧ right = 4) ∨ (16 < a ∧ 1 ≤ right ∧ right ≤ 3) then 2
  else 0

/-- OBJ_TBL_VALIDATE_DONE. -/
def Dev.objValidated (d : Dev) : Dev :=
  match d.obj.job with
  | none => d
  | some a =>
    let d := { d with obj := { d.obj with job := none } }
    if outside a 16384 then d.wr OBJ_TBL_STAT (2 * 1)
    else match (List.range 16384).find? fun k => rightsFault k (d.ld (a + k) 1) != 0 with
      | some k => d.wr OBJ_TBL_STAT (2 * rightsFault k (d.ld (a + k) 1) + 16 * k)
      | none => (d.wr OBJ_TBL_STAT 0).wr64 OBJ_TBL_OK_LO a

/-! ## The page (R123) -/

def objRead (d : Dev) (off : Nat) : Option Nat :=
  if off = 0x12C then some d.reqCount
  else if off = 0x144 then some (d.waiting OBJ_RSP_PROD OBJ_RSP_CONS)
  else if off = 0x15C then some (d.waiting OBJ_AUD_PROD OBJ_AUD_CONS)
  else if off = 0x168 then some 0
  else if off = 0x16C then some (d.rd OBJ_TBL_STAT + b2n d.obj.job.isSome)
  else none

def objWrite (d : Dev) (off v : Nat) : WriteRes :=
  if off = 0x124 then
    let n := (v + 2 ^ 32 - d.rd OBJ_REQ_PROD) % 2 ^ 32
    let new := List.replicate (min n 65536) d.ext
    .done (({ d with obj := { d.obj with arrivals := d.obj.arrivals ++ new } } : Dev).wr OBJ_REQ_PROD v)
  else if off = 0x168 then
    if d.obj.job.isSome then .refuse ENGINE_BUSY
    else if v.testBit 0 then .done { d with obj := { d.obj with job := some (d.rd64 OBJ_TBL_ADDR_LO) } }
    else .done d
  else .plain

def objPgStat (d : Dev) : Nat :=
  4 * b2n (objCfgInvalid d) + 8 * b2n (d.rspLog != 0 && d.rspFull) + 16 * b2n (d.audLog != 0 && d.audFull) + 32 * b2n d.objFence

def objBusy (d : Dev) : Bool := d.obj.job.isSome || d.obj.group.isSome

/-- A soft reset of OBJ: an unfinished group lets go of fence and set. -/
def objReset (d : Dev) : Dev :=
  let d := d.iff (d.objFence && !d.bit EPC_LIVE_FENCE 0) fun d => { d with epc := { d.epc with fence := none } }
  { d with obj := {}, epc := { d.epc with pinned := [] } }

end Sys2Proof.Machine
end

