-- ==== Sys2Proof/Machine/MacOps.lean ====
section
/-!
DEFINITION. What the two meter links share: the MPDU (R182), its security (R192, R193), CSMA/CA and retries (R184, R185), the
air time of a frame (R177, R199 to R202). A medium is 0, the radio, or 1, the power line.
-/
namespace Sys2Proof.Machine

/-! ## Registers of a medium -/

def mPage (m : Nat) : Nat := if m = 0 then pRMC else pPLC
def mClass (m : Nat) : Nat := if m = 0 then 2 else 4
def mLink (m : Nat) : Nat := m + 1
def mNet (m : Nat) : Nat := if m = 0 then RMC_NET else PLC_NET
def mCsma (m : Nat) : Nat := if m = 0 then RMC_CSMA else PLC_CSMA
def mCaFail (m : Nat) : Nat := if m = 0 then RMC_CA_FAIL else PLC_CA_FAIL
def mAckFail (m : Nat) : Nat := if m = 0 then RMC_ACK_FAIL else PLC_ACK_FAIL
def mDefer (m : Nat) : Nat := if m = 0 then RMC_DEFER else PLC_DEFER
def mLeaveWait (m : Nat) : Nat := if m = 0 then RMC_LEAVE_WAIT else PLC_LEAVE_WAIT
def mCcaBusy (m : Nat) : Nat := if m = 0 then RAD_CCA_BUSY else PLC_CCA_BUSY
def mDup (m : Nat) : Nat := if m = 0 then RMC_DUP_COUNT else PLC_DUP_COUNT
def mSecReject (m : Nat) : Nat := if m = 0 then RMC_SEC_REJECT else PLC_SEC_REJECT
def mUnknown (m : Nat) : Nat := if m = 0 then RMC_UNKNOWN_SRC else PLC_UNKNOWN_SRC

/-- The MAC state of a medium, and its replacement. -/
def Dev.mac (d : Dev) (m : Nat) : MacSt := if m = 0 then d.rad.mac else d.plc.mac
def Dev.setMac (d : Dev) (m : Nat) (s : MacSt) : Dev :=
  if m = 0 then { d with rad := { d.rad with mac := s } } else { d with plc := { d.plc with mac := s } }

/-- The device's EUI-64. -/
def Dev.eui (d : Dev) : Nat := d.rd64 RMC_EUI_LO

/-- MAX_RETRY, MIN_BE, MAX_BE and MAX_BACKOFFS of a medium. -/
def Dev.maxRetry (d : Dev) (m : Nat) : Nat := d.fld (mCsma m) 14 12
def Dev.minBe (d : Dev) (m : Nat) : Nat := d.fld (mCsma m) 3 0
def Dev.maxBe (d : Dev) (m : Nat) : Nat := d.fld (mCsma m) 7 4
def Dev.maxBackoffs (d : Dev) (m : Nat) : Nat := d.fld (mCsma m) 10 8

/-- The link sends on its medium: its blocks run, no power fail, no silence by the pair (R48, note d; R307). -/
def Dev.macSends (d : Dev) (m : Nat) : Bool :=
  d.linkStarts (mPage m) && !d.pairSlave && (m == 1 || d.linkStarts pRAD)

/-- The link receives. -/
def Dev.macHears (d : Dev) (m : Nat) : Bool :=
  d.runs (mPage m) && !d.pairSlave && (m == 1 || d.runs pRAD)

/-! ## Air time -/

/-- ns of n octets in radio mode MODE (R177). -/
def radOctets (mode n : Nat) : Nat :=
  let kbps := match mode with | 0 => 50 | 1 => 100 | 2 => 150 | 3 => 200 | 4 => 200 | _ => 300
  ceilDiv (n * 8000000) kbps

/-- RAD_PHY as it governs the medium: MODE, FCS32 and PRE_LEN. -/
def Dev.radMode (d : Dev) : Nat := bitsOf (d.gov RAD_PHY) 2 0
def Dev.fcsLen (d : Dev) : Nat := if (d.gov RAD_PHY).testBit 3 then 4 else 2
def Dev.preLen (d : Dev) : Nat := bitsOf (d.gov RAD_PHY) 13 8

/-- Air time in ns of a PSDU of n octets: preamble, SFD, PHR and PSDU (R183). -/
def Dev.radAir (d : Dev) (n : Nat) : Nat := radOctets d.radMode (d.preLen + 4 + n)

/-- The plan of the power line as it governs the medium: groups, sample and symbol periods (R199). -/
def Dev.plcPlan (d : Dev) : Nat := (d.gov PLC_PHY) % 2
def Dev.plcGroups (d : Dev) : Nat := if d.plcPlan = 0 then 9 else 17
def Dev.plcSample (d : Dev) : Nat := if d.plcPlan = 0 then 2500 else 800
def Dev.plcSymbol (d : Dev) : Nat := if d.plcPlan = 0 then 1100000 else 408800

/-- The groups not in PLC_TONE_MASK. -/
def Dev.plcUnmasked (d : Dev) : Nat :=
  (2 ^ d.plcGroups - 1) - ((2 ^ d.plcGroups - 1) &&& d.gov PLC_TONE_MASK)

/-- Bits set in the low n bits. -/
def popcount (n v : Nat) : Nat := ((List.range n).filter v.testBit).length

/-- Data symbols of a PSDU of n octets under MOD and GMASK (R201). -/
def plcSymbols (modu gmask n : Nat) : Nat :=
  let coded := ((n + 16 * ceilDiv n 239) * 8 + 6) * 2 * (if modu = 0 then 4 else 1)
  ceilDiv coded (max 1 (max 1 modu * 4 * popcount 17 gmask))

/-- Time in ns of a frame on the power line: preamble, reference, header and data (R202). -/
def Dev.plcAir (d : Dev) (modu gmask n : Nat) : Nat :=
  8 * 256 * d.plcSample +
    (1 + ceilDiv 560 (4 * max 1 (popcount 17 d.plcUnmasked)) + plcSymbols modu gmask n) * d.plcSymbol

/-! ## The MPDU (R182) -/

abbrev fBEACON : Nat := 0
abbrev fDATA : Nat := 1
abbrev fACK : Nat := 2
abbrev fPOLL : Nat := 3
abbrev fCONNECT_REQ : Nat := 4
abbrev fCONNECT_RSP : Nat := 5
abbrev fTONEMAP : Nat := 6

/-- The FC field. -/
def fcWord (typ : Nat) (sec fp ar dst : Bool) : Nat :=
  typ + 8 * b2n sec + 16 * b2n fp + 32 * b2n ar + 64 * b2n dst + 256

/-- The header from FC to FCNT. -/
def mpduHead (typ : Nat) (fp ar : Bool) (seq net : Nat) (dst src fcnt : Option Nat) : Bytes :=
  let opt := fun (n : Nat) (x : Option Nat) => match x with | none => ([] : Bytes) | some v => leBytes n v
  leBytes 2 (fcWord typ fcnt.isSome fp ar dst.isSome) ++ leBytes 1 seq ++ leBytes 2 net ++ opt 8 dst ++ opt 8 src ++ opt 4 fcnt

/-- The CCM* nonce (R192). -/
def ccmNonce (src fcnt level : Nat) : Bytes := beBytes 8 src ++ beBytes 4 fcnt ++ beBytes 1 level

/-- An MPDU under security level 6: header, ciphertext and MIC (R192). -/
def secure6 (key : Bytes) (src fcnt : Nat) (head payload : Bytes) : Bytes :=
  let (ct, mic) := ccmSeal key 8 (ccmNonce src fcnt 6) head payload
  head ++ ct ++ mic

/-- A beacon under security level 1: the payload is authenticated and stays in clear (R192). -/
def secure1 (key : Bytes) (src fcnt : Nat) (head payload : Bytes) : Bytes :=
  head ++ payload ++ (ccmSeal key 4 (ccmNonce src fcnt 1) (head ++ payload) []).2

/-- The two-octet FCS of IEEE 802.15.4: the ITU-T CRC, reflected, initial value 0. PRESUMED: the manual names the standard. -/
def fcs16 (bs : Bytes) : Nat := crcR 0x8408 0 bs

/-- The FCS of an MPDU, of 2 or 4 octets. -/
def fcsBytes (n : Nat) (bs : Bytes) : Bytes := if n = 2 then leBytes 2 (fcs16 bs) else leBytes 4 (crc32 bs)

/-- A parsed MPDU, without its FCS. -/
structure Mpdu where
  fc : Nat
  seq : Nat
  net : Nat
  dst : Option Nat
  src : Nat
  fcnt : Nat
  head : Bytes
  payload : Bytes
  mic : Bytes

def Mpdu.typ (x : Mpdu) : Nat := x.fc % 8
def Mpdu.sec (x : Mpdu) : Bool := x.fc.testBit 3
def Mpdu.fp (x : Mpdu) : Bool := x.fc.testBit 4
def Mpdu.ar (x : Mpdu) : Bool := x.fc.testBit 5
def Mpdu.resync (x : Mpdu) : Bool := x.fc.testBit 7
def Mpdu.ver (x : Mpdu) : Nat := bitsOf x.fc 11 8

/-- Parse an MPDU; none when it is too short. -/
def parseMpdu (b : Bytes) : Option Mpdu :=
  let fc := leAt b 0 2
  let dn := if fc.testBit 6 then 8 else 0
  let sn := if fc % 8 = fACK then 0 else 8
  let cn := if fc.testBit 3 then 4 else 0
  let mn := if fc.testBit 3 then (if fc % 8 = fBEACON then 4 else 8) else 0
  let h := 5 + dn + sn + cn
  if b.length < h + mn then none
  else some {
    fc := fc, seq := leAt b 2 1, net := leAt b 3 2, dst := if fc.testBit 6 then some (leAt b 5 8) else none,
    src := leAt b (5 + dn) sn, fcnt := leAt b (5 + dn + sn) cn, head := b.take h,
    payload := slice b h (b.length - h - mn), mic := b.drop (b.length - mn) }

/-! ## Lanes of a medium -/

/-- The enabled lane whose peer is an address: a CONNECTED one on the radio, a PEER one on the power line. -/
def Dev.peerOf (d : Dev) (m addr : Nat) : Option Nat :=
  match d.peerLane (mLink m) 1 addr with
  | none => none
  | some n => if m = 1 ∨ (Assoc.get {} d.rad.conn n).st = 2 then some n else none

/-- The lane that receives the frames of a source (R188, R204). -/
def Dev.rxLane (d : Dev) (m src : Nat) : Option Nat := (d.peerOf m src).or (d.laneOf (mLink m) 0)

/-! ## Sending -/

/-- The next MAC sequence number. -/
def Dev.nextSeq (d : Dev) (m : Nat) : Dev × Nat :=
  let s := d.mac m
  (d.setMac m { s with seq := (s.seq + 1) % 256 }, s.seq)

/-- A frame goes out on the radio: counted, on the air until its end (R177). -/
def Dev.radSend (d : Dev) (psdu : Bytes) : Dev :=
  let d := (d.bump RAD_TX_COUNT).send .radio psdu
  let s := d.mac 0
  d.setMac 0 { s with txEnd := d.time.ticks + ceilDiv (d.radAir psdu.length) 4 }

/-- CRC-8 of the PLC frame header: polynomial x^8 + x^2 + x + 1, initial value 0 (R202). -/
def crc8 (bs : Bytes) : Nat := crcF 8 0x07 0 bs

/-- µs from the latest accepted zero-crossing edge to the reference instant under PHASE and TIME_PHASE, 0xFFFF when not known
(R202, R210). -/
def Dev.zco (d : Dev) (tRef : Nat) : Nat :=
  if !(d.rd PLC_ZC_MODE).testBit 1 || !d.plc.zcOk then 0xFFFF
  else match d.plc.zcEdges.find? fun e => decide (e ≤ tRef) with
    | none => 0xFFFF
    | some e => if (tRef - e) / 1000 < 0xFFFF then (tRef - e) / 1000 else 0xFFFF

/-- A frame goes out on the power line: the header of R202 and the PSDU. -/
def Dev.plcSend (d : Dev) (modu gmask : Nat) (psdu : Bytes) : Dev :=
  let z := d.zco (d.ext + 6 * 256 * d.plcSample)
  let h := leBytes 7 (modu + 4 * gmask + 2 ^ 19 * psdu.length + 2 ^ 32 * z)
  let d := (d.bump PLC_TX_COUNT).send .plc (h ++ leBytes 1 (crc8 h) ++ psdu)
  let s := d.mac 1
  d.setMac 1 { s with txEnd := d.time.ticks + ceilDiv (d.plcAir modu gmask psdu.length) 4 }

/-- The tone map for a frame on a PLC lane to an address (R207): MOD and GMASK. -/
def Dev.plcMap (d : Dev) (lane : Nat) (dst : Option Nat) (robust : Bool) : Nat × Nat :=
  let fallback := (0, d.plcUnmasked)
  let peer := if d.laneKind lane = 1 then some lane else dst.bind fun a => d.peerLane 2 1 a
  match peer with
  | none => fallback
  | some n =>
    let w := d.rd (LN_PLC_TMAP_TX n)
    let g := bitsOf w 18 2
    if robust || d.laneKind lane == 3 || !w.testBit 31 ||
        decide (d.rd64 (LN_PLC_TMAP_TIME_LO n) + d.rd PLC_TMAP_TTL * 1000000000 ≤ d.ext) ||
        g &&& d.plcUnmasked != g || decide (bitsOf (d.gov PLC_PHY) 2 1 < w % 4) then fallback
    else (w % 4, g)

/-- The transmit header of a frame in a lane's queue (R188). -/
def txDst (b : Bytes) : Nat := leAt b 0 8
def txFlags (b : Bytes) : Nat := leAt b 8 1
def txType (b : Bytes) : Nat := leAt b 9 1

/-- The address a frame of a lane goes to: none for broadcast. -/
def Dev.txTo (d : Dev) (lane : Nat) (b : Bytes) : Option Nat :=
  if d.laneKind lane = 3 then none
  else if d.laneKind lane = 1 then some (d.rd64 (LN_PEER_LO lane))
  else if txDst b = 0 then none else some (txDst b)

/-- The key of an address and the index of its record: its KEY_REF unwrapped (R192). -/
def Dev.meterKey (d : Dev) (addr : Nat) : Dev × Option (Nat × Bytes) :=
  match d.lookup addr with
  | none => (d, none)
  | some h =>
    match d.endpointKey (d.recGet h.idx (rSECURITY + 12) 4) addr with
    | (d, none) => (d, none)
    | (d, some k) => (d, some (h.idx, k))

/-- The header of a frame, its payload secured under the destination's key when asked (R192); none when it cannot be: no key,
or FC_TX at its end (R193). -/
def Dev.frameTo (d : Dev) (m typ : Nat) (fp ar sec : Bool) (dest : Option Nat) (payload : Bytes) : Dev × Option Bytes :=
  let net := d.gov (mNet m) % 65536
  if sec then
    match dest with
    | none => (d, none)
    | some a =>
      match d.meterKey a with
      | (d, none) => (d, none)
      | (d, some (i, k)) =>
        let fc := d.recGet i (rSECURITY + 8) 4
        if fc = m32 then (d, none)
        else
          let d := d.recPut i (rSECURITY + 8) 4 (fc + 1)
          let (d, seq) := d.nextSeq m
          (d, some (secure6 k d.eui fc (mpduHead typ fp ar seq net dest (some d.eui) (some fc)) payload))
  else
    let (d, seq) := d.nextSeq m
    (d, some (mpduHead typ fp ar seq net dest (some d.eui) none ++ payload))

/-- Octets of FCS on a medium. -/
def Dev.fcsOf (d : Dev) (m : Nat) : Nat := if m = 0 then d.fcsLen else 4

/-- The PSDU of a lane's queued frame: MPDU and FCS; none when it must be released unsent (R188, R192, R204). -/
def Dev.psduOf (d : Dev) (m lane : Nat) (fp inEvent : Bool) (b : Bytes) : Dev × Option Bytes :=
  let typ := txType b
  let cast := d.laneKind lane == 3
  let dest := d.txTo lane b
  let sec := !cast && (txFlags b).testBit 0
  let ar := dest.isSome && ((txFlags b).testBit 1 || inEvent)
  if !(typ == fDATA || (m == 0 && typ == fCONNECT_RSP)) then (d, none)
  else match d.frameTo m typ fp ar sec dest (b.drop 16) with
    | (d, none) => (d, none)
    | (d, some x) =>
      if (if m = 0 then 2047 else 1024) < x.length + d.fcsOf m then (d, none) else (d, some (x ++ fcsBytes (d.fcsOf m) x))

/-! ## The frame at a lane's head -/

def Dev.laneTx (d : Dev) (m lane : Nat) : LaneTx := Assoc.get {} (d.mac m).lanes lane
def Dev.setLaneTx (d : Dev) (m lane : Nat) (t : LaneTx) : Dev :=
  let s := d.mac m
  d.setMac m { s with lanes := Assoc.put s.lanes lane t }

/-- The frame at the head of a lane is done with. -/
def Dev.laneDone (d : Dev) (m lane : Nat) : Dev :=
  let s := d.mac m
  ((d.setMac m { s with lanes := Assoc.del s.lanes lane }).popFront (2 * lane))

/-- It is delivered, or released undelivered. -/
def Dev.laneOk (d : Dev) (m lane : Nat) : Dev := (d.laneDone m lane).bump (LN_TX_OK lane)
def Dev.laneFail (d : Dev) (m lane : Nat) : Dev := (d.laneDone m lane).bump (LN_TX_FAIL lane)

/-- A try of the head frame has failed: the frame is released after MAX_RETRY + 1 tries (R184, R185). -/
def Dev.tryFailed (d : Dev) (m lane : Nat) : Dev :=
  let t := d.laneTx m lane
  if d.maxRetry m < t.tries + 1 then d.laneFail m lane else d.setLaneTx m lane { t with tries := t.tries + 1 }

/-! ## CSMA/CA (R184) -/

def Dev.setAccess (d : Dev) (m : Nat) (a : Option Access) : Dev := let s := d.mac m; d.setMac m { s with access := a }

/-- A frame of a lane starts the procedure. -/
def Dev.csmaStart (d : Dev) (m lane : Nat) : Dev :=
  let s := d.mac m
  let kind := d.laneKind lane
  let fits := if m = 0 then kind = 0 ∨ kind = 3 else kind = 0 ∨ kind = 1 ∨ kind = 3
  if !d.macSends m || s.access.isSome || s.ackWait.isSome || !d.laneOn lane || d.laneLink lane != mLink m || ¬fits then d
  else match d.txFront? lane with
    | none => d
    | some f =>
      let go := fun (d : Dev) => d.setAccess m (some { lane := lane, nb := 0, be := d.minBe m })
      if (d.laneTx m lane).mpdu ≠ [] then go d
      else match d.psduOf m lane false false f.data with
        | (d, none) => d.laneFail m lane
        | (d, some x) => go (d.setLaneTx m lane { mpdu := x })

/-- A frame of a lane goes out; with AR = 1 it waits for its ACK, otherwise it is delivered. -/
def Dev.macTransmit (d : Dev) (m lane : Nat) (psdu : Bytes) (frame : Option Nat) : Dev :=
  let d :=
    if m = 0 then d.radSend psdu
    else
      let data := ((d.txFront? lane).map (·.data)).getD []
      let (modu, g) := d.plcMap lane (d.txTo lane data) ((txFlags data).testBit 2)
      d.plcSend modu g psdu
  let s := d.mac m
  if (leAt psdu 0 1).testBit 5 then
    d.setMac m { s with ackWait := some { lane := lane, seq := leAt psdu 2 1, frame := frame, tick := s.txEnd } }
  else d.laneOk m lane

/-- The number of the frame at a lane's head. -/
def Dev.headId (d : Dev) (lane : Nat) : Option Nat := (d.queue (2 * lane)).ids.head?

/-- A CCA on a radio channel is counted (R195). -/
def Dev.ccaCount (d : Dev) (ch : Nat) (busy : Bool) : Dev :=
  let c := Assoc.get {} d.rad.cca ch
  { d with rad := { d.rad with cca := Assoc.put d.rad.cca ch { total := c.total + 1, busy := c.busy + b2n busy } } }

/-- A backoff ends (R184); fits: the frame ends before the contention period does, never: it could never; chan: the radio channel
of the CCA. -/
def Dev.csmaEnd (d : Dev) (m : Nat) (fits : Nat → Bool) (never : Bool) (chan : Option Nat) (busy : Bool) : Dev :=
  match (d.mac m).access with
  | none => d
  | some a =>
    let psdu := (d.laneTx m a.lane).mpdu
    let client : Client := ⟨mPage m, a.lane⟩
    if (d.txFront? a.lane).isNone || !d.macSends m then d.setAccess m none
    else if never then (d.setAccess m none).laneFail m a.lane
    else if !fits psdu.length then (d.setAccess m none).bump (mDefer m)
    else
      let d := d.request (mClass m) client
      if !d.granted (mClass m) client then d.bump (mLeaveWait m)
      else
      let d := match chan with | none => d | some c => d.ccaCount c busy
      if busy then
        let d := (d.giveBack (mClass m) client).bump (mCcaBusy m)
        if d.maxBackoffs m < a.nb + 1 then ((d.setAccess m none).bump (mCaFail m)).tryFailed m a.lane
        else d.setAccess m (some { a with nb := a.nb + 1, be := min (a.be + 1) (d.maxBe m) })
      else ((d.setAccess m none).macTransmit m a.lane psdu (d.headId a.lane)).giveBack (mClass m) client

/-! ## Frame counters and keys of received frames (R185, R192, R193) -/

/-- The test of R193 on record i; true beside the device when it accepts. -/
def Dev.fcAccept (d : Dev) (i fc : Nat) : Dev × Bool :=
  let high := d.recGet i rSECURITY 4
  let win := d.recGet i (rSECURITY + 4) 4
  let put := fun (h w : Nat) => (d.recPut i rSECURITY 4 h).recPut i (rSECURITY + 4) 4 w
  if win = 0 then (put fc 1, true)
  else if high < fc then (put fc (if 32 ≤ fc - high then 1 else (win * 2 ^ (fc - high) + 1) % 2 ^ 32), true)
  else
    let back := high - fc
    if 32 ≤ back ∨ win.testBit back then (d, false) else (put high (win + 2 ^ back), true)

/-- A pair accepted less than 1 s ago. -/
def Dev.seenPair (d : Dev) (m src fc : Nat) : Bool :=
  (d.mac m).pairs.any fun p => p.src == src && p.fcnt == fc && !d.past p.tick 250000000

/-- Keep the last 64 accepted pairs. -/
def Dev.keepPair (d : Dev) (m src fc : Nat) : Dev :=
  let s := d.mac m
  d.setMac m { s with pairs := (({ src := src, fcnt := fc, tick := d.time.ticks } : Pair) :: s.pairs).take 64 }

/-- A security reject (R193, R204): counted, and event 14 on the radio. -/
def Dev.secReject (d : Dev) (m src : Nat) : Dev :=
  let d := d.bump (mSecReject m)
  let d := match d.rxLane m src with | none => d | some n => d.bump (LN_SEC_REJECT n)
  d.iff (m == 0) (·.raise pRMC 2)

/-- The security check of a received frame: its result and its payload, none when it is discarded (R192, R193). -/
def Dev.openFrame (d : Dev) (m : Nat) (x : Mpdu) : Dev × Option (Nat × Bytes) :=
  let unverified := some (3, x.payload ++ x.mic)
  if !x.sec then (d, some (0, x.payload))
  else match d.lookup x.src with
    | none => (d.bump (mUnknown m), unverified)
    | some h =>
      if d.seenPair m x.src x.fcnt then (d.bump (mDup m), none)
      else
        let ref := d.recGet h.idx (rSECURITY + 12) 4
        match d.endpointKey ref x.src with
        | (d, none) => (d.iff (!ref.testBit 31) (·.bump KEY_UNWRAP_FAIL), unverified)
        | (d, some k) =>
          match ccmOpen k 8 (ccmNonce x.src x.fcnt 6) x.head x.payload x.mic with
          | none => (d.secReject m x.src, none)
          | some pt =>
            match d.fcAccept h.idx x.fcnt with
            | (d, false) => (d.secReject m x.src, none)
            | (d, true) => (d.keepPair m x.src x.fcnt, some (1, pt))

/-- The key of a received frame is not in the cache, and its blob must be unwrapped first (R192, R264). -/
def Dev.keyMissing (d : Dev) (m : Nat) (x : Mpdu) : Bool :=
  x.sec && match d.lookup x.src with
  | none => false
  | some h =>
    let ref := d.recGet h.idx (rSECURITY + 12) 4
    ref.testBit 31 && !d.seenPair m x.src x.fcnt && !d.key.cache.any fun e => e.blob == bitsOf ref 19 0

/-- RFLAGS (R188): the security result, FP, RESYNC and the clock class at the reference instant. -/
def rflags (res : Nat) (x : Mpdu) (cls : Nat) : Nat := res + 4 * b2n x.fp + 8 * b2n x.resync + 16 * cls

/-- A received frame goes into the receive queue of its lane, after its header of 16 octets (R188, R204). -/
def Dev.deliver (d : Dev) (x : Mpdu) (r : RxFrame) (res : Nat) (payload : Bytes) (lane : Option Nat) : Dev :=
  match lane with
  | none => d
  | some n =>
    let head := leBytes 8 x.src ++ r.info ++ leBytes 1 (rflags res x r.cls) ++ leBytes 4 x.fcnt
    let (d, ok) := d.pushFrame (2 * n + 1) 0 (head ++ payload) r.t r.tUnc
    d.iff ok (·.bump (LN_RX_OK n))

/-- Keep a frame until its key stands. -/
def Dev.awaitKey (d : Dev) (m : Nat) (r : RxFrame) : Dev :=
  let s := d.mac m
  d.setMac m { s with waitKey := s.waitKey ++ [r] }

/-- An ACK (R182): FC, SEQ, NETID and FCS, nine octets with FCS32 as in the examples of R187 and R213. -/
def Dev.ackPsdu (d : Dev) (m seq : Nat) (fp : Bool) : Bytes :=
  let h := mpduHead fACK fp false seq (d.gov (mNet m) % 65536) none none none
  h ++ fcsBytes (d.fcsOf m) h

end Sys2Proof.Machine
end

