-- ==== Sys2Proof/Machine/RadOps.lean ====
section
/-!
DEFINITION. The radio link (R177 to R197): superframes and beacons, reception and ACKs, sleepy meters, connection lanes, scans.
-/
namespace Sys2Proof.Machine

/-! ## The superframe (R181) -/

/-- ns of a superframe and of a slot. -/
abbrev sfNs : Nat := 1024000000
abbrev slotNs : Nat := 16000000

/-- The absolute number of the superframe at the present time, plus one; 0 before the first. -/
def Dev.sfNow (d : Dev) : Nat :=
  let o := d.rd64 RMC_SF_ORIGIN_LO
  if d.ext < o then 0 else (d.ext - o) / sfNs + 1

/-- The extended time at which superframe m starts. -/
def Dev.sfStart (d : Dev) (m : Nat) : Nat := d.rd64 RMC_SF_ORIGIN_LO + m * sfNs

/-- RMC_SF_NO and the slot. -/
def Dev.sfNo (d : Dev) : Nat := (d.sfNow - 1) % 2 ^ 32
def Dev.slotNow (d : Dev) : Nat :=
  let o := d.rd64 RMC_SF_ORIGIN_LO
  if d.ext < o then 0 else (d.ext - o) % sfNs / slotNs

/-- The absolute global slot. -/
def Dev.globalSlot (d : Dev) : Nat := (d.sfNow - 1) * 64 + d.slotNow

/-- HOP_LEN, FIRST_RSV and the hop index of superframe m. -/
def Dev.hopLen (d : Dev) : Nat := max 1 (d.gov RMC_HOP_CFG % 256)
def Dev.firstRsv (d : Dev) : Nat := d.gov RMC_SLOT_SPLIT % 128
def Dev.hopIdx (d : Dev) : Nat := (d.sfNow - 1) % d.hopLen

/-- The channel of beacons and contention traffic. -/
def Dev.hopChannel (d : Dev) : Nat :=
  if (d.gov RAD_FIX_CH).testBit 7 then d.gov RAD_FIX_CH % 128
  else (d.gov (RMC_HOP (d.hopIdx / 4)) >>> (8 * (d.hopIdx % 4))) % 128

/-- The RMC_RSV entry of a slot: its lane when VALID. -/
def Dev.rsvLane (d : Dev) (s : Nat) : Option Nat :=
  let e := (d.gov (RMC_RSV (s / 2)) >>> (16 * (s % 2))) % 65536
  if e.testBit 15 then some (e % 512) else none

/-- Blocked channels (R195): after OBS superframes, each channel whose CCA busy fraction exceeds PCT. -/
def Dev.observe (d : Dev) : Dev :=
  let n := d.rad.obs + 1
  if n < d.fld RAD_BLOCK_CFG 15 8 then { d with rad := { d.rad with obs := n } }
  else
    let pct := d.fld RAD_BLOCK_CFG 6 0
    let hit := (d.rad.cca.filter fun e => decide (pct * e.2.total < 100 * e.2.busy)).map (·.1)
    let d : Dev := { d with rad := { d.rad with obs := 0, cca := [] } }
    d.each hit fun d c =>
      (d.wr (RAD_BLOCKED_MAP (c / 32)) (d.rd (RAD_BLOCKED_MAP (c / 32)) ||| 2 ^ (c % 32))).raise pRAD 0

/-- The beacon of the present superframe (R183). None under a key slot that may not. -/
def Dev.beacon (d : Dev) : Dev × Option Bytes :=
  let m := d.sfNow - 1
  let tRef := d.sfStart m + radOctets d.radMode (d.preLen + 2)
  let sec := (d.gov RMC_BCN_SEC).testBit 8
  let slot := d.gov RMC_BCN_SEC % 256
  let (d, seq) := d.nextSeq 0
  let payload := leBytes 4 m ++ leBytes 8 (enc 64 (d.utcOf tRef)) ++ leBytes 1 d.cls.code ++ leBytes 1 d.firstRsv ++
    leBytes 1 d.hopIdx ++ leBytes 1 (d.gov RMC_HOP_CFG / 256) ++ zeroBytes 1
  let net := d.gov RMC_NET % 65536
  let body :=
    if !sec then some (mpduHead fBEACON false false seq net none (some d.eui) none ++ payload)
    else if d.useSlot slot [0] 0 = 0 then
      some (secure1 (d.slot slot).key d.eui (m % 2 ^ 32) (mpduHead fBEACON false false seq net none (some d.eui) (some m)) payload)
    else none
  (d, body.map fun b => b ++ fcsBytes d.fcsLen b)

/-- A beacon not sent (R181). -/
def Dev.beaconMiss (d : Dev) : Dev := (d.bump RMC_BCN_SKIP).raise pRMC 0

/-- SUPERFRAME_START: boundary-class registers of RAD and RMC take effect, the superframes skipped count as missed beacons, and
the beacon goes out or is missed (R41, R181). locked: the synthesiser is locked. -/
def Dev.superframe (d : Dev) (locked : Bool) : Dev :=
  let now := d.sfNow
  if !d.runs pRMC || decide (now ≤ d.rad.sfDone) then d
  else
    let skipped := now - 1 - d.rad.sfDone
    let d : Dev := { d with rad := { d.rad with sfDone := now, lock := locked } }
    let d := d.each (List.range skipped) fun d _ => d.beaconMiss
    let d := (d.boundary fun a => onPage pRAD a || onPage pRMC a).observe
    if !d.macSends 0 || !locked || !(d.gov RMC_NET).testBit 16 then d.beaconMiss
    else match d.beacon with
      | (d, none) => d.beaconMiss
      | (d, some b) => (d.radSend b).bump RMC_BCN_SENT

/-- RMC begins: its first superframe starts at least 2 ms later (R181). -/
def Dev.rmcBegin (d : Dev) : Dev :=
  let o := d.rd64 RMC_SF_ORIGIN_LO
  let from' := d.ext + 2000000
  let d : Dev := { d with rad := { d.rad with sfDone := if from' ≤ o then 0 else ceilDiv (from' - o) sfNs } }
  d

/-- SYNTH_UNLOCK: a loss of lock, counted (R195). -/
def Dev.synthUnlock (d : Dev) : Dev :=
  if !d.runs pRAD then d else ({ d with rad := { d.rad with lock := false } } : Dev).bump RAD_SYNTH_UNLOCK

/-! ## Connection lanes (R189 to R191) -/

def Dev.conn (d : Dev) (n : Nat) : ConnLane := Assoc.get {} d.rad.conn n
def Dev.setConn (d : Dev) (n : Nat) (c : ConnLane) : Dev := { d with rad := { d.rad with conn := Assoc.put d.rad.conn n c } }

/-- Lane n is an enabled radio CONNECTION lane. -/
def Dev.isConn (d : Dev) (n : Nat) : Bool := d.laneLink n == 1 && d.laneKind n == 1 && d.laneOn n

/-- CI as it governs the lane, SUP_TO. -/
def Dev.connCi (d : Dev) (n : Nat) : Nat := max 1 (d.gov (LN_CONN n) % 1024)
def Dev.supTo (d : Dev) (n : Nat) : Nat := d.fld (LN_CONN n) 24 16

/-- The channel of event evt of a lane (R189). -/
def Dev.eventChannel (d : Dev) (n evt : Nat) : Nat :=
  if (d.gov RAD_FIX_CH).testBit 7 then d.gov RAD_FIX_CH % 128
  else
    let used := (List.range 128).filter fun c => (d.gov (LN_CHMAP n (c / 32))).testBit (c % 32)
    let i := (evt % 65536 * d.fld (LN_HOP n) 14 8 + d.fld (LN_HOP n) 6 0) % 2 ^ 32 % max 1 used.length
    used.getD i 0

/-- The lanes CONNECTED whose event falls in absolute slot g. -/
def Dev.eventsIn (d : Dev) (g : Nat) : List Nat :=
  (d.rad.conn.filter fun e => e.2.st == 2 && d.isConn e.1 && (e.2.next == g || e.2.last == some g)).map (·.1)

/-- The window of lane n's event in slot g in ns; 0: none (R189). -/
def Dev.eventWindow (d : Dev) (n g : Nat) : Nat :=
  let s := g % 64
  if s = 0 then 0
  else if d.firstRsv ≤ s then if d.rsvLane s = some n then slotNs else 0
  else if (d.eventsIn g).any fun l => decide (l < n) then 0
  else d.fld RMC_EVT_WIN 3 0 * 1000000

/-- ns since the start of the present slot. -/
def Dev.inSlot (d : Dev) : Nat := (d.ext - d.rd64 RMC_SF_ORIGIN_LO) % slotNs

/-- The present time lies in the contention period, outside every event window (R181, R184). -/
def Dev.contention (d : Dev) : Bool :=
  let s := d.slotNow
  let g := d.globalSlot
  decide (0 < d.sfNow) && decide (1 ≤ s) && decide (s < d.firstRsv) &&
  (d.eventsIn g).all fun l => decide (d.eventWindow l g ≤ d.inSlot)

/-- A frame of n octets that starts after a CCA and the turnaround ends before the contention period does (R184). -/
def Dev.fitsContention (d : Dev) (n : Nat) : Bool :=
  let e := d.sfStart (d.sfNow - 1) + d.firstRsv * slotNs
  decide (d.ext + 200000 + d.radAir n ≤ e)

/-- The next frame of a lane's exchange: the queue's head, or an empty POLL; it and its ACK end inside the window, which ends at
an extended time (R189). -/
def Dev.eventFrame (d : Dev) (n w : Nat) : Dev :=
  let more : Bool := decide (2 ≤ (d.queue (2 * n)).ids.length)
  let ack := 1000000 + d.radAir (5 + d.fcsLen)
  let send := fun (d : Dev) (psdu : Bytes) (frame : Option Nat) =>
    let d := d.radSend psdu
    let s := d.mac 0
    let w : AckWait := { lane := n, seq := leAt psdu 2 1, frame := frame, tick := s.txEnd }
    d.setMac 0 { s with ackWait := some w }
  let client : Client := ⟨pRMC, n⟩
  match d.txFront? n with
  | none =>
    let (d, seq) := d.nextSeq 0
    let h := mpduHead fPOLL false true seq (d.gov RMC_NET % 65536) (some (d.rd64 (LN_PEER_LO n))) (some d.eui) none
    let p := h ++ fcsBytes d.fcsLen h
    if w < d.ext + d.radAir p.length + ack then d else send d p none
  | some f =>
    let (d, psdu) := if (d.laneTx 0 n).mpdu ≠ [] then (d, some (d.laneTx 0 n).mpdu) else d.psduOf 0 n more true f.data
    match psdu with
    | none => d.laneFail 0 n
    | some p =>
      let d := d.setLaneTx 0 n { d.laneTx 0 n with mpdu := p }
      if w < d.ext + d.radAir p.length + ack then d
      else
        let d := d.request 2 client
        if !d.granted 2 client then d.bump RMC_LEAVE_WAIT
        else (send d p (d.headId n)).giveBack 2 client

/-- CONNECTION_EVENT: the lane's event slot arrives and its exchange starts, or the event is skipped; in the window of a running
exchange, its next frame goes out while either side has set FP (R189). -/
def Dev.connectionEvent (d : Dev) (n : Nat) : Dev :=
  let g := d.globalSlot
  let c := d.conn n
  if !d.runs pRMC || !d.isConn n || c.st ≠ 2 || decide (d.sfNow = 0) then d
  else if c.last = some g then
    if c.more ∧ (d.mac 0).ackWait = none ∧ d.macSends 0 then
      (d.setConn n { c with more := false }).eventFrame n (d.ext - d.inSlot + d.eventWindow n g)
    else d
  else if g < c.next then d
  else
    let d := d.boundary (onLane n)
    let ci := d.connCi n
    let late := ceilDiv (g - c.next) ci
    let d := (d.bump (LN_EVT_SKIP n) late).bump RMC_EVT_SKIP late
    let next := c.next + late * ci
    let evt := c.evt + late
    if g < next then d.setConn n { c with next := next, evt := evt }
    else
      let w := d.eventWindow n g
      let c' := { c with next := next + ci, evt := evt + 1, last := some g, more := false }
      let d := d.setConn n c'
      if w = 0 then (d.bump (LN_EVT_SKIP n)).bump RMC_EVT_SKIP
      else if !d.macSends 0 then d
      else (({ d with rad := { d.rad with ant := c.ant } } : Dev).dstContact 0 (d.rd64 (LN_PEER_LO n))).eventFrame n
        (d.ext - d.inSlot + w)

/-- LN_CMD LISTEN and DISCONNECT (R190). -/
def Dev.laneListen (d : Dev) (n : Nat) : Dev := if d.isConn n then d.setConn n { d.conn n with st := 1 } else d
def Dev.laneDisconnect (d : Dev) (n : Nat) : Dev := if d.isConn n then d.setConn n { d.conn n with st := 0 } else d

/-- CONNECT_RSP_TX: a CONNECT_RSP follows the ACK of a matching CONNECT_REQ, and the lane becomes CONNECTED (R190). Without
leave nothing is sent and the lane stays in LISTEN (DEDUCED). -/
def Dev.connectRsp (d : Dev) (n : Nat) : Dev :=
  if d.rad.connectDue ≠ some n ∨ ¬d.macSends 0 ∨ ¬d.isConn n ∨ (d.conn n).st ≠ 1 then d
  else
    let d : Dev := { d with rad := { d.rad with connectDue := none } }
    let client : Client := ⟨pRMC, n⟩
    let d := d.request 2 client
    if !d.granted 2 client then d.bump RMC_LEAVE_WAIT
    else
      let ci := d.connCi n
      let a := d.rd (LN_ANCHOR n) % ci
      let g := d.globalSlot + 4
      let g0 := g + (ci + a - g % ci) % ci
      let body := leBytes 2 0 ++ leBytes 4 g0 ++ leBytes 2 ci ++ leBytes 2 (d.supTo n) ++ leBytes 1 (d.fld (LN_HOP n) 6 0) ++
        leBytes 1 (d.fld (LN_HOP n) 14 8) ++ (List.range 4).flatMap fun i => leBytes 4 (d.gov (LN_CHMAP n i))
      match d.frameTo 0 fCONNECT_RSP false false true (some (d.rd64 (LN_PEER_LO n))) body with
      | (d, none) => d.giveBack 2 client
      | (d, some x) =>
        let d := (d.radSend (x ++ fcsBytes d.fcsLen x)).giveBack 2 client
        d.setConn n { st := 2, next := g0, evt := 0, lastRx := d.time.ticks, ant := (d.conn n).ant }

/-- SUPERVISION_TIMEOUT (R191). -/
def Dev.supervision (d : Dev) (n : Nat) : Dev :=
  let c := d.conn n
  if !d.runs pRMC || c.st ≠ 2 || !d.past c.lastRx (msTicks (100 * d.supTo n)) then d
  else (d.setConn n { c with st := 3 }).raise pRMC 1

/-! ## Sleepy meters (R186) -/

/-- The frames of the INDIRECT queue that are offered, oldest first. -/
def Dev.indirect (d : Dev) : List Nat :=
  match d.laneOf 1 2 with
  | none => []
  | some n => if d.laneFenced n || !d.en pQRY then []
    else ((d.queue (2 * n)).ids.take 256).filter fun i => !d.rad.indGone.contains i

/-- Those pending for a meter. -/
def Dev.pendingFrames (d : Dev) (addr : Nat) : List Nat :=
  d.indirect.filter fun i => match d.frame? i with | none => false | some f => txDst f.data == addr

/-- Release the contiguous run of frames that are sent or dropped. -/
def indRelease : Nat → Nat → Dev → Dev
  | 0, _, d => d
  | fuel + 1, n, d =>
    match d.headId n with
    | some i =>
      if d.rad.indGone.contains i then
        indRelease fuel n (({ d with rad := { d.rad with indGone := d.rad.indGone.filter (· != i) } } : Dev).popFront (2 * n))
      else d
    | none => d

/-- Frame i of the INDIRECT queue is sent or dropped. -/
def Dev.indGoneMark (d : Dev) (n i : Nat) : Dev :=
  indRelease 512 n { d with rad := { d.rad with indGone := insertNat i d.rad.indGone } }

/-- INDIRECT_TX: the oldest pending frame follows the ACK to the meter in contact (R186). -/
def Dev.indirectTx (d : Dev) : Dev :=
  match d.rad.indDue, d.laneOf 1 2 with
  | some addr, some n =>
    let d : Dev := { d with rad := { d.rad with indDue := none } }
    if !d.macSends 0 then d
    else match d.pendingFrames addr with
      | [] => d
      | i :: more =>
        let client : Client := ⟨pRMC, n⟩
        let d := d.request 2 client
        if !d.granted 2 client then d.bump RMC_IND_UNSENT
        else
          let data := ((d.frame? i).map (·.data)).getD []
          match d.psduOf 0 n (!more.isEmpty) false data with
          | (d, none) => ((d.indGoneMark n i).bump (LN_TX_FAIL n)).giveBack 2 client
          | (d, some p) =>
            let d := (d.radSend p).giveBack 2 client
            if (leAt p 0 1).testBit 5 then
              let s := d.mac 0
              d.setMac 0 { s with ackWait := some { lane := n, seq := leAt p 2 1, frame := some i, tick := s.txEnd } }
            else (d.indGoneMark n i).bump (LN_TX_OK n)
  | _, _ => d

/-- INDIRECT_EXPIRE: frames older than IND_TTL are dropped (R186). -/
def Dev.indirectExpire (d : Dev) : Dev :=
  match d.laneOf 1 2 with
  | none => d
  | some n =>
    if !d.runs pRMC then d
    else
      let ttl := d.fld RMC_IND_CFG 15 0 * 1000000000
      let old := d.indirect.filter fun i => match d.frame? i with | none => false | some f => decide (f.t + ttl ≤ d.ext)
      d.each old fun d i => ((d.indGoneMark n i).bump RMC_IND_EXPIRED).bump (LN_TX_FAIL n)

/-! ## ACKs (R185) -/

/-- The frame that waits for an ACK has it. fp: the peer has more. -/
def Dev.radAcked (d : Dev) (w : AckWait) (fp : Bool) : Dev :=
  let s := d.mac 0
  let d := d.setMac 0 { s with ackWait := none }
  let kind := d.laneKind w.lane
  if kind = 2 then
    match w.frame with
    | none => d
    | some i => (d.indGoneMark w.lane i).bump (LN_TX_OK w.lane)
  else
    let d := if w.frame.isSome then d.laneOk 0 w.lane else d
    if kind = 1 then d.setConn w.lane { d.conn w.lane with more := fp || (d.txFront? w.lane).isSome } else d

/-- ACK_WAIT_TIMEOUT on the radio: the frame is tried again or counted as failed (R185, R189). -/
def Dev.radNoAck (d : Dev) : Dev :=
  let s := d.mac 0
  match s.ackWait with
  | none => d
  | some w =>
    let d := d.setMac 0 { s with ackWait := none }
    if w.frame.isNone ∨ d.laneKind w.lane = 2 then d
    else
      let d := d.iff (decide (d.maxRetry 0 < (d.laneTx 0 w.lane).tries + 1)) (·.bump RMC_ACK_FAIL)
      d.tryFailed 0 w.lane

/-- ACK_TX: the ACK goes out 1,000 µs after the frame that asked for it (R185); a frame pending for the sender sets FP (R186). -/
def Dev.radAckTx (d : Dev) : Dev :=
  let s := d.mac 0
  match s.ackOwed with
  | none => d
  | some o =>
    let d := d.setMac 0 { s with ackOwed := none }
    if !d.macSends 0 then d
    else
      let fp : Bool := o.contact && !(d.pendingFrames o.src).isEmpty
      let d := d.radSend (d.ackPsdu 0 o.seq fp)
      let ind := if fp then some o.src else d.rad.indDue
      let con := if o.connect.isSome then o.connect else d.rad.connectDue
      { d with rad := { d.rad with indDue := ind, connectDue := con } }

/-! ## Reception (R180, R182, R188) -/

/-- The lane in LISTEN that a CONNECT_REQ of a source matches (R190). -/
def Dev.listenLane (d : Dev) (src : Nat) : Option Nat :=
  match d.peerLane 1 1 src with
  | none => none
  | some n => if (d.conn n).st = 1 then some n else none

/-- What follows the security check of a frame: the peer's timers, a CONNECT_REQ, the receive queue. -/
def Dev.radAccept (d : Dev) (x : Mpdu) (r : RxFrame) (res : Nat) (payload : Bytes) : Dev :=
  let peer := d.peerOf 0 x.src
  let d := match peer with
    | none => d
    | some n =>
      if res = 3 then d
      else
        let d := ((d.setConn n { d.conn n with lastRx := d.time.ticks, ant := d.rad.ant }).wr64 (LN_LAST_RX_LO n) r.t).wr (LN_LINK_Q n)
          (leAt r.info 0 2)
        let c := d.conn n
        if c.last = some d.globalSlot then d.setConn n { c with more := c.more || x.fp } else d
  if x.typ = fCONNECT_REQ then
    match d.listenLane x.src with
    | some n =>
      if res = 1 then
        let s := d.mac 0
        match s.ackOwed with
        | some o => d.setMac 0 { s with ackOwed := some { o with connect := some n } }
        | none => { d with rad := { d.rad with connectDue := some n } }
      else d.deliver x r res payload (d.laneOf 1 0)
    | none => d.deliver x r res payload (d.laneOf 1 0)
  else if x.typ = fPOLL ∧ payload = [] then d
  else d.deliver x r res payload (if res = 3 then d.laneOf 1 0 else d.rxLane 0 x.src)

/-- A frame's security check and what follows it; a frame whose key is not cached waits (R192). -/
def Dev.radSecured (d : Dev) (x : Mpdu) (r : RxFrame) : Dev :=
  match d.openFrame 0 x with
  | (d, none) => d
  | (d, some (res, p)) => d.radAccept x r res p

/-- RAD_FRAME_RX (R177, R180, R182, R185). -/
def Dev.radRx (d : Dev) (f : RadioRx) : Dev :=
  if !d.macHears 0 then d
  else if !f.phrOk || decide (f.psdu.length < 7) then d.bump RAD_RX_PHR_ERR
  else
    let n := if f.fcs32 then 4 else 2
    let body := f.psdu.take (f.psdu.length - n)
    let d : Dev := { d with rad := { d.rad with rssi := f.rssi.toNat, ant := d.bit RAD_ANT 0 && f.ant } }
    if fcsBytes n body ≠ f.psdu.drop (f.psdu.length - n) then d.bump RAD_RX_FCS_ERR
    else
      let d := d.bump RAD_RX_OK
      match parseMpdu body with
      | none => d
      | some x =>
        if 5 < x.typ ∨ x.ver ≠ 1 ∨ x.net ≠ d.gov RMC_NET % 65536 ∨ x.typ = fBEACON then d
        else if x.typ = fACK then
          match (d.mac 0).ackWait with
          | some w => if w.seq = x.seq then d.radAcked w x.fp else d
          | none => d
        else if x.dst.any fun a => a != d.eui then d
        else
          let d := d.iff x.resync (·.bump RMC_RESYNC_COUNT)
          let quarter := match d.radMode with | 0 => 5000 | 1 => 2500 | 2 => 1667 | 3 => 1250 | 4 => 2500 | _ => 1667
          let r : RxFrame := { mpdu := body, t := d.ext - f.ago - d.rd RAD_LAT_RX, tUnc := d.stampUnc (quarter + d.rd RAD_LAT_UNC),
                               info := [f.rssi, f.margin, BitVec.ofNat 8 f.channel.val], cls := d.cls.code }
          let contact : Bool := d.contention && (x.typ == fPOLL || (x.typ == fDATA && x.ar))
          let s := d.mac 0
          let owed : AckOwed := { src := x.src, seq := x.seq, contact := contact, connect := none, tick := d.time.ticks }
          let d := d.iff x.ar (·.setMac 0 { s with ackOwed := some owed })
          let d := d.dstContact 0 x.src
          if d.keyMissing 0 x then d.awaitKey 0 r else d.radSecured x r

/-- The oldest radio frame that waits for its key goes on (R192, R264). -/
def Dev.radKeyReady (d : Dev) : Dev :=
  let s := d.mac 0
  match s.waitKey with
  | [] => d
  | r :: rest =>
    let d := d.setMac 0 { s with waitKey := rest }
    match parseMpdu r.mpdu with | none => d | some x => d.radSecured x r

/-! ## CSMA on the radio (R184) -/

/-- CSMA_SEND. -/
def Dev.radCsmaSend (d : Dev) (n : Nat) : Dev := d.csmaStart 0 n

/-- CSMA_BACKOFF_END: backoff units are counted in the contention period only; the CCA is counted for its channel (R195). -/
def Dev.radBackoffEnd (d : Dev) (busy : Bool) : Dev :=
  if !d.contention then d else d.csmaEnd 0 d.fitsContention false (some d.hopChannel) busy

/-! ## Scans (R195) -/

/-- RAD_SCAN_CMD.START with a DWELL. -/
def Dev.scanStart (d : Dev) (dwell : Nat) : Dev :=
  let d := d.wr RAD_SCAN_CMD (256 * (dwell % 256))
  if d.en pRMC ∨ ¬d.starts pRAD ∨ d.rad.scan.isSome then d.bump RAD_SCAN_REFUSED
  else { d with rad := { d.rad with scan := some d.time.ticks } }

/-- RAD_SCAN_DONE: the peaks by channel; each masked channel's goes into its byte of RAD_SCAN_RES. -/
def Dev.scanDone (d : Dev) (peaks : List (BitVec 8)) : Dev :=
  if d.rad.scan.isNone then d
  else
    let chs := (List.range 128).filter fun c => (d.rd (RAD_SCAN_MASK (c / 32))).testBit (c % 32)
    let d := d.each chs fun d c =>
      d.wrFld (RAD_SCAN_RES (c / 4)) (8 * (c % 4) + 7) (8 * (c % 4)) (peaks.getD c 0).toNat
    ({ d with rad := { d.rad with scan := none } } : Dev).raise pRAD 1

/-! ## The pages (R195 to R197) -/

def radRead (d : Dev) (off : Nat) : Option Nat := if off = 0x150 then some d.rad.rssi else none

/-- What RAD makes of a write to its page. -/
def radWrite (d : Dev) (off v : Nat) : WriteRes :=
  if off = 0x128 then
    if v.testBit 0 then .done (d.scanStart (bitsOf v 15 8)) else .done (d.wr RAD_SCAN_CMD (256 * bitsOf v 15 8))
  else .plain

/-- The radio transmits, listens. -/
def Dev.txOn (d : Dev) (m : Nat) : Bool := decide (d.time.ticks < (d.mac m).txEnd)
def Dev.rxOn (d : Dev) (m : Nat) : Bool := d.macHears m && !d.txOn m

/-- The present channel: that of a running connection event, otherwise that of the hop sequence. -/
def Dev.channelNow (d : Dev) : Nat :=
  let g := d.globalSlot
  match (d.eventsIn g).find? fun n => (d.conn n).last == some g && decide (d.inSlot < d.eventWindow n g) with
  | some n => d.eventChannel n ((d.conn n).evt - 1)
  | none => d.hopChannel

/-- The block bits of RAD PG_STAT. -/
def radPgStat (d : Dev) : Nat :=
  4 * b2n (d.en pRAD && d.rad.lock) + 8 * b2n (d.txOn 0) + 16 * b2n (d.rxOn 0) + 32 * b2n d.rad.scan.isSome + 64 * d.channelNow

def rmcRead (d : Dev) (off : Nat) : Option Nat :=
  match off with
  | 0x280 => some d.sfNo
  | 0x284 => some (d.slotNow + 256 * d.hopIdx)
  | 0x288 => some (match d.laneOf 1 2 with | none => 0 | some n => min 256 (d.queue (2 * n)).ids.length)
  | _ => none

/-- LN_STATE. -/
def laneRead (d : Dev) (n off : Nat) : Option Nat :=
  if off = 0x28 ∧ d.laneLink n = 1 then some ((d.conn n).st + 65536 * ((d.conn n).evt % 65536)) else none

/-- What RMC makes of a write to a lane's entry: LN_CMD. -/
def laneWrite (d : Dev) (n off v : Nat) : WriteRes :=
  if off = 0x38 ∧ d.laneLink n = 1 then
    .done (if v % 4 = 1 then d.laneListen n else if v % 4 = 2 then d.laneDisconnect n else d)
  else .plain

/-- A frame in the air. -/
def radBusy (d : Dev) : Bool := d.txOn 0 || d.rad.scan.isSome
def rmcBusy (d : Dev) : Bool := d.txOn 0 || (d.mac 0).ackWait.isSome || (d.mac 0).ackOwed.isSome

/-- Soft resets: RAD loses its scan and lock history; RMC its procedures, its retransmission cache and every connection. -/
def radReset (d : Dev) : Dev := { d with rad := { d.rad with lock := true, scan := none, cca := [], obs := 0, ant := false } }
def rmcReset (d : Dev) : Dev :=
  { d with rad := { d.rad with mac := {}, sfDone := 0, conn := [], connectDue := none, indDue := none, indGone := [] } }

/-- At takeover the CONNECTED lanes resume at their next event computed from the time base (R194). -/
def Dev.radTakeover (d : Dev) : Dev :=
  let d := d.rmcBegin
  d.each (d.rad.conn.map (·.1)) fun d n =>
    let c := d.conn n
    let ci := d.connCi n
    let g := d.globalSlot + 1
    if c.st = 2 ∧ c.next < g then
      let late := ceilDiv (g - c.next) ci
      d.setConn n { c with next := c.next + late * ci, evt := c.evt + late }
    else d

end Sys2Proof.Machine
end

