-- ==== Sys2Proof/Machine/PlcOps.lean ====
section
/-!
DEFINITION. The power-line link (R198 to R215): beacons, reception, tone maps, zero crossings and phases.
-/
namespace Sys2Proof.Machine

/-! ## Beacons (R205, R209) -/

/-- The beacon period in ns as it governs the medium. -/
def Dev.plcPeriod (d : Dev) : Nat := max 1 (d.gov PLC_BCN % 32) * 1024000000

/-- The number of the present beacon, plus one; 0 before the first. -/
def Dev.plcBcnNow (d : Dev) : Nat :=
  let o := d.rd64 PLC_BCN_ORIGIN_LO
  if d.ext < o then 0 else (d.ext - o) / d.plcPeriod + 1

/-- The nominal instant of beacon j. -/
def Dev.plcNominal (d : Dev) (j : Nat) : Nat := d.rd64 PLC_BCN_ORIGIN_LO + j * d.plcPeriod

/-- Beacons start at zero crossings: TIME or TIME_PHASE, and ZC_OK (R209). -/
def Dev.zcAligned (d : Dev) : Bool := (d.rd PLC_ZC_MODE).testBit 0 && d.plc.zcOk

/-- A beacon not sent, except in STANDBY and RESYNC (R205). -/
def Dev.plcMiss (d : Dev) : Dev := d.iff (!d.pairSlave) fun d => (d.bump PLC_BCN_SKIP).raise pPLC 0

/-- The beacon that starts at an extended time (R205). -/
def Dev.plcBeacon (d : Dev) (start : Nat) : Dev × Option Bytes :=
  let j := d.plcBcnNow - 1
  let tRef := start + 6 * 256 * d.plcSample
  let cfg := d.gov PLC_BCN
  let (d, seq) := d.nextSeq 1
  let payload := leBytes 4 j ++ leBytes 8 (enc 64 (d.utcOf tRef)) ++ leBytes 1 d.cls.code ++ leBytes 1 d.plcPlan ++
    leBytes 3 (d.gov PLC_TONE_MASK % 2 ^ 17) ++ leBytes 1 (cfg % 32) ++ leBytes 1 (d.rd PLC_ZC_MODE % 4) ++ zeroBytes 1
  let net := d.gov PLC_NET % 65536
  let body :=
    if !cfg.testBit 9 then some (mpduHead fBEACON false false seq net none (some d.eui) none ++ payload)
    else if d.useSlot (bitsOf cfg 23 16) [0] 0 = 0 then
      some (secure1 (d.slot (bitsOf cfg 23 16)).key d.eui (j % 2 ^ 32)
        (mpduHead fBEACON false false seq net none (some d.eui) (some j)) payload)
    else none
  (d, body.map fun b => b ++ fcsBytes 4 b)

/-- Every tone map is cleared: the first beacon under a new plan (R212). -/
def Dev.clearMaps (d : Dev) : Dev :=
  let d := d.each (d.lanesBy fun w => bitsOf w 3 0 == 2) fun d n => (d.wr (LN_PLC_TMAP_TX n) 0).wr (LN_PLC_TMAP_RX n) 0
  { d with plc := { d.plc with tmapDue := [] } }

/-- PLC_BEACON_TX: the beacon of the present period goes out, at its nominal instant or at the first accepted zero crossing from
it on, or is missed; boundary-class registers take effect with it (R205, R209, R212). -/
def Dev.plcBeaconTx (d : Dev) : Dev :=
  let now := d.plcBcnNow
  if !d.runs pPLC || decide (now ≤ d.plc.bcnDone) then d
  else
    let nominal := d.plcNominal (now - 1)
    let edge := (d.plc.zcEdges.filter fun e => decide (nominal ≤ e)).getLast?
    if d.zcAligned ∧ edge.isNone ∧ ¬d.pairSlave then d
    else
      let start := if d.zcAligned then edge.getD nominal else nominal
      let skipped := now - 1 - d.plc.bcnDone
      let d := d.each (List.range skipped) fun d _ => d.plcMiss
      let plan := d.plcPlan
      let d := d.boundary (onPage pPLC)
      let d := d.iff (d.plcPlan != plan) (·.clearMaps)
      let d : Dev := { d with plc := { d.plc with bcnDone := now, noise := 0, burst := false, tmapDone := [] } }
      if !d.macSends 1 || !(d.gov PLC_BCN).testBit 8 then d.plcMiss
      else match d.plcBeacon start with
        | (d, none) => d.plcMiss
        | (d, some b) =>
          let e := d.ext + d.plcAir 0 d.plcUnmasked b.length
          let d := (d.plcSend 0 d.plcUnmasked b).bump PLC_BCN_SENT
          { d with plc := { d.plc with bcnStart := d.ext, bcnEnd := e } }

/-- PLC begins: its first beacon is that of the next nominal instant. -/
def Dev.plcBegin (d : Dev) : Dev :=
  let o := d.rd64 PLC_BCN_ORIGIN_LO
  { d with plc := { d.plc with bcnDone := if d.ext ≤ o then 0 else ceilDiv (d.ext - o) d.plcPeriod } }

/-! ## Phases (R210) -/

/-- Angle of a frame's sender in ns of the mains period: the reference instant less ZCO and less the own edge before it. -/
def Dev.phaseNs (d : Dev) (t zco : Nat) : Option (Nat × Nat) :=
  let period := 10 * d.fld PLC_ZC_STAT 21 0
  if !d.plc.zcOk || period = 0 then none
  else match d.plc.zcEdges.find? fun e => decide (e ≤ t) with
    | none => none
    | some e => some (((((t - e : Nat) : Int) - zco * 1000) % (period : Int)).toNat, period)

/-- The class of R210. -/
def phaseClass (tol x period : Nat) : Nat :=
  let k := (12 * x + period) / (2 * period)
  let off : Int := 360 * x - 60 * k * period
  if (tol * period : Nat) < off.natAbs then 0
  else match k % 6 with | 0 => 1 | 1 => 6 | 2 => 2 | 3 => 4 | 4 => 3 | _ => 5

/-- A received frame is classified; a PEER lane's phase follows after PHASE_N frames alike (R210). -/
def Dev.classify (d : Dev) (peer : Option Nat) (t zco : Nat) : Dev × Nat :=
  if !(d.rd PLC_ZC_MODE).testBit 1 || zco = 0xFFFF then (d, 0)
  else
    let (c, angle) := match d.phaseNs t zco with
      | none => (0, 0)
      | some (x, p) => (phaseClass (d.fld PLC_ZC_CFG 15 8) x p, x * 65536 / p)
    match peer with
    | none => (d, c)
    | some n =>
      let r : PhaseRun := Assoc.get {} d.plc.phase n
      let put := fun (d : Dev) (r : PhaseRun) => ({ d with plc := { d.plc with phase := Assoc.put d.plc.phase n r } } : Dev)
      if c = 0 then ((put d { cls := 0, run := 0 }).wrFld (LN_PLC_PHASE n) 7 4 0, 0)
      else
        let run := if r.cls = c then satNat (r.run + 1) 15 else 1
        let d := put d { cls := c, run := run }
        let d := (d.wrFld (LN_PLC_PHASE n) 7 4 run).wrFld (LN_PLC_PHASE n) 31 16 angle
        if d.fld PLC_ZC_CFG 19 16 ≤ run ∧ d.fld (LN_PLC_PHASE n) 2 0 ≠ c then
          ((d.wrFld (LN_PLC_PHASE n) 2 0 c).raise pPLC 3, c)
        else (d, c)

/-! ## Tone maps (R207) -/

/-- The groups of a mask, by index. -/
def Dev.groupsOf (d : Dev) (mask : Nat) : List Nat := (List.range d.plcGroups).filter mask.testBit

/-- The SNR of group g. -/
def snrOf (snr : List (BitVec 8)) (g : Nat) : Int := sext 8 (snr.getD g 0).toNat

/-- The map that the device wants a peer to use. -/
def Dev.chooseMap (d : Dev) (snr : List (BitVec 8)) : Nat × Nat :=
  let cfg := d.gov PLC_TMAP_CFG
  let cap := bitsOf (d.gov PLC_PHY) 2 1
  let open' := d.groupsOf d.plcUnmasked
  let pick := fun (m : Nat) =>
    let gs := open'.filter fun g => decide ((bitsOf cfg (8 * m - 1) (8 * m - 8) : Int) ≤ snrOf snr g)
    if bitsOf cfg 28 24 ≤ gs.length then some (m, gs.foldl (fun s g => s + 2 ^ g) 0) else none
  (([3, 2, 1].filter fun m => decide (m ≤ cap)).findSome? pick).getD (0, d.plcUnmasked)

/-- The word of a tone map with VALID. -/
def mapWord (m : Nat × Nat) : Nat := m.1 + 4 * m.2 + 2 ^ 31

/-- A tone map of lane n changes: 0 the transmit map, 1 the reported map (R207). -/
def Dev.mapChanged (d : Dev) (n which v : Nat) : Dev :=
  let a := if which = 0 then LN_PLC_TMAP_TX n else LN_PLC_TMAP_RX n
  if d.rd a = v then d
  else (((d.wr a v).bump (LN_TMAP_CHG n)).wr PLC_TMAP_LAST (n + 512 * which)).raise pPLC 4

/-- The measurement of a frame from a PEER lane's peer: link quality, and the map to report when it differs. -/
def Dev.measure (d : Dev) (n gmask symbols : Nat) (snr : List (BitVec 8)) : Dev :=
  let gs := (d.groupsOf gmask).map (snrOf snr)
  let mean : Int := gs.foldl (· + ·) 0 / max 1 (gs.length : Int)
  let low := gs.foldl min (gs.headD 0)
  let d := d.wr (LN_LINK_Q n) (enc 8 mean + 256 * enc 8 low)
  if symbols < 8 then d
  else
    let m := d.chooseMap snr
    let lowest := ((d.groupsOf m.2).map (snrOf snr)).foldl min (snrOf snr ((d.groupsOf m.2).headD 0))
    if d.rd (LN_PLC_TMAP_RX n) = mapWord m then { d with plc := { d.plc with tmapDue := Assoc.del d.plc.tmapDue n } }
    else { d with plc := { d.plc with tmapDue := Assoc.put d.plc.tmapDue n (mapWord m, enc 8 lowest) } }

/-- TONEMAP_TX: a TONEMAP frame to the peer of lane n, at most one per beacon period (R207). -/
def Dev.tonemapTx (d : Dev) (n : Nat) : Dev :=
  match d.plc.tmapDue.find? fun e => e.1 == n with
  | none => d
  | some (_, w, low) =>
    if !d.macSends 1 || (d.mac 1).ackWait.isSome || d.plc.tmapDone.contains n then d
    else
      let body := leBytes 1 (w % 4) ++ leBytes 3 (bitsOf w 18 2) ++ leBytes 1 low ++ zeroBytes 1
      match d.frameTo 1 fTONEMAP false true true (some (d.rd64 (LN_PEER_LO n))) body with
      | (d, none) => d
      | (d, some x) =>
        let p := x ++ fcsBytes 4 x
        let (modu, g) := d.plcMap n none false
        let d := (d.plcSend modu g p).bump PLC_TMAP_SENT
        let s := d.mac 1
        let wait : AckWait := { lane := n, seq := leAt p 2 1, frame := none, tick := s.txEnd }
        let d := d.setMac 1 { s with ackWait := some wait }
        { d with plc := { d.plc with tmapDone := insertNat n d.plc.tmapDone } }

/-- A TONEMAP frame of a peer gives the map for frames to it. -/
def Dev.tonemapRx (d : Dev) (src : Nat) (payload : Bytes) : Dev :=
  match d.peerOf 1 src with
  | none => d
  | some n =>
    if payload.length < 6 then d
    else
      let d := d.mapChanged n 0 (mapWord (leAt payload 0 1 % 4, leAt payload 1 3 % 2 ^ 17))
      d.wr64 (LN_PLC_TMAP_TIME_LO n) d.ext

/-! ## ACKs (R206) -/

/-- The frame that waits for an ACK has it. -/
def Dev.plcAcked (d : Dev) (w : AckWait) : Dev :=
  let s := d.mac 1
  let d := d.setMac 1 { s with ackWait := none }
  if w.frame.isSome then d.laneOk 1 w.lane
  else match d.plc.tmapDue.find? fun e => e.1 == w.lane with
    | none => d
    | some (_, v, _) =>
      ({ d with plc := { d.plc with tmapDue := Assoc.del d.plc.tmapDue w.lane } } : Dev).mapChanged w.lane 1 v

/-- ACK_WAIT_TIMEOUT on the power line. -/
def Dev.plcNoAck (d : Dev) : Dev :=
  let s := d.mac 1
  match s.ackWait with
  | none => d
  | some w =>
    let d := d.setMac 1 { s with ackWait := none }
    if w.frame.isNone then d
    else
      let d := d.iff (decide (d.maxRetry 1 < (d.laneTx 1 w.lane).tries + 1)) (·.bump PLC_ACK_FAIL)
      d.tryFailed 1 w.lane

/-- PLC_ACK_TX: in DBPSK on every unmasked group, 2,000 µs after the frame. -/
def Dev.plcAckTx (d : Dev) : Dev :=
  let s := d.mac 1
  match s.ackOwed with
  | none => d
  | some o =>
    let d := d.setMac 1 { s with ackOwed := none }
    if !d.macSends 1 then d else d.plcSend 1 d.plcUnmasked (d.ackPsdu 1 o.seq false)

/-! ## Reception (R202 to R204) -/

/-- What follows the security check of a frame. -/
def Dev.plcAccept (d : Dev) (x : Mpdu) (r : RxFrame) (res : Nat) (payload : Bytes) : Dev :=
  let d := match d.peerOf 1 x.src with
    | none => d
    | some n => if res = 3 then d else d.wr64 (LN_LAST_RX_LO n) r.t
  if x.typ = fTONEMAP then (if res = 1 then d.tonemapRx x.src payload else d)
  else d.deliver x r res payload (if res = 3 then d.laneOf 2 0 else d.rxLane 1 x.src)

/-- A frame's security check and what follows it. -/
def Dev.plcSecured (d : Dev) (x : Mpdu) (r : RxFrame) : Dev :=
  match d.openFrame 1 x with
  | (d, none) => d
  | (d, some (res, p)) => d.plcAccept x r res p

/-- Noise symbols are counted, and too many within one beacon period raise event 17 once (R211). -/
def Dev.plcNoise (d : Dev) (n : Nat) : Dev :=
  let total := d.plc.noise + n
  let fresh : Bool := decide (d.fld PLC_NOISE_CFG 23 8 < total) && !d.plc.burst
  let d : Dev := { d with plc := { d.plc with noise := total, burst := d.plc.burst || fresh } }
  (d.bump PLC_NOISE_SYM n).iff fresh (·.raise pPLC 1)

/-- The header of a frame fails (R202). -/
def Dev.plcHeadBad (d : Dev) (f : PlcRx) : Bool :=
  !f.hdrOk || decide (f.psdu.length < 9) || decide (1024 < f.psdu.length) ||
  (f.gmask.toNat &&& d.plcUnmasked) != f.gmask.toNat

/-- The mean SNR over the groups of a frame, in dB. -/
def Dev.meanSnr (d : Dev) (f : PlcRx) : Nat :=
  let gs := (d.groupsOf f.gmask.toNat).map (snrOf f.snr)
  enc 8 (gs.foldl (· + ·) 0 / max 1 (gs.length : Int))

/-- PLC_FRAME_RX (R202 to R204, R207, R210, R211). -/
def Dev.plcRx (d : Dev) (f : PlcRx) : Dev :=
  if !d.macHears 1 then d
  else
    let d := d.plcNoise f.noise
    let n := f.psdu.length
    let t := d.ext - f.ago - d.rd PLC_LAT_RX
    let body := f.psdu.take (n - 4)
    if d.ext - f.ago - 6 * 256 * d.plcSample < d.plc.bcnEnd ∧ d.plc.bcnStart < d.ext ∧ 0 < d.plc.bcnEnd then d.bump PLC_RX_ABORT
    else if d.plcHeadBad f then d.bump PLC_RX_HDR_ERR
    else if !f.rsOk then d.bump PLC_RX_RS_FAIL
    else if fcsBytes 4 body ≠ f.psdu.drop (n - 4) then d.bump PLC_RX_FCS_ERR
    else
      let d := d.bump PLC_RX_OK
      match parseMpdu body with
      | none => d
      | some x =>
        if x.typ = fBEACON ∨ (3 ≤ x.typ ∧ x.typ ≤ 5) ∨ x.typ = 7 ∨ x.ver ≠ 1 ∨ x.net ≠ d.gov PLC_NET % 65536 then d
        else if x.typ = fACK then
          match (d.mac 1).ackWait with
          | some w => if w.seq = x.seq then d.plcAcked w else d
          | none => d
        else if x.dst.any fun a => a != d.eui then d
        else
          let peer := d.peerOf 1 x.src
          let (d, ph) := d.classify peer t f.zco.toNat
          let snr := d.meanSnr f
          let d := match peer with
            | none => d
            | some k => d.measure k f.gmask.toNat (plcSymbols f.modu.val f.gmask.toNat n) f.snr
          let r : RxFrame := { mpdu := body, t := t, tUnc := d.stampUnc (d.rd PLC_LAT_UNC + d.plcSample),
                               info := leBytes 1 snr ++ leBytes 1 f.modu.val ++ leBytes 1 ph, cls := d.cls.code }
          let owed : AckOwed := { src := x.src, seq := x.seq, contact := false, connect := none, tick := d.time.ticks }
          let s := d.mac 1
          let d := (d.iff x.ar (·.setMac 1 { s with ackOwed := some owed })).dstContact 1 x.src
          if d.keyMissing 1 x then d.awaitKey 1 r else d.plcSecured x r

/-- The oldest PLC frame that waits for its key goes on (R192, R264). -/
def Dev.plcKeyReady (d : Dev) : Dev :=
  let s := d.mac 1
  match s.waitKey with
  | [] => d
  | r :: rest =>
    let d := d.setMac 1 { s with waitKey := rest }
    match parseMpdu r.mpdu with | none => d | some x => d.plcSecured x r

/-! ## CSMA on the power line (R206) -/

/-- PLC_CSMA_SEND. -/
def Dev.plcCsmaSend (d : Dev) (n : Nat) : Dev := d.csmaStart 1 n

/-- The backoff of a PLC frame ends: it starts only if it ends 5 ms before the next nominal beacon instant. -/
def Dev.plcBackoffEnd (d : Dev) (busy : Bool) : Dev :=
  match (d.mac 1).access with
  | none => d
  | some a =>
    let data := ((d.txFront? a.lane).map (·.data)).getD []
    let (modu, g) := d.plcMap a.lane (d.txTo a.lane data) ((txFlags data).testBit 2)
    let need := fun (n : Nat) => d.plcSymbol + d.plcAir modu g n + 5000000
    let len := (d.laneTx 1 a.lane).mpdu.length
    d.csmaEnd 1 (fun n => decide (d.ext + need n ≤ d.plcNominal d.plcBcnNow)) (decide (d.plcPeriod < need len)) none busy

/-! ## Zero crossings (R208) -/

/-- The mean of the last 16 accepted intervals, in ns. -/
def zcMean (edges : List Nat) : Nat :=
  let l := edges.take 17
  match l.getLast? with
  | none => 0
  | some o => (l.headD 0 - o) / max 1 (l.length - 1)

/-- An edge is accepted. -/
def Dev.zcTake (d : Dev) (t : Nat) : Dev :=
  let es := (t :: d.plc.zcEdges).take 17
  let d : Dev := { d with plc := { d.plc with zcEdges := es, zcTick := d.time.ticks } }
  (d.wrFld PLC_ZC_STAT 21 0 (zcMean es / 10)).wr64 PLC_ZC_LAST_LO t

/-- ZC_OK changes. -/
def Dev.setZcOk (d : Dev) (ok : Bool) : Dev :=
  ({ d with plc := { d.plc with zcOk := ok, zcRun := 0 } } : Dev).wrFld PLC_ZC_STAT 31 31 (b2n ok)

/-- ZC_EDGE: an edge at the lowest-numbered capture channel whose source is ZC_IN. -/
def Dev.zcEdge (d : Dev) : Dev :=
  if !d.runs pPLC || !d.en pTIM || !((List.range 8).any fun n => d.capOn n 2) then d
  else
    let t := d.ext
    let prev := d.plc.zcPrev
    let d : Dev := { d with plc := { d.plc with zcPrev := some t } }
    if d.plc.zcOk then
      let last := d.plc.zcEdges.headD 0
      let mean := 10 * d.fld PLC_ZC_STAT 21 0
      if 9 * mean ≤ 10 * (t - last) ∧ 10 * (t - last) ≤ 11 * mean ∧ last ≤ t then d.zcTake t
      else d.bump PLC_ZC_GLITCH
    else match prev with
      | none => d
      | some p =>
        if p + 15000000 ≤ t ∧ t ≤ p + 24000000 then
          let run := d.plc.zcRun + 1
          let d := d.iff d.plc.zcEdges.isEmpty fun d => { d with plc := { d.plc with zcEdges := [p] } }
          let d := ({ d with plc := { d.plc with zcRun := run } } : Dev).zcTake t
          d.iff (decide (8 ≤ run)) (·.setZcOk true)
        else { d with plc := { d.plc with zcRun := 0, zcEdges := [] } }

/-- PLC_ZC_LOSS: no edge accepted for LOSS_MS. -/
def Dev.zcLoss (d : Dev) : Dev :=
  if !d.runs pPLC || !d.plc.zcOk || !d.past d.plc.zcTick (msTicks (d.fld PLC_ZC_CFG 7 0)) then d
  else
    let d := (d.setZcOk false).raise pPLC 2
    { d with plc := { d.plc with zcPrev := none, zcEdges := [] } }

/-! ## The page (R214) -/

def plcRead (d : Dev) (off : Nat) : Option Nat :=
  match off with
  | 0x18C => some ((d.plcBcnNow - 1) % 2 ^ 32)
  | 0x190 => some (d.plcNominal d.plcBcnNow % 2 ^ 32)
  | 0x194 => some (d.plcNominal d.plcBcnNow / 2 ^ 32)
  | _ => none

/-- The block bits of PLC PG_STAT. -/
def plcPgStat (d : Dev) : Nat :=
  4 * b2n (d.txOn 1) + 8 * b2n (d.rxOn 1) + 16 * b2n d.plc.zcOk + 32 * b2n d.zcAligned

def plcBusy (d : Dev) : Bool := d.txOn 1 || (d.mac 1).ackWait.isSome || (d.mac 1).ackOwed.isSome

/-- What a fire does: a new origin keeps the grid (R205), a new superframe origin likewise (R181). -/
def plcFired (d : Dev) (changed : List Nat) : Dev :=
  d.iff (changed.contains PLC_BCN_ORIGIN_LO || changed.contains PLC_BCN_ORIGIN_HI) (·.plcBegin)
def rmcFired (d : Dev) (changed : List Nat) : Dev :=
  let o := d.rd64 RMC_SF_ORIGIN_LO
  d.iff (changed.contains RMC_SF_ORIGIN_LO || changed.contains RMC_SF_ORIGIN_HI) fun d =>
    { d with rad := { d.rad with sfDone := if d.ext ≤ o then 0 else ceilDiv (d.ext - o) sfNs } }

/-- A soft reset. -/
def plcReset (d : Dev) : Dev := { d with plc := {} }

end Sys2Proof.Machine
end

