-- ==== Sys2Proof/Machine/NetOps.lean ====
section
/-!
DEFINITION. Ethernet, IPv4, IPv6, UDP and TCP as the trunk and the uplink read and complete them (R223, R226, R246). The layouts
are those of the standards that the manual names (PRESUMED).
-/
namespace Sys2Proof.Machine

/-- The sum of the 16-bit words of a byte string, an odd byte padded with zero. -/
def wordSum : Bytes → Nat
  | [] => 0
  | [a] => 256 * a.toNat
  | a :: b :: t => 256 * a.toNat + b.toNat + wordSum t

/-- A sum folded to 16 bits by end-around carry. -/
def fold16 (n : Nat) : Nat := if n = 0 then 0 else (n - 1) % 65535 + 1

/-- The Internet checksum of a sum: its one's complement. -/
def csumOf (sum : Nat) : Nat := 65535 - fold16 sum

/-- The bytes of a string with n bytes at an offset replaced. -/
def setBytes (bs : Bytes) (o : Nat) (v : Bytes) : Bytes := bs.take o ++ v ++ bs.drop (o + v.length)

/-- The pseudo-header sum of IPv6 and of IPv4. -/
def pseudo6 (ip : Bytes) (len proto : Nat) : Nat := wordSum (slice ip 8 32) + len + proto
def pseudo4 (ip : Bytes) (len proto : Nat) : Nat := wordSum (slice ip 12 8) + len + proto

/-- An IPv6 packet that carries UDP without extension headers, whole. -/
def isUdp6 (p : Bytes) : Bool :=
  decide (48 ≤ p.length) && beAt p 0 1 / 16 == 6 && beAt p 6 1 == 17 && beAt p 4 2 + 40 == p.length &&
  beAt p 44 2 == beAt p 4 2

/-- The UDP checksum of an IPv6 packet as it should be, never 0. -/
def udp6Csum (p : Bytes) : Nat :=
  let u := setBytes (p.drop 40) 6 (zeroBytes 2)
  let c := csumOf (pseudo6 p u.length 17 + wordSum u)
  if c = 0 then 0xFFFF else c

/-- The upper-layer part of an IP packet: its protocol, its bytes with its offset, and its pseudo-header sum. None for a
fragment, an extension header or a protocol other than UDP and TCP. -/
structure L4 where
  proto : Nat
  off : Nat
  len : Nat
  pseudo : Nat

/-- The upper-layer part of an IP packet. -/
def l4Of (p : Bytes) : Option L4 :=
  let v := beAt p 0 1 / 16
  let ok := fun (x : L4) =>
    if (x.proto = 17 ∧ 8 ≤ x.len ∨ x.proto = 6 ∧ 20 ≤ x.len) ∧ x.off + x.len ≤ p.length then some x else none
  if v = 4 then
    let ihl := 4 * (beAt p 0 1 % 16)
    let len := beAt p 2 2 - ihl
    if ihl < 20 ∨ beAt p 6 2 % 16384 ≠ 0 then none
    else ok { proto := beAt p 9 1, off := ihl, len := len, pseudo := pseudo4 p len (beAt p 9 1) }
  else if v = 6 then
    let len := beAt p 4 2
    ok { proto := beAt p 6 1, off := 40, len := len, pseudo := pseudo6 p len (beAt p 6 1) }
  else none

/-- Offset of the checksum field in the upper-layer part. -/
def L4.field (x : L4) : Nat := if x.proto = 17 then 6 else 16

/-- The checksum of the upper-layer part as it should be: a UDP result of 0 is sent as 0xFFFF. -/
def L4.csum (x : L4) (p : Bytes) : Nat :=
  let c := csumOf (x.pseudo + wordSum (setBytes (slice p x.off x.len) x.field (zeroBytes 2)))
  if x.proto = 17 ∧ c = 0 then 0xFFFF else c

/-- The IPv4 header checksum as it should be. -/
def ip4Csum (p : Bytes) : Nat := csumOf (wordSum (setBytes (p.take (4 * (beAt p 0 1 % 16))) 10 (zeroBytes 2)))

/-- The Ethernet header: whether a tag stands, the EtherType behind it, and the offset of what follows. -/
def ethTagged (f : Bytes) : Bool := beAt f 12 2 == 0x8100
def ethType (f : Bytes) : Nat := if ethTagged f then beAt f 16 2 else beAt f 12 2
def ethOff (f : Bytes) : Nat := if ethTagged f then 18 else 14

/-- The IP packet of an Ethernet frame; none for another EtherType. -/
def ethIp (f : Bytes) : Option Bytes :=
  let p := f.drop (ethOff f)
  if (ethType f = 0x0800 ∧ beAt p 0 1 / 16 = 4) ∨ (ethType f = 0x86DD ∧ beAt p 0 1 / 16 = 6) then some p else none

end Sys2Proof.Machine
end

