-- ==== Sys2Proof/Machine/TrkOps.lean ====
section
/-!
DEFINITION. The Juern ring (R216 to R224, R246): ports and wrap, frames, token, generations, joins and datagrams. Port 0 is the
east port TRK0, port 1 the west port TRK1.
-/
namespace Sys2Proof.Machine

/-! ## Ports (R222) -/

def Dev.rport (d : Dev) (p : Nat) : RingPort := if p = 0 then d.trk.p0 else d.trk.p1
def Dev.setRport (d : Dev) (p : Nat) (x : RingPort) : Dev :=
  if p = 0 then { d with trk := { d.trk with p0 := x } } else { d with trk := { d.trk with p1 := x } }

/-- TRK runs, and its port p does. -/
def Dev.trkOn (d : Dev) : Bool := d.runs pTRK0
def Dev.portOn (d : Dev) (p : Nat) : Bool := d.trkOn && d.runs (pTRK0 + p)

/-- A port that carries ring traffic. -/
def Dev.portUp (d : Dev) (p : Nat) : Bool := d.portOn p && (d.rport p).sync && !(d.rport p).down

/-- The station is wrapped. -/
def Dev.wrapped (d : Dev) : Bool := d.trk.p0.down || d.trk.p1.down

/-- HELLO_MS and HELLO_TO in ticks, and TRK_UNWRAP_HOLD. -/
def Dev.helloMs (d : Dev) : Nat := msTicks (d.fld TRK_HELLO 7 0)
def Dev.helloTo (d : Dev) : Nat := msTicks (d.fld TRK_HELLO 15 8)

/-- HELLOs arrive on port p in time. -/
def Dev.helloOk (d : Dev) (p : Nat) : Bool :=
  match (d.rport p).helloTick with | none => false | some t => !d.past t d.helloTo

/-- Port p goes down: the station wraps, event 21. A port already down restarts its hold. -/
def Dev.portDown (d : Dev) (p : Nat) : Dev :=
  let x := d.rport p
  let d := d.setRport p { x with down := true, clean := none, ready := false }
  if x.down then d else (d.bump (TRK_LINK_DOWN p)).raise pTRK0 1

/-- A down port with synchronisation and HELLO runs clean from now. -/
def Dev.portClean (d : Dev) (p : Nat) : Dev :=
  let x := d.rport p
  if x.down ∧ x.sync ∧ d.helloOk p ∧ x.clean.isNone then d.setRport p { x with clean := some d.time.ticks } else d

/-- A wrapped station whose down port and the neighbour's port both report READY (R222). -/
def Dev.unwrapReady (d : Dev) : Bool :=
  (d.trk.p0.down && d.trk.p0.ready && d.trk.p0.peerReady) || (d.trk.p1.down && d.trk.p1.ready && d.trk.p1.peerReady)

/-- Each ready port unwraps, event 21 (R222). -/
def Dev.unwrap (d : Dev) : Dev :=
  d.each [0, 1] fun d p =>
    let x := d.rport p
    if x.down && x.ready && x.peerReady then
      let d := d.setRport p { x with down := false, ready := false, clean := none }
      ({ d with trk := { d.trk with unwrapReq := false } } : Dev).raise pTRK0 1
    else d

/-- PCS_SYNC_LOSS, PCS_SYNC_ACQUIRE. -/
def Dev.syncLoss (d : Dev) (p : Nat) : Dev :=
  if !d.portOn p || !(d.rport p).sync then d else (d.setRport p { d.rport p with sync := false }).portDown p
def Dev.syncAcquire (d : Dev) (p : Nat) : Dev :=
  if !d.portOn p then d else (d.setRport p { d.rport p with sync := true }).portClean p

/-- HELLO received on port p: the neighbour's READY. -/
def Dev.helloRx (d : Dev) (p : Nat) (ready : Bool) : Dev :=
  if !d.portOn p then d
  else (d.setRport p { d.rport p with helloTick := some d.time.ticks, peerReady := ready }).portClean p

/-- HELLO_TIMEOUT: none for HELLO_TO. -/
def Dev.helloTimeout (d : Dev) (p : Nat) : Dev := if !d.portOn p || d.helloOk p then d else d.portDown p

/-- UNWRAP_HOLD_END: a down port has run clean for TRK_UNWRAP_HOLD. -/
def Dev.holdEnd (d : Dev) (p : Nat) : Dev :=
  let x := d.rport p
  match x.clean with
  | none => d
  | some t => if d.portOn p ∧ x.down ∧ d.past t (msTicks (d.rd TRK_UNWRAP_HOLD)) then d.setRport p { x with ready := true } else d

/-! ## Frames (R217, R218) -/

abbrev ftTOKEN : Nat := 0
abbrev ftDATA : Nat := 1
abbrev ftCLAIM : Nat := 2
abbrev ftHELLO : Nat := 3
abbrev ftADMIT : Nat := 4

/-- The own station number. -/
def Dev.stn (d : Dev) : Nat := d.fld TRK_STN 9 0

/-- A ring frame by its fields, with padding and FCS. -/
def ringFrame (typ flags dst src gen hops : Nat) (payload : Bytes) : Bytes :=
  let b := leBytes 1 typ ++ leBytes 1 flags ++ leBytes 2 dst ++ leBytes 2 src ++ leBytes 2 gen ++ leBytes 2 hops ++
    leBytes 2 payload.length ++ zeroBytes 4 ++ payload
  let b := b ++ zeroBytes (60 - b.length)
  b ++ leBytes 4 (crc32 b)

/-- A frame with HOPS and SECONDARY as a station sends it on, its FCS recomputed. -/
def reframe (f : Bytes) (hops : Nat) (secondary : Bool) : Bytes :=
  let b := setBytes (f.take (f.length - 4)) 8 (leBytes 2 hops)
  let b := setBytes b 1 (leBytes 1 (setBit (leAt b 1 1) 1 secondary))
  b ++ leBytes 4 (crc32 b)

/-- Send a frame by port p. -/
def Dev.portSend (d : Dev) (p : Nat) (f : Bytes) : Dev :=
  (d.bump (TRK_TX_COUNT p)).send (if p = 0 then .trk0 else .trk1) f

/-- The port by which primary processing sends: east, or west when the east port is down. -/
def Dev.primaryPort (d : Dev) : Nat := if d.trk.p0.down then 1 else 0

/-- A station's own frame goes out in the primary direction. -/
def Dev.ringSend (d : Dev) (typ flags dst : Nat) (payload : Bytes) : Dev :=
  let p := d.primaryPort
  d.portSend p (ringFrame typ (flags + 2 * p) dst d.stn d.trk.gen 0 payload)

/-- What a frame that arrives on port p is to this station: none on a down port, true on its primary visit (R219). -/
def Dev.primaryVisit (d : Dev) (p : Nat) : Option Bool :=
  if (d.rport p).down then none else if p = 1 then some true else some d.trk.p1.down

/-- Forward a frame: HOPS + 1, off the ring at 2,048 (R218). -/
def Dev.forwardFrame (d : Dev) (p : Nat) (primary : Bool) (f : Bytes) : Dev :=
  let hops := leAt f 8 2 + 1
  if 2048 ≤ hops then d.bump (TRK_HOP_DROP p)
  else
    let out := if primary then d.primaryPort else 1
    d.portSend out (reframe f hops (out == 1))

/-- A generation is newer than the station's own (R220). -/
def Dev.newer (d : Dev) (g : Nat) : Bool := decide (0 < sext 16 ((g + 65536 - d.trk.gen) % 65536))

/-- Ring master (R216). -/
def Dev.isMaster (d : Dev) : Bool :=
  d.trk.master && (d.gov TRK_CFG).testBit 0 && (d.red.state == .solo || d.red.state == .active)

/-! ## Token, generations and joins (R219 to R221) -/

/-- The bytes of a TOKEN's and a CLAIM's payload. -/
def tokenBytes (rot : Nat) (unwrap : Bool) (join : Nat) : Bytes := leBytes 4 rot ++ leBytes 1 (b2n unwrap) ++ leBytes 2 join
def claimBytes (unwrap : Bool) (ms : List Nat) : Bytes :=
  leBytes 4 (b2n unwrap) ++ leBytes 128 (ms.foldl (fun s n => s ||| 2 ^ n) 0)

/-- A number added to a rising list without repeats. -/
def addStation (n : Nat) (l : List Nat) : List Nat := if l.contains n then l else insertNat n l

/-- The admitted set as the last CLAIM gave it. -/
def Dev.setMembers (d : Dev) (ms : List Nat) : Dev :=
  let d : Dev := { d with trk := { d.trk with members := ms } }
  let d := d.wr TRK_MEMBERS ms.length
  d.each (List.range 32) fun d i => d.wr (TRK_MEMBER_MAP i) ((ms.filter fun s => s / 32 == i).foldl (fun v s => v + 2 ^ (s % 32)) 0)

/-- The master sends a CLAIM under the next generation (R220). -/
def Dev.sendClaim (d : Dev) (unwrap : Bool) : Dev :=
  let d : Dev := { d with trk := { d.trk with
    gen := (d.trk.gen + 1) % 65536, admitted := true, claimOut := some d.time.ticks, tokenOut := none } }
  let d := (d.bump TRK_CLAIMS).ringSend ftCLAIM 1 0 (claimBytes unwrap [d.stn])
  d.iff unwrap (·.unwrap)

/-- The master sends a TOKEN, and its timer restarts (R220). -/
def Dev.sendToken (d : Dev) (unwrap : Bool) : Dev :=
  let d : Dev := { d with trk := { d.trk with tokenOut := some d.time.ticks, masterStn := d.stn } }
  d.ringSend ftTOKEN 1 0 (tokenBytes d.trk.rot unwrap 0xFFFF)

/-! ### Datagrams (R223) -/

/-- Where a datagram goes on the ring: a station, or all (true); none for any other destination. -/
def Dev.ringDst (d : Dev) (b : Bytes) : Option (Nat × Bool) :=
  let dst := slice b 24 16
  let iid := beAt b 32 8
  if beAt b 0 1 / 16 ≠ 6 ∨ b.length < 40 then none
  else if beAt b 24 1 = 0xFF then some (0, true)
  else if dst.take 8 ≠ leBytes 8 (d.gov64 TRK_PREFIX_LO) then none
  else if iid < 0x400 then some (iid, false)
  else if iid = masterIid then some (d.trk.masterStn, false)
  else none

/-- A UDP checksum of 0 is computed and inserted. -/
def udpFill (b : Bytes) : Bytes := if isUdp6 b && beAt b 46 2 == 0 then setBytes b 46 (beBytes 2 (udp6Csum b)) else b

/-- The enabled trunk lanes with a frame to send, ascending. -/
def Dev.trunkWaiting (d : Dev) : List Nat :=
  (d.lanesBy fun w => bitsOf w 3 0 == 3 && w.testBit 8).filter fun n => (d.txFront? n).isSome

/-- Send the head datagram of lane n; its air time in ns beside the device. -/
def Dev.ringDatagram (d : Dev) (n : Nat) : Dev × Nat :=
  match d.txFront? n with
  | none => (d, 0)
  | some f =>
    match d.ringDst f.data with
    | none => ((((d.popFront (2 * n)).bump TRK_TX_BAD_DST).bump (LN_TX_FAIL n)), 0)
    | some (dst, all) =>
      let b := udpFill f.data
      let p := d.primaryPort
      let stamp : Bool := d.bit TIM_TS_CFG 1 && isUdp6 b && udpPort b == 319
      let d := d.iff stamp (·.txStamp (d.ext + d.rd (TRK_LAT_TX p)) (1 + p) (beAt b 48 1 % 16) (beAt b 78 2))
      let d := (d.ringSend ftDATA (b2n all) dst b).popFront (2 * n)
      (d.bump (LN_TX_OK n), 8 * (max 64 (20 + b.length) + 20))

/-- The station sends waiting datagrams until TRK_THT has passed; a frame started always completes (R219). -/
def holdToken : Nat → Nat → Dev → Dev
  | 0, _, d => d
  | fuel + 1, left, d =>
    match d.trunkWaiting with
    | [] => d
    | n :: _ => if left = 0 then d else let (d, ns) := d.ringDatagram n; holdToken fuel (left - ns) d

/-- The station holds the token, unless it drains or a power fail is active (R44, R307). -/
def Dev.hold (d : Dev) : Dev :=
  if d.drains pTRK0 || !d.linkStarts pTRK0 then d else holdToken 65536 (1000 * d.gov TRK_THT) d

/-- The station may ask to join: not within 10 s of a refusal (R221). -/
def Dev.mayAsk (d : Dev) : Bool := match d.trk.refused with | none => true | some t => d.past t 2500000000

/-- A frame from another master-capable station (R220): true: it goes on, the station has yielded. -/
def Dev.conflict (d : Dev) (src : Nat) : Dev × Bool :=
  let d := d.bump TRK_MASTER_CONFLICT
  if src < d.stn then
    ({ d with trk := { d.trk with master := false, mayMaster := false, tokenOut := none, claimOut := none } }, true)
  else (d, false)

/-- The bytes of a token as a frame. -/
def tokenFrame (t : RingToken) (join : Nat) (unwrap : Bool) : Bytes :=
  ringFrame ftTOKEN (1 + 2 * b2n t.secondary) 0 t.src.val t.gen.toNat t.hops.val (tokenBytes t.rot.toNat unwrap join)

/-- RED sees the source of a TOKEN or a CLAIM (R290). -/
def Dev.noteRing (d : Dev) (p src : Nat) : Dev :=
  if d.portOn p && src == d.fld RED_PARTNER_STN 9 0 then { d with red := { d.red with ringSeen := some d.time.ticks } } else d

/-- on_token (R219): on its primary visit a station that is not admitted asks to join; an admitted one sends. -/
def Dev.tokenRx (d : Dev) (p : Nat) (t : RingToken) : Dev :=
  match d.primaryVisit p with
  | none => d
  | some primary =>
    let d := d.noteRing p t.src.val
    let join := t.join.toNat
    if !d.portOn p then d
    else if t.gen.toNat ≠ d.trk.gen then d.bump (TRK_RX_GEN_DROP p)
    else if !primary then d.forwardFrame p false (tokenFrame t join t.unwrap)
    else if t.src.val = d.stn then d
    else
      let (d, on) := if d.isMaster then d.conflict t.src.val else (d, true)
      if !on then d
      else
        let d : Dev := { d with trk := { d.trk with masterStn := t.src.val } }
        if !d.trk.admitted then
          let ask : Bool := join == 0xFFFF && d.mayAsk
          d.forwardFrame p true (tokenFrame t (if ask then d.stn else join) t.unwrap)
        else
          let ready := d.unwrapReady
          let d : Dev := { d with trk := { d.trk with unwrapReq := ready } }
          (d.hold).forwardFrame p true (tokenFrame t join (t.unwrap || ready))

/-- TOKEN_RETURN: the master's own token comes back (R220): ROT + 1, joins, UNWRAP_REQ, then it holds as any station does. -/
def Dev.tokenReturn (d : Dev) (p : Nat) (t : RingToken) : Dev :=
  if d.primaryVisit p ≠ some true ∨ ¬d.portOn p ∨ t.src.val ≠ d.stn ∨ ¬d.isMaster ∨ d.trk.tokenOut.isNone then d
  else if t.gen.toNat ≠ d.trk.gen then d.bump (TRK_RX_GEN_DROP p)
  else
    let out := d.trk.tokenOut.getD 0
    let d := d.wr TRK_ROT ((d.time.ticks - out) / 250)
    let d : Dev := { d with trk := { d.trk with rot := (t.rot.toNat + 1) % 2 ^ 32, tokenOut := none } }
    let join := t.join.toNat
    let d :=
      if 1024 ≤ join then d
      else
        let res := if d.trk.members.contains join then 2
          else if d.fld TRK_MAX_STN 10 0 ≤ d.trk.members.length then 1 else 0
        let d := d.ringSend ftADMIT 0 join (leBytes 1 res)
        if res = 0 then { d with trk := { d.trk with members := addStation join d.trk.members } } else d.bump TRK_JOIN_REFUSED
    if t.unwrap then d.sendClaim true
    else
      let ready := d.unwrapReady
      let d : Dev := { d with trk := { d.trk with unwrapReq := ready } }
      d.hold.sendToken ready

/-- TOKEN_TIMEOUT (R220). -/
def Dev.tokenTimeout (d : Dev) : Dev :=
  match d.trk.tokenOut with
  | none => d
  | some t =>
    if !d.trkOn || !d.isMaster || !d.past t (usTicks (d.rd TRK_TOKEN_TO)) then d
    else ((d.raise pTRK0 0).bump TRK_TOKEN_LOST).sendClaim false

/-- CLAIM_RETURN: the master's CLAIM gives the admitted set, and a new TOKEN goes out (R220). -/
def Dev.claimReturn (d : Dev) (p : Nat) (c : RingClaim) : Dev :=
  if d.primaryVisit p ≠ some true ∨ ¬d.portOn p ∨ c.src.val ≠ d.stn ∨ ¬d.isMaster ∨ d.trk.claimOut.isNone then d
  else if c.gen.toNat ≠ d.trk.gen then d.bump (TRK_RX_GEN_DROP p)
  else
    let ms := (c.members.map (·.val)).foldl (fun l n => addStation n l) []
    let d := ({ d with trk := { d.trk with claimOut := none } } : Dev).setMembers ms
    d.sendToken d.unwrapReady

/-- CLAIM_RETURN_TIMEOUT (R220). -/
def Dev.claimTimeout (d : Dev) : Dev :=
  match d.trk.claimOut with
  | none => d
  | some t => if !d.trkOn || !d.isMaster || !d.past t (usTicks (d.rd TRK_TOKEN_TO)) then d else d.sendClaim false

/-- The bytes of a claim as a frame. -/
def claimFrame (c : RingClaim) (ms : List Nat) : Bytes :=
  ringFrame ftCLAIM (1 + 2 * b2n c.secondary) 0 c.src.val c.gen.toNat c.hops.val (claimBytes c.unwrap ms)

/-- CLAIM_RX: a CLAIM of newer generation is adopted (R220, R222). A port that was down takes it when it unwraps. -/
def Dev.claimRx (d : Dev) (p : Nat) (c : RingClaim) : Dev :=
  let d := d.noteRing p c.src.val
  let ms := c.members.map (·.val)
  let opens : Bool := c.unwrap && (d.rport p).down && (d.rport p).ready && (d.rport p).peerReady
  let newer := d.newer c.gen.toNat
  if !d.portOn p || ((d.rport p).down && !opens) then d
  else if c.gen.toNat ≠ d.trk.gen ∧ ¬newer then d.bump (TRK_RX_GEN_DROP p)
  else
    let primary : Bool := p == 1 || d.trk.p1.down
    if c.src.val = d.stn ∧ primary then d
    else
      let (d, on) := if d.isMaster && c.src.val != d.stn then d.conflict c.src.val else (d, true)
      if !on then d
      else
        let d := if newer then
            let d : Dev := { d with trk := { d.trk with gen := c.gen.toNat } }
            d.iff (!c.unwrap) (·.raise pTRK0 0)
          else d
        let d := d.iff c.unwrap (·.unwrap)
        let ms := if d.trk.admitted then addStation d.stn ms else ms
        let d := d.setMembers ms
        d.forwardFrame p primary (claimFrame c ms)

/-- BECOME_MASTER: by enable, keystone or takeover: GEN + 1 and a CLAIM at once (R220). -/
def Dev.becomeMaster (d : Dev) : Dev :=
  if !d.trkOn || !(d.gov TRK_CFG).testBit 0 || !(d.red.state == .solo || d.red.state == .active) || !d.trk.mayMaster || d.trk.master then d
  else ({ d with trk := { d.trk with master := true, mayMaster := false, masterStn := d.stn } } : Dev).sendClaim false

/-- ADMIT: the answer to the station's own request (R221). -/
def Dev.admitted (d : Dev) (p res : Nat) : Dev :=
  if !d.portOn p || d.primaryVisit p != some true || d.trk.admitted then d
  else { d with trk := { d.trk with
    admitted := res == 0, join := res + 1, refused := if res = 0 then none else some d.time.ticks } }

/-- JOIN_RETRY: 10 s after a refusal the station may ask again. -/
def Dev.joinRetry (d : Dev) : Dev :=
  if d.trkOn && d.mayAsk then { d with trk := { d.trk with refused := none } } else d

/-- HELLO_TX on port p: STN, READY and ADMITTED (R217, R222). -/
def Dev.helloTx (d : Dev) (p : Nat) : Dev :=
  let x := d.rport p
  if !d.portOn p || !d.past x.helloSent d.helloMs then d
  else
    let body := leBytes 2 d.stn ++ leBytes 1 (b2n x.ready + 2 * b2n d.trk.admitted)
    (d.setRport p { x with helloSent := d.time.ticks }).portSend p (ringFrame ftHELLO (2 * p) 0 d.stn d.trk.gen 0 body)

/-! ## Reception of frames (R218, R223, R246) -/

/-- The lane for a datagram by its UDP destination port. -/
def Dev.trunkLane (d : Dev) (port : Nat) : Option Nat :=
  let bp := d.fld TRK_BATCH_PORT 15 0
  let batch := if port = bp ∨ port = bp + 1 then d.batchLane else none
  let steered := (d.lanesBy fun w => bitsOf w 3 0 == 3 && bitsOf w 7 4 == 1 && w.testBit 8).find? fun n =>
    d.fld (LN_UDP_PORT n) 15 0 == port
  (batch.or steered).or (d.laneOf 3 0)

/-- A copied datagram goes to the quarry, or is dropped and counted (R223). -/
def Dev.copyDatagram (d : Dev) (p : Nat) (b : Bytes) (t : Nat) : Dev :=
  if !isUdp6 b then d.bump TRK_RX_NOT_UDP
  else if beAt b 46 2 ≠ udp6Csum b then d.bump TRK_RX_CSUM_BAD
  else match d.trunkLane (udpPort b) with
    | none => d
    | some n =>
      let (d, ok) := d.pushFrame (2 * n + 1) 0 b t (d.stampUnc 8)
      d.iff ok fun d => (d.bump (LN_RX_OK n)).bump (TRK_RX_OK p)

/-- The transparent clock (R246): the residence time of a Sync or Delay_Req in ns goes into correctionField, and the UDP checksum
follows incrementally. -/
def Dev.transparent (d : Dev) (f : Bytes) (ns : Nat) : Bytes :=
  let b := slice f 16 (leAt f 10 2)
  let typ := beAt b 48 1 % 16
  if !d.bit TIM_TS_CFG 0 || !isUdp6 b || udpPort b != 319 || !(typ == 0 || typ == 1) || beAt b 49 1 % 16 != 2
      || decide (b.length < 64) then f
  else
    let old := slice b 56 8
    let new := beBytes 8 ((beNat old + ns * 65536) % 2 ^ 64)
    let sum := (65535 - beAt b 46 2) + (4 * 65535 - wordSum old) + wordSum new
    let c := csumOf sum
    let b := setBytes (setBytes b 56 new) 46 (beBytes 2 (if c = 0 then 0xFFFF else c))
    setBytes f 16 b

/-- A DATA or other frame whose check has passed (R218). -/
def Dev.ringData (d : Dev) (p : Nat) (primary : Bool) (f : Bytes) (t ns : Nat) : Dev :=
  let typ := leAt f 0 1
  let all := (leAt f 1 1).testBit 0
  let dst := leAt f 2 2 % 1024
  let src := leAt f 4 2 % 1024
  if leAt f 6 2 ≠ d.trk.gen then d.bump (TRK_RX_GEN_DROP p)
  else if !primary then d.forwardFrame p false (d.transparent f ns)
  else if src = d.stn then d.iff (typ == ftDATA && !all) (·.bump TRK_TX_UNDELIV)
  else if typ = ftDATA ∧ ¬all ∧ dst = d.stn then
    d.iff d.trk.admitted (·.copyDatagram p (slice f 16 (leAt f 10 2)) t)
  else
    let d := d.iff (typ == ftDATA && all && d.trk.admitted) (·.copyDatagram p (slice f 16 (leAt f 10 2)) t)
    d.forwardFrame p true (d.transparent f ns)

/-- The stations of a CLAIM's MEMBERS field. -/
def membersOfMap (m : Nat) : List (Fin 1024) := (List.finRange 1024).filter fun i => m.testBit i.val

/-- TRK_FRAME_RX: a frame on port p, from FTYPE to FCS; code: it ends with a PCS error code; ago and ns: since its SFD, and its
residence time (R217, R218). A bad frame is forwarded as it came and closed with an error. -/
def Dev.trkRx (d : Dev) (p : Nat) (f : Bytes) (code : Bool) (ago ns : Nat) : Dev :=
  let n := f.length
  let len := leAt f 10 2
  let typ := leAt f 0 1
  if !d.portOn p then d
  else
    let bad := fun (d : Dev) => match d.primaryVisit p with
      | none => d
      | some pr => d.portSend (if pr then d.primaryPort else 1) f
    if n < 64 then bad (d.bump (TRK_RX_RUNT p))
    else if 2068 < n then bad (d.bump (TRK_RX_LONG p))
    else if code || leAt f (n - 4) 4 != crc32 (f.take (n - 4)) then bad (d.bump (TRK_RX_FCS_ERR p))
    else if n ≠ max 64 (20 + len) then bad (d.bump (TRK_RX_LONG p))
    else
      let sec := (leAt f 1 1).testBit 1
      let src : Fin 1024 := Fin.ofNat 1024 (leAt f 4 2)
      let gen := BitVec.ofNat 16 (leAt f 6 2)
      let hops : Fin 2048 := Fin.ofNat 2048 (leAt f 8 2)
      if typ = ftHELLO then d.helloRx p ((leAt f 18 1).testBit 0)
      else if typ = ftTOKEN then
        let t : RingToken := { secondary := sec, src := src, gen := gen, hops := hops, rot := BitVec.ofNat 32 (leAt f 16 4),
                               unwrap := (leAt f 20 1).testBit 0, join := BitVec.ofNat 16 (leAt f 21 2) }
        if src.val = d.stn ∧ d.primaryVisit p = some true then d.tokenReturn p t else d.tokenRx p t
      else if typ = ftCLAIM then
        let c : RingClaim := { secondary := sec, src := src, gen := gen, hops := hops, unwrap := (leAt f 16 1).testBit 0,
                               members := membersOfMap (leAt f 20 128) }
        if src.val = d.stn ∧ d.primaryVisit p = some true then d.claimReturn p c else d.claimRx p c
      else
        let t := d.ext - ago - d.rd (TRK_LAT_RX p)
        match d.primaryVisit p with
        | none => d
        | some pr =>
          if typ = ftADMIT ∧ pr ∧ leAt f 2 2 % 1024 = d.stn ∧ leAt f 6 2 = d.trk.gen then d.admitted p (leAt f 16 1)
          else d.ringData p pr f t ns

/-! ## The pages (R233) -/

/-- The computed registers of the TRK pages. -/
def trkRead (d : Dev) (p off : Nat) : Option Nat :=
  if p ≠ 0 then none
  else match off with
    | 0x180 => some (b2n d.trk.admitted + 2 * b2n d.isMaster + 4 * b2n d.wrapped + 8 * b2n d.trk.unwrapReq + 16 * d.trk.join +
        65536 * d.trk.gen)
    | 0x18C => some d.trk.masterStn
    | _ => none

/-- The block bits of a TRK page's PG_STAT. -/
def trkPgStat (d : Dev) (p : Nat) : Nat := 4 * b2n (d.portUp p) + 8 * b2n (d.helloOk p)

/-- The station is enabled: its ports wait for synchronisation and HELLO, and it may become master. -/
def Dev.trkBegin (d : Dev) : Dev :=
  let p : RingPort := { helloTick := some d.time.ticks, helloSent := d.time.ticks }
  { d with trk := { d.trk with p0 := p, p1 := p, mayMaster := true } }

/-- A keystone that fires TRK_CFG lets the station become master. -/
def trkFired (d : Dev) (changed : List Nat) : Dev :=
  if changed.contains TRK_CFG then { d with trk := { d.trk with mayMaster := true, master := d.trk.master && d.bit TRK_CFG 0 } } else d

/-- At takeover the station may become master (R295). -/
def Dev.trkTakeover (d : Dev) : Dev := { d with trk := { d.trk with mayMaster := true, master := false } }

/-- A soft reset of a TRK page: the station's state, or the port's. -/
def trkReset (d : Dev) (p : Nat) : Dev := if p = 0 then { d with trk := {} } else d.setRport 1 {}

end Sys2Proof.Machine
end

