-- ==== Sys2Proof/Machine/RedOps.lean ====
section
/-!
DEFINITION. The active and standby pair (R286 to R300, R383, R384): heartbeats, the fence, the armature, the comparison of
roots, takeover and resynchronisation.
-/
namespace Sys2Proof.Machine

/-! ## Heartbeats (R287, R288) -/

/-- PAIR_EN, PREF, MISMATCH_ACT and RING_GUARD. -/
def Dev.paired (d : Dev) : Bool := d.bit RED_CTRL 0
def Dev.pref (d : Dev) : Bool := d.bit RED_CTRL 1

/-- RED works: its page runs and the module is paired. -/
def Dev.redOn (d : Dev) : Bool := d.runs pRED && d.paired && d.red.state != .solo

/-- RED_STATE.STATE of a state. -/
def RedState.code : RedState → Nat
  | .solo => 0
  | .active => 1
  | .standby => 2
  | .resync => 3

/-- The first 18 octets of a heartbeat, and the whole with its CRC. -/
def hbHead (state : Nat) (armValid yield claiming pref : Bool) (seq eui sealLo role : Nat) : Bytes :=
  leBytes 1 1 ++ leBytes 1 (state + 4 * b2n armValid + 8 * b2n yield + 16 * b2n claiming + 32 * b2n pref) ++
  leBytes 2 seq ++ leBytes 8 eui ++ leBytes 4 sealLo ++ leBytes 1 role ++ zeroBytes 1
def hbFrame (b : Bytes) : Bytes := b ++ leBytes 2 (crc16 b)

/-- The heartbeat that this module sends. -/
def Dev.ownHb (d : Dev) : Bytes :=
  hbFrame (hbHead d.red.state.code d.red.armValid d.red.yielding d.red.claim.isSome d.pref d.red.hbSeq d.eui
    (d.rd EPC_SEAL_SEQ_LO) d.role)

/-- The pair link seals under RED_KEY.SEAL, and opens under RED_KEY.OPEN. -/
def Dev.pairSeals (d : Dev) : Bool := (d.sealUnder (d.fld RED_KEY 7 0) (zeroBytes 12) [] []).isSome
def Dev.pairOpens (d : Dev) : Bool := d.useSlot (d.fld RED_KEY 15 8) [0, 1] 1 == 0

/-- A heartbeat goes out on both paths; the frame formats of the pair link are internal, so path A is recorded by the heartbeat
it carries. -/
def Dev.sendHb (d : Dev) : Dev :=
  let b := d.ownHb
  let d := d.send .hbWire b
  let d := d.iff d.pairSeals (·.send .pair b)
  { d with red := { d.red with
    hbSeq := (d.red.hbSeq + 1) % 65536, hbTickA := d.time.ticks, hbTickB := d.time.ticks, sentExt := d.ext } }

/-- HB_TX: every PERIOD while kicked. -/
def Dev.hbTx (d : Dev) : Dev :=
  if d.redOn && d.red.kicked && d.past d.red.hbTickA (msTicks (d.fld RED_HB 7 0)) then d.sendHb else d

/-! ## The fence (R290, R291) -/

/-- ACTIVE_N reads low. -/
def Dev.lineLow (d : Dev) : Bool := d.red.driving || d.red.outsideLow

/-- The level at which the outside holds ACTIVE_N, as a command brings it. -/
def Dev.seeLine (d : Dev) (low : Bool) : Dev := { d with red := { d.red with outsideLow := low } }

/-- partner_wins of R290. -/
def Dev.partnerWins (d : Dev) (h : Heartbeat) : Bool :=
  (h.pref && !d.pref) || (h.pref == d.pref && decide (h.eui.toNat < d.eui))

/-- The module leaves ACTIVE or STANDBY for RESYNC: ACTIVE_N released, no claim, no stream (R289, R291). -/
def Dev.toResync (d : Dev) (keepValid : Bool) : Dev :=
  { d with red := { d.red with
    state := .resync, armValid := d.red.armValid && keepValid, driving := false, faulted := false, yielding := false, claim := none,
    resyncing := false, finalHold := false, stream := [], held := [], journalWaits := [], isolated := false,
    joinTick := d.time.ticks } }

/-- claim() of R290 begins: nothing while the line is low. -/
def Dev.startClaim (d : Dev) (why : ClaimWhy) : Dev :=
  if d.lineLow || d.red.claim.isSome then d
  else
    let d := { d with red := { d.red with claim := some { why := why, since := d.time.ticks } } }
    d.sendHb

/-- FENCE_CLAIM_WAIT_END: the preference wait has ended; ACTIVE_N is driven if it is still high. -/
def Dev.claimWaitEnd (d : Dev) : Dev :=
  match d.red.claim with
  | none => d
  | some c =>
    if !d.redOn || c.driving.isSome || !d.past c.since (if d.pref then 0 else msTicks 20) then d
    else if d.lineLow then { d with red := { d.red with claim := none, joinTick := d.time.ticks } }
    else { d with red := { d.red with driving := true, claim := some { c with driving := some d.time.ticks } } }

/-! ## Findings (R294, R297) -/

/-- A finding: event 46, the count, and what it was. -/
def Dev.mismatch (d : Dev) (cause epoch : Nat) : Dev :=
  ((((d.wr RED_MISMATCH_LAST cause).wr64 RED_MISMATCH_EPOCH_LO epoch).bump RED_MISMATCH_COUNT).raise pRED 3)

/-- An unfit armature as this module acts on it: a standby leaves for RESYNC or is suspect (R294). -/
def Dev.unfitArm (d : Dev) (cause epoch : Nat) : Dev :=
  let d := d.mismatch cause epoch
  if d.red.state = .standby then
    if d.bit RED_CTRL 2 then d.toResync false else { d with red := { d.red with suspectArm := true } }
  else d

/-- The first condition of R297 that fails for a joiner and its active. -/
def Dev.joinCause (d : Dev) (h : Heartbeat) (v : PairView) : Option Nat :=
  if h.role.toNat ≠ d.role then some 4
  else if v.signSlot.val = d.fld EPC_SIGN_SLOT 7 0 then some 5
  else if v.digest ≠ d.configDigest d.ext then some 2
  else none

/-- Both modules name each other in RED_PARTNER_STN; the manual gives a finding of this no cause of its own. -/
def Dev.namesAgree (d : Dev) (v : PairView) : Bool :=
  v.stn.val == d.fld RED_PARTNER_STN 9 0 && v.partnerStn.val == d.stn

/-- A resynchronisation starts (R298): on the active the stream begins at the present mirror sequence. -/
def Dev.startResync (d : Dev) : Dev :=
  if d.red.resyncing then d
  else { d with red := { d.red with
    resyncing := true, unfit := false, stream := [], ackedSeq := d.red.nextSeq, held := [], finalHold := false } }

/-- A cause of R297 raises event 46 once. -/
def Dev.findOnce (d : Dev) (c : Nat) : Dev :=
  if d.red.causes.contains c then d.wr RED_MISMATCH_LAST c
  else ({ d with red := { d.red with causes := d.red.causes ++ [c] } } : Dev).mismatch c 0

/-- What a heartbeat does to a joiner or its active (R289, R297). -/
def Dev.hbJoin (d : Dev) (h : Heartbeat) : Dev :=
  match d.red.state, h.state.val with
  | .resync, 1 =>
    match d.red.view with
    | none => if h.role.toNat ≠ d.role then d.findOnce 4 else d
    | some v =>
      match d.joinCause h v with
      | some c => d.findOnce c
      | none => if d.namesAgree v then d.startResync else d
  | .active, 3 =>
    match d.red.view with
    | none => d
    | some v => if (d.joinCause h v).isNone && d.namesAgree v then d.startResync else d
  | .active, _ => { d with red := { d.red with resyncing := false, finalHold := false } }
  | _, _ => d

/-- Two activities at once: the module with the worse tie-break gives way; a yielding module gives way (R289). -/
def Dev.hbFence (d : Dev) (h : Heartbeat) : Dev :=
  let act : Bool := h.state.val == 1
  if d.red.state = .active ∧ act then
    if d.red.yielding then d.toResync true
    else if d.partnerWins h then d.toResync false
    else d
  else match d.red.claim with
  | some c =>
    if c.driving.isSome && (act || h.claiming) && d.partnerWins h then
      { d with red := { d.red with claim := none, driving := false, joinTick := d.time.ticks } }
    else d
  | none => d

/-- The two-way offset of the four stamps (R288), local minus reference, halves rounded down. -/
def pairOffset (sent arrival partnerSent now : Nat) : Int :=
  (((sent : Int) - arrival) + ((now : Int) - partnerSent)) / 2

/-- HB_RX: a heartbeat arrives on a path (R287, R288). -/
def Dev.hbRx (d : Dev) (pathB crcOk : Bool) (h : Heartbeat) (view : Option PairView) : Dev :=
  if !d.redOn then d
  else if !pathB && !d.pairOpens then d.bump RED_LINK_FAIL
  else if !crcOk then d.bump RED_HB_CRC_ERR
  else
    let known := d.rd64 RED_PARTNER_EUI_LO
    if known ≠ 0 ∧ known ≠ h.eui.toNat then d
    else
      let d := d.iff (known == 0) (·.wr64 RED_PARTNER_EUI_LO h.eui.toNat)
      let t := d.time.ticks
      let d := if pathB then { d with red := { d.red with partner := some h, lastB := t, pathB := true } }
        else { d with red := { d.red with partner := some h, lastA := t, pathA := true, view := view } }
      let d := match view with
        | some v =>
          match v.arrival with
          | some a => d.iff (d.pairSlave && !pathB && h.state.val == 1) (·.offsetSample (pairOffset d.red.sentExt a v.sent d.ext))
          | none => d
        | none => d
      (d.hbFence h).hbJoin h

/-- A path has brought no valid heartbeat for LOSS (R287). -/
def Dev.pathSilent (d : Dev) (last : Nat) : Bool := d.past last (msTicks (10 * d.fld RED_HB 15 8))

/-- HB_PATH_LOSS: event 43 or 44, once per loss. -/
def Dev.hbLoss (d : Dev) (pathB : Bool) : Dev :=
  if !d.redOn then d
  else if pathB then
    if d.red.pathB && d.pathSilent d.red.lastB then
      ({ d with red := { d.red with pathB := false } } : Dev).raise pRED 1
    else d
  else if d.red.pathA && d.pathSilent d.red.lastA then
    ({ d with red := { d.red with pathA := false } } : Dev).raise pRED 0
  else d

/-- PAIR_FRAME_RX: a frame that fails to open is discarded and counted; what an opened one carries arrives as its own command. -/
def Dev.pairFrame (d : Dev) (opens : Bool) : Dev :=
  d.iff (d.redOn && !(opens && d.pairOpens)) (·.bump RED_LINK_FAIL)

/-! ## Commands and timeouts (R289) -/

/-- A write of RED_KICK. -/
def Dev.kick (d : Dev) : Dev := { d with red := { d.red with kickTick := d.time.ticks, kicked := true } }

/-- The kick has expired: heartbeats stop, ACTIVE_N is released, an ACTIVE or STANDBY module goes to RESYNC. -/
def Dev.kickExpire (d : Dev) : Dev :=
  let d := { d with red := { d.red with kicked := false } }
  if d.red.state = .active ∨ d.red.state = .standby then d.toResync false
  else { d with red := { d.red with driving := false, claim := none } }

/-- KICK_TIMEOUT. -/
def Dev.kickTimeout (d : Dev) : Dev :=
  if d.redOn && d.red.kicked && d.past d.red.kickTick (msTicks (d.rd RED_KICK_TO)) then d.kickExpire else d

/-- YIELD, RESYNC and RESTORED. -/
def Dev.redYield (d : Dev) : Dev :=
  if d.redOn && d.red.state == .active && d.partnerStandby then { d with red := { d.red with yielding := true } } else d
def Dev.redRestored (d : Dev) : Dev :=
  if d.red.state = .solo then { d with red := { d.red with armValid := true } } else d

/-- RESYNC: a resynchronisation is asked for again; it runs where the conditions of R297 hold. -/
def Dev.redResync (d : Dev) : Dev :=
  match d.red.partner, d.red.view with
  | some h, some v =>
    let pairOk : Bool := (h.state.val == 1 && (d.red.state == .resync || d.red.state == .standby)) ||
      (d.red.state == .active && (h.state.val == 2 || h.state.val == 3))
    if d.redOn && pairOk && (d.joinCause h v).isNone && d.namesAgree v then d.startResync else d
  | _, _ => d

/-- FORCE by SEC: a RESYNC module claims the fence. -/
def Dev.redForce (d : Dev) : Dev := d.iff (d.redOn && d.red.state == .resync) (·.startClaim .force)

/-- JOIN_WAIT_EXPIRE: no heartbeat throughout RED_JOIN_WAIT; a module with ARM_VALID claims. -/
def Dev.joinExpire (d : Dev) : Dev :=
  let w := msTicks (d.rd RED_JOIN_WAIT)
  if d.redOn && d.red.state == .resync && d.red.armValid && d.past d.red.joinTick w && d.past d.red.lastA w && d.past d.red.lastB w then
    let d := { d with red := { d.red with joinTick := d.time.ticks } }
    d.startClaim .join
  else d

/-- A TOKEN or CLAIM of the partner was seen on the ring within the loss timeout (R290). -/
def Dev.ringGuarded (d : Dev) : Bool :=
  d.bit RED_CTRL 3 && (match d.red.ringSeen with | none => false | some t => !d.pathSilent t)

/-- The partner's last heartbeat yields. -/
def Dev.partnerYields (d : Dev) : Bool := match d.red.partner with | none => false | some h => h.yield && h.state.val == 1

/-- TAKEOVER_EVAL: may_take_over, each ms in STANDBY (R290). -/
def Dev.takeoverEval (d : Dev) : Dev :=
  if !d.redOn || d.red.state != .standby || d.red.claim.isSome then d
  else if d.partnerYields && !d.lineLow then d.startClaim .takeover
  else if d.red.pathA || d.red.pathB then { d with red := { d.red with isolated := false } }
  else if d.lineLow then
    let first := !d.red.isolated
    ({ d with red := { d.red with isolated := true } } : Dev).iff first (·.bump RED_ISOLATED_COUNT)
  else
    let d := { d with red := { d.red with isolated := false } }
    if d.ringGuarded then d else d.startClaim .takeover

/-- FENCE_FAULT: ACTIVE_N reads high while driven low; a module that does not drive it has the report of its partner (R291, R294). -/
def Dev.fenceFault (d : Dev) : Dev :=
  if !d.redOn then d
  else if d.red.driving then
    if d.red.faulted then d else ({ d with red := { d.red with faulted := true } } : Dev).mismatch 6 0
  else d.iff (d.red.state == .standby) (·.unfitArm 6 0)

/-! ## Takeover (R295, R296, R383, R384) -/

/-- The new active releases its blocks. -/
def Dev.releaseBlocks (d : Dev) : Dev :=
  let d := d.trkTakeover.radTakeover.plcBegin
  let d := d.each [0, 1, 2, 3] Dev.fbTakeover
  d.dstTakeover.noteClass

/-- The module becomes ACTIVE: event 45, the count, the time, and its blocks (R289, R295). -/
def Dev.becomeActive (d : Dev) : Dev :=
  let d := { d with red := { d.red with
    state := .active, claim := none, isolated := false, resyncing := false, unfit := false, stream := [], held := [],
    journalWaits := [], ackedSeq := d.red.nextSeq } }
  ((((d.wr64 RED_LAST_TAKEOVER_LO d.ext).bump RED_TAKEOVER_COUNT).raise pRED 2).releaseBlocks).becomeMaster

/-- RED_TAKEOVER: 30 ms of watching have ended unchallenged. -/
def Dev.redTakeover (d : Dev) : Dev :=
  match d.red.claim with
  | none => d
  | some c =>
    match c.driving with
    | none => d
    | some t => if d.redOn && d.past t (msTicks 30) then d.becomeActive else d

/-! ## The armature (R292, R293) -/

/-- The standby applies an item that asks no leave. -/
def Dev.armApply (d : Dev) (i : ArmItem) : Dev :=
  match i with
  | .record _ _ => d
  | .regCmd cmd a0 a1 addr =>
    let s0 := d.rd ING_REG_ATTR0
    let s1 := d.rd ING_REG_ATTR1
    let d := (((d.wr ING_REG_ATTR0 a0).wr ING_REG_ATTR1 a1).regCommand cmd addr).1
    (d.wr ING_REG_ATTR0 s0).wr ING_REG_ATTR1 s1
  | .balAck v => d.ackSides (bitsOf v.toNat 15 0) (bitsOf v.toNat 18 16)
  | .dstCmd c v regs => d.dstMirrored c v regs
  | .sample x => d.balSample x
  | .batchSeq stn seq => { d with ing := { d.ing with stations := Assoc.put d.ing.stations stn ((seq + 1) % 2 ^ 32) } }
  | .header h g => d.takeHeader h g
  | .balState z => { d with bal := { d.bal with zones := z } }
  | .dstState c s a b => d.dstMirrorState c s a b
  | .region _ base b => if inDram base b.length then d.stBytes base b else d.unfitArm 7 0

/-- The standby's engines take the oldest item of the stream; a record goes through ING under leave. -/
def Dev.armFeed (d : Dev) : Nat → Dev
  | 0 => d
  | fuel + 1 =>
    if d.red.state ≠ .standby then d
    else match d.red.held with
    | [] => d
    | i :: rest =>
      let drop := fun (d : Dev) => ({ d with red := { d.red with held := rest } } : Dev)
      match i with
      | .record ring x =>
        if !d.ingTakes then d
        else
          let d' := d.ingUnderLeave ring x drop
          if d'.red.held = d.red.held then d' else d'.armFeed fuel
      | _ => ((drop d).armApply i).armFeed fuel
def Dev.feedAll (d : Dev) : Dev := d.armFeed d.red.held.length

/-- The mirror acknowledgements whose journal writes have completed go out. -/
def Dev.ackPump (d : Dev) : Dev :=
  let done := d.red.journalWaits.takeWhile fun w => d.jrnDurable w.write
  match done.getLast? with
  | none => d
  | some w =>
    let d := { d with red := { d.red with journalWaits := d.red.journalWaits.drop done.length, ackedSeq := w.seq } }
    d.iff d.pairSeals (·.send .pair (leBytes 8 w.seq))

/-- ARMATURE_ITEM: the standby journals the item, acknowledges it and feeds it to its engines; a joiner holds it. -/
def Dev.armItem (d : Dev) (seq : Nat) (i : ArmItem) : Dev :=
  let joining : Bool := d.red.state == .resync && d.red.resyncing
  if !d.redOn || !d.pairOpens || !(d.red.state == .standby || joining) then d
  else
    let (d, w) := d.journalDrive 64
    let wait : JournalWait := { seq := seq, write := w }
    let d : Dev := { d with red := { d.red with
      nextSeq := seq, held := d.red.held ++ [i], journalWaits := d.red.journalWaits ++ [wait] } }
    d.ackPump.feedAll

/-- MIRROR_ACK: items up to a sequence are acknowledged; what waits on them goes on (R293, R384). -/
def Dev.mirrorAck (d : Dev) (seq : Nat) : Dev :=
  if !d.mirrors || d.red.nextSeq < seq then d
  else
    let d := { d with red := { d.red with
      ackedSeq := max d.red.ackedSeq seq, stream := d.red.stream.filter fun m => decide (seq < m.seq) } }
    d.dstPump

/-- MIRROR_LAG_EXPIRE: the oldest item has waited RED_LAG_MAX, or the window is full; a standby has the active's report. -/
def Dev.lagExpire (d : Dev) (full : Bool) : Dev :=
  if !d.redOn then d
  else match d.red.state with
  | .standby => d.unfitArm 3 0
  | .active =>
    match d.red.stream with
    | [] => d
    | m :: _ =>
      if d.mirrors && (full || d.past m.tick (msTicks (d.rd RED_LAG_MAX))) then
        let d := { d with red := { d.red with unfit := true, stream := [], resyncing := false, finalHold := false } }
        (d.mismatch 3 0).dstPump
      else d
  | _ => d

/-! ## Comparison (R294) -/

/-- Two records of one ashlar, one's own and one the partner's. -/
def rootsMeet (a b : RootRec) : Bool := a.own && !b.own && a.epoch == b.epoch && a.typ == b.typ && a.amend == b.amend

/-- The first pair of records that can be compared. -/
def firstMeeting (l : List RootRec) : List RootRec → Option (RootRec × RootRec)
  | [] => none
  | a :: t => match l.find? (rootsMeet a) with | some b => some (a, b) | none => firstMeeting l t

/-- Compare one pair: a difference of roots or of digests is a finding; after a match the active sends BAL's state (R292). -/
def Dev.rootCompare (d : Dev) : Dev :=
  match firstMeeting d.red.roots d.red.roots with
  | none => d
  | some (a, b) =>
    let d := { d with red := { d.red with roots := d.red.roots.filter fun r => r != a && r != b } }
    let badRoot : Bool := a.root != b.root
    let badCfg : Bool := a.digest != b.digest
    let d := d.iff badRoot (·.unfitArm 1 a.epoch)
    let d := d.iff badCfg (·.unfitArm 2 a.epoch)
    d.iff (!badRoot && !badCfg) (fun d => d.mirror (.balState d.bal.zones))

/-- The partner's root and digest arrive. -/
def Dev.partnerRoot (d : Dev) (r : Option PartnerRoot) : Dev :=
  match r with
  | none => d
  | some r =>
    let x : RootRec := { own := false, epoch := r.epoch, typ := r.typ.val, amend := r.amend, root := r.root, digest := r.digest }
    { d with red := { d.red with roots := d.red.roots ++ [x] } }

/-- ROOT_COMPARE. -/
def Dev.compareRoots (d : Dev) (r : Option PartnerRoot) : Dev := if d.redOn then (d.partnerRoot r).rootCompare else d

/-! ## Resynchronisation (R298) and regions (R292) -/

/-- The client of RED. -/
abbrev redClient : Client := ⟨pRED, 0⟩

/-- A register that a resynchronisation may write: of a data-engine page, and not of class S. -/
def copiedReg (a : Nat) : Bool :=
  match regionOf a with
  | .page p off =>
    decide (19 ≤ p) && decide (p ≤ 24) &&
      (match findDesc off (pageRegs p) with | some (r, _) => r.cls != .s | none => false)
  | _ => false

/-- The joiner takes what a pass copies. Its own archive loses what the partner sealed anew after the takeover; its retained sets are
the partner's. -/
def Dev.install (d : Dev) (c : PairCopy) : Dev :=
  let own := d.epc.ashlars.filter fun (a : Ashlar) => match c.firstSeq with | some f => decide (a.sealSeq < f) | none => true
  let kept := own.map fun (a : Ashlar) => { a with setNo := none, exportNo := none }
  let sets := c.epc.ashlars.filter fun (a : Ashlar) => a.setNo.isSome && !kept.any fun (b : Ashlar) => b.sealSeq == a.sealSeq
  let d := d.each c.dram fun d e => if inDram e.1 e.2.length then d.stBytes e.1 e.2 else d
  let d := d.each c.regs fun d e => if copiedReg e.1 then d.wr e.1 e.2.toNat else d
  { d with
    epc := { c.epc with ashlars := kept ++ sets, descs := d.epc.descs, fence := d.epc.fence, expired := d.epc.expired },
    trf := { c.trf with job := d.trf.job }, bal := { c.bal with job := d.bal.job, mapBusy := d.bal.mapBusy }, dst := c.dst,
    ing := { d.ing with stations := c.stations, reseq := c.reseq, exps := c.exps } }

/-- RESYNC_PASS: under leave of class 12 the active copies a pass, the final one with ING's apply stage held; the joiner takes it. -/
def Dev.resyncPass (d : Dev) (left us : Nat) (copy : Option PairCopy) : Dev :=
  if !d.redOn || !d.red.resyncing then d
  else match d.red.state, copy with
  | .active, _ =>
    let d := d.request 12 redClient
    if !d.granted 12 redClient then d
    else
      let d := { d with red := { d.red with copyLeft := left, finalHold := decide (us < d.rd RED_FINAL_MAX) } }
      d.giveBack 12 redClient
  | _, some c => ({ d with red := { d.red with copyLeft := left } } : Dev).install c
  | _, none => d

/-- RED_PAIR_RESYNC_DONE: the joiner is STANDBY with a valid armature and applies the held stream; the active releases ING. -/
def Dev.resyncDone (d : Dev) : Dev :=
  if !d.redOn || !d.red.resyncing then d
  else match d.red.state with
  | .active => { d with red := { d.red with finalHold := false, resyncing := false, copyLeft := 0 } }
  | _ =>
    let d := { d with red := { d.red with
      state := .standby, armValid := true, suspectArm := false, resyncing := false, copyLeft := 0, causes := [] } }
    ((d.bump RED_RESYNC_COUNT).raise pRED 4).feedAll

/-- REGION_SYNC: the named region goes into the stream; without a partner that mirrors, or with an unused region, nothing does. -/
def Dev.regionSync (d : Dev) (r : Nat) : Dev :=
  let n := 4096 * d.fld (RED_REGION_SIZE r) 22 0
  if !d.runs pRED || !d.mirrors || n == 0 then d
  else
    let base := d.rd64 (RED_REGION_BASE_LO r)
    (d.mirror (.region r base (d.ldBytes base n))).wr (RED_REGION_STAT r) (setBit (d.rd (RED_REGION_STAT r)) 0 true)

/-- REGION_SYNC_DONE: BUSY clears, SYNCED sets. -/
def Dev.regionDone (d : Dev) (r : Nat) : Dev := if d.bit (RED_REGION_STAT r) 0 then d.wr (RED_REGION_STAT r) 2 else d

/-! ## The page (R300) -/

/-- RED_CMD. -/
def Dev.redCmd (d : Dev) (v : Nat) : Dev :=
  if !d.runs pRED then d
  else match v % 8 with
  | 1 => d.redYield
  | 2 => d.redForce
  | 3 => d.redResync
  | 4 => d.regionSync (bitsOf v 11 8)
  | 5 => d.redRestored
  | _ => d

def redRead (d : Dev) (off : Nat) : Option Nat :=
  if off = 0x180 ∨ off = 0x184 then some 0
  else if off = 0x188 then
    some (d.red.state.code + 4 * b2n d.red.armValid + 8 * b2n d.red.isolated + 16 * b2n d.red.pathA + 32 * b2n d.red.pathB +
      64 * b2n d.lineLow + 128 * b2n d.red.driving + 256 * b2n d.red.suspectArm +
      512 * (match d.red.partner with | none => 0 | some h => h.state.val))
  else if off = 0x198 then
    some (match d.red.stream with | [] => 0 | m :: _ => satNat ((d.time.ticks - m.tick) / 250000) m32)
  else if off = 0x19C then some d.red.copyLeft
  else none

/-- Writes with an effect: FORCE is SEC-only; a register of a region that is being copied is ENGINE_BUSY. -/
def redWrite (d : Dev) (r : Requester) (off v : Nat) : WriteRes :=
  if off = 0x180 then
    if v % 8 = 2 ∧ r.role ≠ .sec then .refuse ROLE_DENIED else .done (d.redCmd v)
  else if off = 0x184 then .done d.kick
  else if 0x200 ≤ off ∧ off < 0x300 ∧ d.bit (RED_REGION_STAT ((off - 0x200) / 16)) 0 then .refuse ENGINE_BUSY
  else .plain

def redPgStat (d : Dev) : Nat := 4 * b2n d.red.resyncing + 8 * b2n (d.queuedFor 12 redClient)
def redBusy (d : Dev) : Bool := d.red.resyncing || (List.range 16).any fun r => d.bit (RED_REGION_STAT r) 0

/-- What a fire does: PAIR_EN starts or ends the pairing; a region that changed is no longer SYNCED. -/
def redFired (old d : Dev) (changed : List Nat) : Dev :=
  let d := d.each (List.range 16) fun d r =>
    if [RED_REGION_BASE_LO r, RED_REGION_BASE_HI r, RED_REGION_SIZE r].any changed.contains then
      d.wr (RED_REGION_STAT r) (setBit (d.rd (RED_REGION_STAT r)) 1 false) else d
  if old.paired = d.paired then d
  else if d.paired then
    let t := d.time.ticks
    { d with red := { d.red with state := .resync, joinTick := t, lastA := t, lastB := t, causes := [] } }
  else
    { d with red := { armValid := d.red.armValid, kickTick := d.red.kickTick, kicked := d.red.kicked, hbSeq := d.red.hbSeq,
                      nextSeq := d.red.nextSeq, ackedSeq := d.red.ackedSeq, outsideLow := d.red.outsideLow } }

/-- A reset of RED releases ACTIVE_N and leaves the module SOLO (R289, R291). -/
def redReset (d : Dev) : Dev := { d with red := { outsideLow := d.red.outsideLow } }

end Sys2Proof.Machine
end

