-- ==== Sys2Proof/Machine/SysOps.lean ====
section
/-!
DEFINITION. Supply and power-fail (R301 to R310), clocks (R316 to R318), reset and boot (R319 to R324), life cycle and tamper
(R325 to R328), watchdog (R333), memory and PCIe (R334, R335), and the test access port (R368).
-/
namespace Sys2Proof.Machine

/-! ## An abort of the keystone (R33, R34) -/

/-- Bits of CMT_STAT that are stored: ABORT_CAUSE. -/
def Dev.abortKs (d : Dev) (cause : Nat) : Dev :=
  let c : CmtSt := { d.cmt with
    state := .staging, entered := d.time.ticks, draining := 0, drainBegun := false, inSet := 0, rechecked := false }
  let d := { d with cmt := c, qry := { d.qry with drain := [] } }
  (((d.wr CMT_STAT (16 * cause)).bump CMT_ABORT_COUNT).raise pCMT 2)

/-- An ARMED or QUIESCING keystone aborts with a cause. -/
def Dev.abortArmed (d : Dev) (cause : Nat) : Dev :=
  if d.cmt.state = .armed ∨ d.cmt.state = .quiescing then d.abortKs cause else d

/-! ## Reset (R319, R320) -/

/-- The registers of the plinth (R8, R319). -/
def plinthRegs : List Nat :=
  [PWR_PF_STAT, PWR_PFW_COUNT, RST_CAUSE, RST_TRIAL, RST_TAMPER, RST_TAMPER_T_LO, RST_TAMPER_T_HI]

/-- The registers that reset from the fused calibration page (R332): live addresses of class S. -/
def calRegs : List Nat :=
  (List.range 32).flatMap fun p =>
    (pageRegs p).filterMap fun r => if r.reset == .cal && r.cls == .s then some (pageBase p + r.off) else none

/-- Memory that a reset clears: SRAM always, DRAM when the scope is FULL. -/
def resetClears (warm : Bool) (a : Nat) : Bool :=
  match regionOf a with
  | .norWindow => false
  | .dram => !warm
  | _ => true

/-- What of the data engines is in DRAM or on a drive and outlives a reset: the field journal and what the head-end took from
stations; the archive of ashlars; with WARM also the work areas. -/
def Dev.dataKept (d : Dev) (warm : Bool) : Dev :=
  let s := d.ing
  let ing : IngSt := {
    unsent := s.unsent.filter (·.journalled), outstanding := s.outstanding, nextSeq := s.nextSeq, ackedSeq := s.ackedSeq,
    stations := s.stations, journalled := s.journalled, exps := if warm then s.exps else [] }
  { d with ing := ing, epc := d.epc.kept warm,
           trf := if warm then { close := d.trf.close, closing := d.trf.closing, deferred := d.trf.deferred } else {}
           bal := if warm then { zones := d.bal.zones, samples := d.bal.samples, inventory := d.bal.inventory } else {} }

/-- The overlay's value, or the fused one, as the reset value of each calibration register (R332). -/
def Dev.calReset (d : Dev) : Dev :=
  if d.bootCtl.2 && d.overlayOk then
    let ov := d.overlayBytes
    d.each calRegs fun d a => let v := (Config.overlayWord ov a).toNat; (d.wr a v).wrShadow a v
  else d

/-- A new life-cycle nonce (R326). -/
def Dev.drawNonce (d : Dev) : Dev :=
  (d.each (List.range 8) fun e i => e.wr (RST_LC_NONCE i) (Config.freeWord (d.free + i)).toNat).tookFree 8

/-- A FULL or WARM reset that sets bits of RST_CAUSE (R319, R320): everything takes its reset state but the plinth, the fuses, the
NOR and the drive, and with WARM the DRAM. The test access port, the lands' outside, the clocks and what the supply measures
go on. -/
def Dev.resetTo (d : Dev) (warm : Bool) (cause : Nat) : Dev :=
  let d := d.wr RST_CAUSE (d.rd RST_CAUSE ||| cause)
  let k := d.dataKept warm
  let r : Dev := {
    reg := { live := d.reg.live.filter fun e => plinthRegs.contains e.1 }
    mem := Cells.forget (resetClears warm) d.mem
    bus := { halted := d.bus.halted }
    time := { ticks := d.time.ticks, rtcValid := d.time.rtcValid, rtcCount := d.time.rtcCount, rtcTick := d.time.rtcTick,
              rtcCopyCount := d.time.rtcCopyCount, rtcCopyUnc := d.time.rtcCopyUnc, lossTick := d.time.ticks }
    pin := d.pin
    pwr := { vinMv := d.pwr.vinMv, pin := d.pwr.pin, tempMk := d.pwr.tempMk, vbatMv := d.pwr.vbatMv, upStep := d.pwr.upStep }
    red := { outsideLow := d.red.outsideLow }
    clk := d.clk
    rst := { fuse := d.rst.fuse, lcShadow := d.rst.lcShadow, warm := warm, phaseTick := d.time.ticks,
             tamperPinHigh := d.rst.tamperPinHigh, vbatLost := d.rst.vbatLost, tamperWaits := d.rst.tamperWaits }
    sys := { wdtTick := d.time.ticks }
    io := { jrnHead := d.io.jrnHead, arcHead := d.io.arcHead, driveGb := d.io.driveGb, summaryTick := d.time.ticks }
    ing := k.ing, epc := k.epc, trf := k.trf, bal := k.bal
    rcd := { slots := d.rcd.slots }
    jtag := d.jtag, out := d.out, free := d.free }
  r.drawNonce.calReset.epcRestore

/-- A CORE reset (R319): the application cores restart, and RED loses its kick. -/
def Dev.resetCore (d : Dev) (cause : Nat) : Dev :=
  let d := d.wr RST_CAUSE (d.rd RST_CAUSE ||| cause)
  ({ d with sys := { d.sys with coreStarts := d.sys.coreStarts + 1 } } : Dev).kickExpire

/-- A reset of a scope: 0 WARM, 1 FULL, 2 CORE (SYS_WDT_CFG.SCOPE). -/
def Dev.resetScope (d : Dev) (scope cause : Nat) : Dev :=
  match scope with
  | 0 => d.resetTo true cause
  | 1 => d.resetTo false cause
  | 2 => d.resetCore cause
  | _ => d

/-- SYS_RST_CMD: 1 CORE, 2 WARM, 3 FULL under the key; anything else is ignored (R336). -/
def Dev.rstCmd (d : Dev) (v : Nat) : Dev :=
  if bitsOf v 31 16 ≠ 0xA5C3 then d
  else
    match v % 4 with
    | 1 => d.resetCore (2 ^ 6)
    | 2 => d.resetTo true (2 ^ 6)
    | 3 => d.resetTo false (2 ^ 6)
    | _ => d

/-! ## Boot (R321 to R325, R327, R328) -/

/-- A fuse group that has been begun is completed (R327). -/
def Dev.completeLc (d : Dev) : Dev :=
  match d.rst.fuse.partialLc with
  | none => d
  | some t => { d with rst := { d.rst with fuse := { d.rst.fuse with lc := t, partialLc := none }, lcShadow := t } }

/-- The plinth shadow is compared with the fuses, which govern (R327). -/
def Dev.checkShadow (d : Dev) : Dev :=
  let bad : Bool := !d.rst.vbatLost && d.rst.lcShadow != d.lc
  ({ d with rst := { d.rst with lcShadow := d.lc } } : Dev).wrFld RST_LC 3 3 (b2n bad)

/-- Slots 4 to 255 and the key cache are wiped at a latch under ZEROISE (R328). -/
def Dev.tamperZeroise (d : Dev) : Dev :=
  if d.bit RST_TAMPER_CFG 0 && (d.lc == 2 || d.lc == 3) then (d.zeroise).wr RST_TAMPER (d.rd RST_TAMPER ||| 4) else d

/-- Event 57 (R328), which ING's rule on tampering looks back to. -/
def Dev.tamperEvent (d : Dev) : Dev :=
  ({ d with ing := { d.ing with tamperExt := some d.ext } } : Dev).raise pRST 0

/-- What start-up does about the plinth: a loss of VBAT, and a latch made while VIN was absent (R301, R328). -/
def Dev.startTamper (d : Dev) : Dev :=
  let d := d.iff d.rst.vbatLost fun d => (d.wr RST_TAMPER 3).wr PWR_PF_STAT (setBit (d.rd PWR_PF_STAT) 8 true)
  let d := d.iff d.rst.tamperWaits fun d => d.tamperZeroise.tamperEvent
  { d with rst := { d.rst with vbatLost := false, tamperWaits := false } }

/-- An image is loaded and the security core starts (R323). -/
def Dev.startBank (d : Dev) (b : Nat) (trial : Bool) (fails : Nat) : Dev :=
  let a := bankBase b
  let h := ImgHead.ofBytes (d.ldBytes a 512)
  let d := d.stBytes 0x18000000 (d.ldBytes (a + h.secOff) h.secLen)
  let d := loadUcode 8 (a + h.ucOff) (a + h.ucOff + h.ucLen) d
  let d := d.wr SYS_BOOT_STAT (b + 2 * b2n trial + 256 * h.svn + 65536 * satNat fails 255)
  let d := (d.wr SYS_BOOT_VER h.version).wr SYS_APP_VECTOR h.appEntry
  { d with rst := { d.rst with phase := .running, phaseTick := d.time.ticks }
           sys := { d.sys with secRunning := true, wdtTick := d.time.ticks } }

/-- Times bank b has failed since the reset. -/
def Dev.failsOf (d : Dev) (b : Nat) : Nat := Assoc.get 0 d.rst.fails b

/-- The banks in order: the first acceptable one starts; with none the device waits (R323). -/
def tryBanks (trial : Option Nat) : List Nat → Dev → Dev
  | [], d => { d with rst := { d.rst with phase := .noBank, phaseTick := d.time.ticks } }
  | b :: t, d =>
    if d.imgResult (bankBase b) false = 0 then d.startBank b (trial == some b) (d.failsOf (1 - b))
    else tryBanks trial t { d with rst := { d.rst with fails := Assoc.put d.rst.fails b (d.failsOf b + 1) } }

/-- The choice of the first bank, with the trial's tries (R323, R330). -/
def Dev.bootBanks (d : Dev) : Dev :=
  let pref := d.bootCtl.1
  let first := if d.rst.bootSel = 1 then 1 - pref else pref
  let trial := d.rd RST_TRIAL
  let bank := bitNat trial 1
  let tries := bitsOf trial 3 2
  if !trial.testBit 0 then tryBanks none [first, 1 - first] d
  else if 0 < tries then tryBanks (some bank) [bank, 1 - bank] (d.wr RST_TRIAL (setFld trial 3 2 (tries - 1)))
  else
    let d := d.wr RST_TRIAL (setBit trial 0 false)
    tryBanks none [1 - bank, bank] { d with rst := { d.rst with trialFailed := true } }

/-- HOLD is selected and allowed (R321). -/
def Dev.bootHolds (d : Dev) : Bool := d.rst.bootSel == 2 && d.dbgOn

/-- BOOT: the boot ROM runs after a release with BOOT_SEL at sel and the RTC at a count (R323, R324, R253). -/
def Dev.boot (d : Dev) (sel rtc : Nat) : Dev :=
  if d.rst.phase ≠ .inReset ∨ d.pwr.upStep < 7 then d
  else
    let d := d.completeLc.checkShadow
    let d := { d with rst := { d.rst with bootSel := sel } }
    if d.lc = 5 then { d with rst := { d.rst with phase := .holding } }
    else
      let d := (d.bootSlots.rtcStart (max rtc d.time.rtcCopyCount)).startTamper
      let d := { d with io := { d.io with initBusy := !d.rst.warm } }
      if d.bootHolds then { d with rst := { d.rst with phase := .holding } } else d.bootBanks

/-- BOOT_RETRY: 60 s after a boot that found no acceptable bank. -/
def Dev.bootRetry (d : Dev) : Dev :=
  if d.rst.phase = .noBank ∧ d.past d.rst.phaseTick (msTicks 60000) then d.bootBanks else d

/-! ## Supply (R301 to R310) -/

/-- VIN is present. -/
def Dev.vinOn (d : Dev) : Bool := d.pwr.upStep != 0

/-- PWR_PF_STAT.STEP. -/
def Dev.flushAt (d : Dev) (n : Nat) : Dev :=
  ({ d with pwr := { d.pwr with flushStep := n } } : Dev).wrFld PWR_PF_STAT 4 2 n

/-- PWR_FAIL_WARN (R305, R307): VIN, in mV, stays below THR. Steps 1 and 2 have acted when the command ends; the rest runs until
FLUSH_DONE. -/
def Dev.powerWarn (d : Dev) (vin : Nat) : Dev :=
  if d.pwr.pfActive || !d.vinOn || decide (100 * d.fld PWR_PFW 9 0 ≤ vin) then d
  else
    let d := (d.wr PWR_PF_STAT 1).bump PWR_PFW_COUNT
    let d := { d with pwr := { d.pwr with
      pfActive := true, pfTick := d.time.ticks, pfwN := false, vinMv := vin, flushDone := false } }
    let d := (d.raise pPWR 0).abortArmed 5
    let d := d.cancelQueue.recPowerFail.panelOffStart
    let d := d.iff (d.role != 0 && d.en pNVS) (·.nvsSubmit .flush 0)
    d.flushAt 2

/-- The recorder's buffer goes to the NOR without leave, since the governor grants none (R307). -/
def recFlush : Nat → Dev → Dev
  | 0, d => d
  | fuel + 1, d => if d.rcd.buf.isEmpty then d else recFlush fuel d.recStep

/-- FLUSH_DONE (R307). -/
def Dev.flushEnd (d : Dev) : Dev :=
  if !d.pwr.pfActive || d.pwr.flushDone then d
  else
    let d := d.iff (d.runs pREC && d.rcd.ready) (recFlush (2 * d.rcd.buf.length + 8))
    let d := if d.nvsStopped then d else { d with io := { d.io with
      nvsWait := [], outstanding := []
      jrnDone := d.io.jrnDone + ((d.io.outstanding ++ d.io.nvsWait).filter fun (c : NvsCmd) => c.kind == NvsKind.journal).length } }
    let d := d.iff (d.cls != ClockClass.invalid) Dev.rtcCopy
    let d := (d.flushAt 6).panelOffDone
    ({ d with pwr := { d.pwr with flushDone := true } } : Dev).wrFld PWR_PF_STAT 1 1 1

/-- PF_RESET (R305): the flush has ended and VIN has stayed at or above THR + HYST for 100 ms. -/
def Dev.pfReset (d : Dev) (vin : Nat) : Dev :=
  if d.pwr.pfActive && d.pwr.flushDone && decide (100 * (d.fld PWR_PFW 9 0 + d.fld PWR_PFW 14 10) ≤ vin) then
    ({ d with pwr := { d.pwr with vinMv := vin } } : Dev).resetTo false (2 ^ 2)
  else d

/-- A brownout reset with bits of RST_CAUSE (R309): the rails fall, and the test access port with them. -/
def Dev.brownoutBy (d : Dev) (cause : Nat) : Dev :=
  let s := if d.pwr.pfActive then d.rd PWR_PF_STAT else d.rd PWR_PF_STAT - d.rd PWR_PF_STAT % 32
  let d := (d.wr PWR_PF_STAT (setBit s 9 true)).resetTo false cause
  { d with pwr := { d.pwr with upStep := 0 }, jtag := {} }

def Dev.brownout (d : Dev) : Dev := if d.vinOn then d.brownoutBy (2 ^ 1) else d

/-- THERMAL_RESET (R310, R320): the junction, in mK, is above 125 °C. -/
def Dev.thermalReset (d : Dev) (temp : Int) : Dev :=
  if d.vinOn && decide (398150 < temp) then ({ d with pwr := { d.pwr with tempMk := temp } } : Dev).brownoutBy (2 ^ 9 + 2 ^ 1) else d

/-- POR (R320): VIN rises through the start-up threshold. -/
def Dev.powerOn (d : Dev) (vin : Nat) : Dev :=
  if d.vinOn then d
  else
    let d := ({ d with pwr := { d.pwr with vinMv := vin } } : Dev).resetTo false 1
    { d with pwr := { d.pwr with upStep := 1 } }

/-- POWER_UP_STEP (R303): the next rail is in regulation, or was not in time and the sequence starts again. -/
def Dev.powerUpStep (d : Dev) (ok : Bool) : Dev :=
  if d.pwr.upStep = 0 ∨ 7 ≤ d.pwr.upStep then d
  else { d with pwr := { d.pwr with upStep := if ok then d.pwr.upStep + 1 else 1 } }

/-- VBAT_LOSS (R301, R319): with VIN absent the plinth loses its contents. -/
def Dev.vbatLoss (d : Dev) (mv : Nat) : Dev :=
  if d.vinOn || decide (2000 ≤ mv) then d
  else
    let d := d.each plinthRegs fun d a => d.wr a 0
    { d with pwr := { d.pwr with vbatMv := mv }
             time := { d.time with rtcValid := false, rtcCount := 0, rtcTick := d.time.ticks, rtcCopyCount := 0, rtcCopyUnc := 0 }
             rst := { d.rst with lcShadow := 0, vbatLost := true, tamperWaits := false } }

/-- PWR_THERM.HIGH in mK. -/
def Dev.thermHigh (d : Dev) : Int := 273150 + 1000 * (d.fld PWR_THERM 7 0 : Int)

/-- THERM_HIGH and THERM_CLEAR with the die temperature in mK (R310). -/
def Dev.thermUp (d : Dev) (temp : Int) : Dev :=
  let d := { d with pwr := { d.pwr with tempMk := temp } }
  if d.pwr.thermDerate || decide (temp ≤ d.thermHigh) then d
  else ((({ d with pwr := { d.pwr with thermDerate := true } } : Dev).bump PWR_THERM_COUNT).raise pPWR 3)

def Dev.thermDown (d : Dev) (temp : Int) : Dev :=
  let d := { d with pwr := { d.pwr with tempMk := temp } }
  if d.pwr.thermDerate && decide (temp ≤ d.thermHigh - 5000) then
    ({ d with pwr := { d.pwr with thermDerate := false } } : Dev).onReturn
  else d

/-- POWER_OVER and POWER_OVER_END with the 1 ms mean in 10 mW (R313). PWR_OVER_COUNT takes OVER_MS at the start and the rest at
the end. -/
def Dev.powerOver (d : Dev) (mean : Nat) : Dev :=
  let d := { d with pwr := { d.pwr with pin := mean } }
  if d.pwr.isOver || !d.en pPWR || decide (mean ≤ d.ceilEff) then d
  else ({ d with pwr := { d.pwr with isOver := true, overTick := d.time.ticks } } : Dev).bump PWR_OVER_COUNT (d.fld PWR_CEIL 31 24)

def Dev.powerOverEnd (d : Dev) (mean : Nat) : Dev :=
  let d := { d with pwr := { d.pwr with pin := mean } }
  if d.pwr.isOver && decide (100 * mean ≤ 95 * d.ceilEff) then
    (({ d with pwr := { d.pwr with isOver := false } } : Dev).bump PWR_OVER_COUNT ((d.time.ticks - d.pwr.overTick) / 250000)).onReturn
  else d

/-! ## Clocks (R318) -/

/-- A frame on a medium is lost with the root. -/
def MacSt.cut (m : MacSt) (now : Nat) : MacSt := { m with txEnd := min m.txEnd now, access := none }

/-- CLK_ROOT_LOSS. -/
def Dev.rootLoss (d : Dev) : Dev :=
  if !d.clk.rootOk then d
  else
    let now := d.time.ticks
    let d := { d with clk := { d.clk with rootOk := false, sysPll := false, onFallback := true, lossTick := now }
                      rad := { d.rad with mac := d.rad.mac.cut now }
                      plc := { d.plc with mac := d.plc.mac.cut now } }
    ((d.setClass .invalid 0 now).bump CLK_ROOT_LOSS_COUNT).raise pCLK 0

/-- The root has been lost for CLK_LOSS_TO. -/
def Dev.rootLate (d : Dev) : Bool := d.past d.clk.lossTick (msTicks (d.rd CLK_LOSS_TO))

/-- ROOT_RETURN. -/
def Dev.rootReturn (d : Dev) : Dev :=
  if d.clk.rootOk || d.rootLate then d
  else
    let us := usBetween d.clk.lossTick d.time.ticks
    ({ d with clk := { d.clk with rootOk := true, sysPll := true, onFallback := false } } : Dev).bump CLK_FALLBACK_US us

/-- CLK_LOSS_TIMEOUT. -/
def Dev.rootTimeout (d : Dev) : Dev :=
  if d.clk.rootOk || !d.rootLate then d
  else let d := d.resetTo false (2 ^ 4); { d with clk := { d.clk with lossTick := d.time.ticks } }

def Dev.dramUnlock (d : Dev) : Dev :=
  if d.clk.dramPll then ({ d with clk := { d.clk with dramPll := false } } : Dev).bump CLK_DRAM_UNLOCK else d

def Dev.dramRelock (d : Dev) : Dev := { d with clk := { d.clk with dramPll := true } }

/-- CLK_STAT. -/
def Dev.clkStat (d : Dev) : Nat :=
  b2n d.clk.rootOk + 2 * b2n d.clk.sysPll + 4 * b2n d.clk.dramPll + 8 * b2n d.clk.onFallback + 16 * b2n d.clk.refExt

/-! ## Life cycle (R325 to R327, R330) -/

/-- The owner keys that are programmed and not revoked. -/
def FuseSt.goodOwners (f : FuseSt) : List Nat :=
  (List.range 4).filter fun i => Assoc.get [] f.owners i != [] && !f.revoked.testBit i

/-- Programmed owner keys as a mask. -/
def FuseSt.ownerMask (f : FuseSt) : Nat :=
  (List.range 4).foldl (fun s i => s + 2 ^ i * b2n (Assoc.get [] f.owners i != [])) 0

/-- RST_OWNER_STAT with a result. -/
def Dev.ownerStat (d : Dev) (r : Nat) : Dev := d.wr RST_OWNER_STAT (512 * r)

/-- RST_OWNER_CMD PROGRAM (R325). -/
def Dev.ownerProgram (d : Dev) (i : Nat) : Dev :=
  let a := d.rd64 RST_OWNER_SRC_LO
  if 3 ≤ d.lc then d.ownerStat 1
  else if Assoc.get [] d.rst.fuse.owners i ≠ [] then d.ownerStat 3
  else
    let h := if inDram a 32 then d.ldBytes a 32 else d.freeBytes 32
    (({ d with rst := { d.rst with fuse := { d.rst.fuse with owners := Assoc.put d.rst.fuse.owners i h } } } : Dev).tookFree 32).ownerStat 0

/-- RST_OWNER_CMD REVOKE (R325): never the last key that is not revoked. -/
def Dev.ownerRevoke (d : Dev) (i : Nat) : Dev :=
  let f := d.rst.fuse
  if d.lc = 0 ∨ d.lc = 5 then d.ownerStat 1
  else if f.revoked.testBit i then d.ownerStat 3
  else if (f.goodOwners.filter (· != i)).isEmpty then d.ownerStat 2
  else ({ d with rst := { d.rst with fuse := { f with revoked := f.revoked + 2 ^ i } } } : Dev).ownerStat 0

/-- RST_OWNER_CMD: one of PROGRAM and REVOKE; with both nothing happens (DESIGN CHOICE). -/
def Dev.ownerCmd (d : Dev) (v : Nat) : Dev :=
  if v.testBit 8 ∧ v.testBit 9 then d
  else if v.testBit 8 then d.ownerProgram (v % 4)
  else if v.testBit 9 then d.ownerRevoke (v % 4)
  else d

/-- RST_SVN_CMD (R330). -/
def Dev.svnGo (d : Dev) (v : Nat) : Dev :=
  let n := v % 64
  if v.testBit 8 ∧ d.rst.fuse.svn < n ∧ n ≤ d.fld SYS_BOOT_STAT 13 8 then
    { d with rst := { d.rst with fuse := { d.rst.fuse with svn := n } } }
  else d

/-- RST_LC_AUTH_CMD with GO (R326): a new nonce, AUTH_OK falls, and the verification is under way against the old nonce. -/
def Dev.authGo (d : Dev) (v : Nat) : Dev :=
  if !v.testBit 8 then d
  else
    let nonce := (List.range 8).flatMap fun i => leBytes 4 (d.rd (RST_LC_NONCE i))
    let job := (v % 8, d.rd64 RST_LC_AUTH_LO, nonce)
    (({ d with rst := { d.rst with authJob := some job } } : Dev).drawNonce).wr RST_LC_STAT 1

/-- LC_AUTH_DONE. The key is an owner's when its SHA-256 is an owner hash that is not revoked (DEDUCED). -/
def Dev.authDone (d : Dev) : Dev :=
  match d.rst.authJob with
  | none => d
  | some (target, a, nonce) =>
    let pub := d.ldBytes a 64
    let h := sha256 pub
    let owner := d.rst.fuse.goodOwners.any fun i => Assoc.get [] d.rst.fuse.owners i == h
    let text := leBytes 8 (d.rd64 RMC_EUI_LO) ++ leBytes 1 target ++ nonce
    let ok := owner && ecdsaVerify pub (sha256 text) (d.ldBytes (a + 64) 64)
    let d := { d with rst := { d.rst with authJob := none } }
    d.wr RST_LC_STAT (if ok then 2 + 4 * target else 0)

/-- AUTH_OK stands for a target. -/
def Dev.authOk (d : Dev) (target : Nat) : Bool := d.bit RST_LC_STAT 1 && d.fld RST_LC_STAT 4 2 == target

/-- A transition is in the table of R326 and its condition holds; owner tells who staged it. -/
def Dev.lcAllowed (d : Dev) (owner : Option Requester) (target : Nat) : Bool :=
  match d.lc, target with
  | 0, 1 => match owner with | some r => r.role == .dbg || r.role == .sec | none => false
  | 1, 2 => !d.rst.fuse.goodOwners.isEmpty
  | 2, 3 => true
  | 2, 4 => d.authOk 4
  | 3, 4 => d.authOk 4
  | 1, 5 => true
  | 2, 5 => true
  | 4, 5 => true
  | 3, 5 => d.authOk 5
  | _, _ => false

/-- The fire of a transition (R327). -/
def Dev.lcFired (d : Dev) (target : Nat) : Dev :=
  let d := d.keyLifecycle d.lc target
  { d with rst := { d.rst with fuse := { d.rst.fuse with partialLc := some target }, lcReset := some d.time.ticks } }

/-- LC_FUSE_RESET: the group is programmed, and a FULL reset follows 1 ms later. -/
def Dev.lcFuseReset (d : Dev) : Dev :=
  match d.rst.lcReset with
  | none => d
  | some t => if d.past t (msTicks 1) then d.completeLc.resetTo false (2 ^ 7) else d

/-! ## Tamper (R328) -/

/-- TAMPER: TAMPER_N is low for 10 samples. -/
def Dev.tamper (d : Dev) : Dev :=
  let d := { d with rst := { d.rst with tamperPinHigh := false } }
  if d.bit RST_TAMPER 0 then d
  else
    let d := (d.wr RST_TAMPER (d.rd RST_TAMPER ||| 1)).wr64 RST_TAMPER_T_LO (rtcToNs d.rtcNow)
    if d.vinOn then d.tamperZeroise.tamperEvent else { d with rst := { d.rst with tamperWaits := true } }

/-- RST_TAMPER_CLR, with the level of TAMPER_N. -/
def Dev.tamperClr (d : Dev) (v : Nat) : Dev :=
  if v.testBit 0 && d.rst.tamperPinHigh then d.each [RST_TAMPER, RST_TAMPER_T_LO, RST_TAMPER_T_HI] fun d a => d.wr a 0 else d

/-! ## Watchdog (R333) -/

/-- The watchdog counts: enabled, firmware runs (the boot ROM kicks it before), no halted core holds it. -/
def Dev.wdtCounts (d : Dev) : Bool := d.bit SYS_WDT_CFG 31 && d.sys.secRunning && d.sys.wdtHeld.isNone

/-- Ticks since the last kick or warning. -/
def Dev.wdtAge (d : Dev) : Nat := (d.sys.wdtHeld.getD d.time.ticks) - d.sys.wdtTick

/-- Ticks that the present stage takes. -/
def Dev.wdtStage (d : Dev) : Nat :=
  msTicks (if d.sys.wdtWarned then 10 * d.fld SYS_WDT_CFG 23 16 else d.fld SYS_WDT_CFG 15 0)

/-- SYS_WDT_KICK. -/
def Dev.wdtKick (d : Dev) (role : ReqRole) (v : Nat) : Dev :=
  if v = 0xC3A5 ∧ (role = .sys ∨ role = .sec) then
    { d with sys := { d.sys with wdtTick := d.time.ticks, wdtWarned := false, wdtHeld := d.sys.wdtHeld.map fun _ => d.time.ticks } }
  else d

/-- WDT_WARN. -/
def Dev.wdtWarn (d : Dev) : Dev :=
  if d.wdtCounts && !d.sys.wdtWarned && decide (d.wdtStage ≤ d.wdtAge) then
    ((({ d with sys := { d.sys with wdtTick := d.time.ticks, wdtWarned := true } } : Dev).bump SYS_WDT_WARN_COUNT).raise pSYS 0)
  else d

/-- WDT_BITE. -/
def Dev.wdtBite (d : Dev) : Dev :=
  if d.wdtCounts && d.sys.wdtWarned && decide (d.wdtStage ≤ d.wdtAge) then
    let s := d.fld SYS_WDT_CFG 25 24
    let d := { d with sys := { d.sys with wdtTick := d.time.ticks, wdtWarned := false } }
    d.resetScope s (2 ^ 5)
  else d

/-- A debugger halts an application core or lets it go: the watchdog holds meanwhile where DBG is enabled. -/
def Dev.setHalted (d : Dev) (h : Bool) : Dev :=
  let d := { d with bus := { d.bus with halted := h } }
  match h && d.dbgOn, d.sys.wdtHeld with
  | true, none => { d with sys := { d.sys with wdtHeld := some d.time.ticks } }
  | false, some t => { d with sys := { d.sys with wdtHeld := none, wdtTick := d.sys.wdtTick + (d.time.ticks - t) } }
  | _, _ => d

/-- SYS_WDT_STAT. -/
def Dev.wdtStat (d : Dev) : Nat :=
  satNat ((d.wdtStage - d.wdtAge) / 250000) 0xFFFF + 65536 * b2n d.sys.wdtWarned

/-! ## MEM and PCI (R334, R335) -/

/-- MEM_INIT_DONE. -/
def Dev.memInitDone (d : Dev) : Dev :=
  if d.io.initBusy then { d with io := { d.io with initBusy := false, scrubbing := d.bit MEM_SCRUB 0 } } else d

/-- MEM_ECC_CORR_SUMMARY: words corrected since the last such command; the event once per MEM_SUMMARY_S when the count grew. -/
def Dev.eccSummary (d : Dev) (corrected : Nat) : Dev :=
  let d := d.bump MEM_CORR_COUNT corrected
  if !d.past d.io.summaryTick (msTicks (1000 * d.rd MEM_SUMMARY_S)) then d
  else
    let n := d.rd MEM_CORR_COUNT
    let grewBy := if n < d.io.summaryCount then n else n - d.io.summaryCount
    let d := { d with io := { d.io with summaryTick := d.time.ticks, summaryCount := n } }
    d.iff (decide (0 < grewBy)) (·.raise pMEM 0)

/-- MEM_ECC_UNCORR: an uncorrectable word, and the page of the engine that read it. -/
def Dev.eccUncorr (d : Dev) (a : Nat) (reader : Option (Fin 32)) : Dev :=
  if !inDram a 1 then d
  else
    let d := ((d.wr64 MEM_UNCORR_ADDR_LO (a - a % 8)).bump MEM_UNCORR_COUNT).raise pMEM 1
    match reader with
    | none => d
    | some p => { d with io := { d.io with stopped := setBit d.io.stopped p.val true } }

/-- PG_CTRL.EN and PCI_CFG.LINK_EN both hold: PERST counts from there; else it is low and the link is down (R363). -/
def Dev.pciEnable (d : Dev) : Dev :=
  if d.en pPCI && d.bit PCI_CFG 0 then
    if d.io.perstTick.isSome then d else { d with io := { d.io with perstTick := some d.time.ticks } }
  else { d with io := { d.io with perstTick := none, perstHigh := false } }

/-- PERST_RELEASE. -/
def Dev.perstRelease (d : Dev) : Dev :=
  match d.io.perstTick with
  | none => d
  | some t => if d.past t (msTicks 100) then { d with io := { d.io with perstHigh := true } } else d

/-- PCI_LINK: the link comes up or goes down, with its rate, its width and the size of the drive behind it. -/
def Dev.pciLink (d : Dev) (up : Bool) (rate width gb : Nat) : Dev :=
  let up := up && d.en pPCI && d.bit PCI_CFG 0
  let was := d.io.linkUp
  let d := { d with io := { d.io with linkUp := up, driveGb := if up then gb else 0 } }
  let d := d.wr PCI_STAT (if up then 1 + 2 * min rate (d.fld PCI_CFG 2 1) + 8 * width else 0)
  d.iff (was != up) (·.raise pPCI 0)

/-! ## The test access port (R368, R369) -/

/-- The instruction a 5-bit code selects in the present life-cycle state. -/
def Dev.tapCode (d : Dev) (code : Nat) : TapInstr :=
  let i : TapInstr := match code with
    | 1 => .idcode
    | 2 => .sample
    | 3 => .extest
    | 4 => .clamp
    | 5 => .highz
    | 8 => .reset
    | 16 => .dtmcs
    | 17 => .dmi
    | _ => .bypass
  if i = .idcode ∨ d.dbgOn then i else .bypass

/-- The port runs: VIN is operating and step 6 of R303 has passed. -/
def Dev.tapRuns (d : Dev) : Bool := decide (6 ≤ d.pwr.upStep)

/-- A code is loaded into the instruction register. Leaving EXTEST, CLAMP or HIGHZ is a FULL reset; so is RESET. -/
def Dev.tapLoad (d : Dev) (code : Nat) : Dev :=
  if !d.tapRuns then d
  else
    let i := d.tapCode code
    let leaves : Bool := d.jtag.holds && i != d.jtag.instr
    let d := { d with jtag := { d.jtag with instr := i } }
    if leaves || i == .reset then d.resetTo false (2 ^ 8) else d

/-- IDCODE: the identification word is shifted out. -/
def Dev.tapIdcode (d : Dev) : Dev :=
  let d := d.tapLoad 1
  d.iff (d.tapRuns) (·.send .jtag (leBytes 4 0x1851254F))

/-- SAMPLE/PRELOAD: the captured lands are shifted out, and the boundary register takes new data. -/
def Dev.tapSample (d : Dev) (lands : BitVec 58) (data : BitVec 174) : Dev :=
  let d := d.tapLoad 2
  if d.tapRuns && d.jtag.instr == .sample then
    let captured := (List.range 58).foldl (fun s k =>
      setBit s (3 * k) (lands.toNat.testBit k)) d.jtag.boundary
    ({ d with jtag := { d.jtag with boundary := data.toNat } } : Dev).send .jtag (leBytes 22 captured)
  else d

/-- EXTEST: the lands follow the boundary register, which takes new data where data is shifted. -/
def Dev.tapExtest (d : Dev) (data : Option (BitVec 174)) : Dev :=
  let d := d.tapLoad 3
  match data with
  | some x => d.iff (d.tapRuns && d.jtag.instr == .extest) fun d => { d with jtag := { d.jtag with boundary := x.toNat } }
  | none => d

/-- TAP_RESET: back to IDCODE; a hold is left as by any other instruction. -/
def Dev.tapReset (d : Dev) : Dev := d.tapLoad 1

/-- TEST_HOLD_EXIT: a hold is left by another instruction. -/
def Dev.holdExit (d : Dev) (code : Nat) : Dev := if d.jtag.holds then d.tapLoad code else d

end Sys2Proof.Machine
end

