-- ==== Sys2Proof/Machine/Gate.lean ====
section
/-!
DEFINITION. What every command has in common: the outcome type, and the hold of the internal logic while a boundary-scan
instruction is selected (R368).
-/
namespace Sys2Proof.Machine

/-- The outcome of a command. -/
abbrev Result := Host.Outcome State Fault Refusal

/-- A command of the internal logic. While EXTEST, CLAMP or HIGHZ is selected the logic is held, as in reset, and a command finds
nobody to take it (R368). -/
def State.logic (s : State) (f : Dev → Dev) : Result := s.act fun d => if d.jtag.holds then d else f d

end Sys2Proof.Machine
end

