-- ==== Sys2Proof/Machine/CheckOps.lean ====
section
/-!
DEFINITION. The check of the keystone (R36, R392): the merged configuration, the load of each block, and the nine steps. An item
is named by the live address of its word; a word of an array is reported at the base of its entry, with the entry's number, except
at step 7 (R36, R392).
-/
namespace Sys2Proof.Machine

/-! ## The merged configuration (R30) -/

/-- The register that holds a live address, with the index of a repeated one. -/
def Dev.descAt (d : Dev) (a : Nat) : Option (RegDesc × Nat) :=
  match regionOf a with
  | .page p off => if off < 0x100 ∨ 0x700 ≤ off then none else findDesc off (pageRegs p)
  | .queue _ off false => findDesc off regsQueue
  | .lane n off false => findDesc off (laneRegs (d.laneLink n))
  | _ => none

/-- The device with the merged configuration live. -/
def Dev.merged (d : Dev) : Dev :=
  { d with reg := { d.reg with live := d.reg.dirty.foldl (fun m a => RegMap.put m a (RegMap.get resetWord d.reg.shadow a)) d.reg.live } }

/-- The page that a live address counts against (R36). -/
def drainPage (a : Nat) : Nat :=
  match regionOf a with
  | .page p _ => p
  | .queue _ _ _ => pQRY
  | _ => pRMC

/-- The pages that the staged set takes in (R24, R36). -/
def Dev.dirtyPages (d : Dev) : Nat := d.reg.dirty.foldl (fun m a => m ||| 2 ^ drainPage a) 0

/-! ## What loads a block -/

/-- KEY has an operation in flight: a level-0 response, or jobs that it takes. -/
def keyBusy (d : Dev) : Bool :=
  d.key.l0Busy || (List.range 2).any fun r => d.en pKEY && d.fld (KEY_JOB_CFG r) 4 0 != 0 && d.jobCount r != 0

/-- PG_STAT.BUSY of page p: an operation in flight (R24). -/
def Dev.pageBusy (d : Dev) (p : Nat) : Bool :=
  match p with
  | 0 => d.norBusy || d.sys.imgJob.isSome || d.sys.ucJob.isSome
  | 1 => d.cmt.state == .checking || d.cmt.state == .armed || d.cmt.state == .quiescing || d.cmt.state == .firing
  | 4 => d.rst.authJob.isSome || d.rst.lcReset.isSome
  | 7 => d.qry.sweeping.isSome
  | 8 => radBusy d
  | 9 => rmcBusy d
  | 10 => plcBusy d
  | 14 => fbBusy d 0
  | 15 => fbBusy d 1
  | 16 => fbBusy d 2
  | 17 => fbBusy d 3
  | 19 => ingBusy d
  | 20 => epcBusy d
  | 21 => d.trf.job.isSome
  | 22 => objBusy d
  | 23 => balBusy d
  | 24 => dstBusy d
  | 25 => keyBusy d
  | 26 => recBusy d
  | 27 => redBusy d
  | 28 => dspBusy d
  | 29 => d.io.initBusy
  | 30 => !(d.io.nvsWait ++ d.io.outstanding).isEmpty
  | _ => false

/-- A page that drains is drained (R44, R380). -/
def Dev.drained (d : Dev) (p : Nat) : Bool :=
  match p with
  | 7 => d.qry.drain.all fun e => decide (d.occ e.1 ≤ e.2)
  | 8 => !d.txOn 0
  | 9 => !d.txOn 0
  | 10 => !d.txOn 1
  | 20 =>
    match d.epc.state with
    | .finalise => false
    | .hash => !d.setFree d.epc.nextSet
    | _ => true
  | 21 => true
  | 22 => d.obj.group.isNone
  | 23 => !d.bal.mapBusy && d.bal.susp.isEmpty
  | 24 => d.dst.due.isEmpty
  | 25 => !d.key.l0Busy
  | 30 => d.io.outstanding.isEmpty
  | _ => !d.pageBusy p

/-- The load of page p that step 9 sees: a page that a quiesce holds drained has none (R38, R44). -/
def Dev.loaded (d : Dev) (p : Nat) : Bool := d.pageBusy p && !(d.drains p && d.drained p)

/-! ## Items -/

/-- A failing item: the word's live address, what CMT_CHECK_ADDR takes, and what CMT_CHECK_ITEM takes. -/
structure Finding where
  key : Nat
  addr : Nat
  item : Nat
  deriving DecidableEq, Repr

/-- The operation class or channel that a page register names (R32). -/
def itemOf (a : Nat) : Nat :=
  if PWR_CLS_CFG 0 ≤ a ∧ a < PWR_CLS_CFG 16 then (a - PWR_CLS_CFG 0) / 0x10
  else if TIM_CMP_CFG 0 ≤ a ∧ a < TIM_CMP_CFG 16 then (a - TIM_CMP_CFG 0) / 0x20
  else if TIM_CAP_CFG 0 ≤ a ∧ a < TIM_CAP_CFG 8 then (a - TIM_CAP_CFG 0) / 0x10
  else 0

/-- An item at a word. -/
def at' (a : Nat) : Finding :=
  match regionOf a with
  | .queue q off _ => { key := a, addr := a - off, item := q }
  | .lane n off _ => { key := a, addr := a - off, item := n }
  | _ => { key := a, addr := a, item := itemOf a }

/-- An item at a word that names a land, channel, class or queue of its own. -/
def atItem (a i : Nat) : Finding := { key := a, addr := a, item := i }

/-- The item of the lowest live address, the first of equals (R36). -/
def lowest (l : List Finding) : Option Finding :=
  l.foldl (fun b f => match b with | none => some f | some x => if f.key < x.key then some f else some x) none

/-- An item where a test fails. -/
def bad (c : Bool) (f : Finding) : List Finding := if c then [f] else []

/-! ## Step 1 (R326, R333) -/

def Dev.checkLife (d m : Dev) : List Finding :=
  bad (d.reg.dirty.contains RST_LC_NEXT && m.fld RST_LC_NEXT 2 0 != d.lc && !d.lcAllowed d.cmt.owner (m.fld RST_LC_NEXT 2 0))
    (at' RST_LC_NEXT) ++
  bad (d.reg.dirty.contains SYS_WDT_CFG && !m.bit SYS_WDT_CFG 31 && d.lc == 3) (at' SYS_WDT_CFG)

/-! ## Step 2 -/

/-- A field lies in its range. -/
def FieldRange.admits (f : FieldRange) (v : Nat) : Bool :=
  let n := bitsOf v f.hi f.lo
  let x : Int := if f.signed then sext (f.hi + 1 - f.lo) n else (n : Int)
  (f.zeroOk && n == 0) || (decide (f.min ≤ x) && decide (x ≤ f.max))

/-- A word lies in the ranges of its register, and a base is aligned. -/
def RegDesc.admits (r : RegDesc) (v : Nat) : Bool := r.ranges.all (fun f => f.admits v) && v % r.align == 0

/-- Channels of RAD_PHY (R177, R178). -/
def channelCount (phy : Nat) : Nat :=
  let wide := decide (2 ≤ phy % 8)
  match bitsOf phy 17 16 with
  | 0 => if wide then 32 else 64
  | 1 => if wide then 64 else 128
  | _ => if wide then 18 else 37

/-- Words of entries 0 to 3 of a byte each. -/
def byteOf (w j : Nat) : Nat := bitsOf w (8 * j + 7) (8 * j)

/-- Channel numbers at or above the count (R178). -/
def Dev.checkChannels (m : Dev) : List Finding :=
  let n := channelCount (m.rd RAD_PHY)
  bad (decide (n ≤ m.fld RAD_FIX_CH 6 0)) (at' RAD_FIX_CH) ++
  (List.range 32).flatMap (fun i => bad ((List.range 4).any fun j => decide (n ≤ byteOf (m.rd (RMC_HOP i)) j)) (at' (RMC_HOP i))) ++
  (m.lanesBy fun w => bitsOf w 3 0 == 1).flatMap fun l =>
    (List.range 4).flatMap fun i => bad (decide (2 ^ (n - 32 * i) ≤ m.rd (LN_CHMAP l i))) (at' (LN_CHMAP l i))

/-- Lane entries: reserved links and kinds, the supervision timer, the channel map (R188, R191, R197, R223). -/
def Dev.checkLanes (m : Dev) : List Finding :=
  (m.lanesBy fun w => let k := bitsOf w 3 0
    k == 4 || decide (11 ≤ k) || ((k == 1 || k == 2) && (decide (3 < bitsOf w 7 4) || (k == 2 && bitsOf w 7 4 == 2))) ||
      ((k == 3 || k == 5) && decide (2 < bitsOf w 7 4))).map (fun l => at' (LN_CFG l)) ++
  (m.lanesBy fun w => bitsOf w 3 0 == 1 && bitsOf w 7 4 == 1).flatMap fun l =>
    bad (decide (m.fld (LN_CONN l) 24 16 * 100 ≤ 2 * m.fld (LN_CONN l) 9 0 * 16)) (at' (LN_CONN l)) ++
    bad (decide ((List.range 4).foldl (fun s i => s + popcount 32 (m.rd (LN_CHMAP l i))) 0 < 2)) (at' (LN_CHMAP l 0))

/-- The budgets of a class match its kind (R315). -/
def Dev.checkClass (m : Dev) (c : Nat) : List Finding :=
  let w := m.rd (PWR_CLS_CFG c)
  match classKind c with
  | .static => bad (bitsOf w 27 16 != 0) (atItem (PWR_CLS_CFG c) c)
  | .try' => bad (bitsOf w 15 4 != 0) (atItem (PWR_CLS_CFG c) c)
  | .queued => bad (bitsOf w 15 4 != 0) (atItem (PWR_CLS_CFG c) c) ++
      bad (m.fld (PWR_CLS_MAX c) 23 0 == 0) (atItem (PWR_CLS_MAX c) c)

/-- The first grey level that is not above the one before it (R349). -/
def Dev.checkGrey (m : Dev) : List Finding :=
  match (List.range 14).find? (fun i => decide (m.fld (DSP_GREY (i + 1)) 11 0 ≤ m.fld (DSP_GREY i) 11 0)) with
  | some i => [at' (DSP_GREY (i + 1))]
  | none => []

/-- The staged words, and the ranges that tie several fields. DEDUCED: a live word was in range when it was staged, so
only dirty words are tested against the range of their own fields. -/
def Dev.checkRange (d m : Dev) : List Finding :=
  d.reg.dirty.flatMap (fun a => match m.descAt a with
    | some (r, _) => bad (!r.admits (m.rd a)) (at' a)
    | none => []) ++
  (List.range 4).flatMap (fun i => bad ((List.range 8).any fun j => decide (9 < bitsOf (m.rd (PIN_FUNC i)) (4 * j + 3) (4 * j)))
    (at' (PIN_FUNC i))) ++
  [PIN_PULL_LO, PIN_PULL_HI].flatMap (fun a => bad ((List.range 16).any fun j => bitsOf (m.rd a) (2 * j + 1) (2 * j) == 3) (at' a)) ++
  ((List.range 15).flatMap fun c => m.checkClass (c + 1)) ++
  m.checkChannels ++ m.checkLanes ++
  bad (m.bit (RMC_RSV 0) 15) (at' (RMC_RSV 0)) ++
  bad (decide (m.fld RMC_CSMA 7 4 < m.fld RMC_CSMA 3 0)) (at' RMC_CSMA) ++
  bad (decide (m.fld PLC_CSMA 7 4 < m.fld PLC_CSMA 3 0)) (at' PLC_CSMA) ++
  (let n := if m.bit PLC_PHY 0 then 17 else 9
   bad (decide (2 ^ n ≤ m.rd PLC_TONE_MASK) || decide (n - popcount n (m.rd PLC_TONE_MASK) < 3)) (at' PLC_TONE_MASK)) ++
  bad (decide (m.fld TRK_HELLO 15 8 ≤ m.fld TRK_HELLO 7 0)) (at' TRK_HELLO) ++
  bad (m.role == 0 && decide (18 < m.fld ING_HASH_CFG 4 0)) (at' ING_HASH_CFG) ++
  (List.range 6).flatMap (fun n => bad (decide (2 ≤ m.fld (ING_IN_CFG n) 9 8)) (at' (ING_IN_CFG n))) ++
  m.checkGrey ++
  (List.range 512).flatMap (fun l => bad (m.bit (QRY_Q_CFG (2 * l)) 1 && m.fld (QRY_Q_CFG (2 * l)) 11 4 == 0) (at' (QRY_Q_CFG (2 * l))))

/-! ## Step 3 (R46, R48, R51, R73, R93, R111, R144, R157, R216) -/

/-- The blocks that HEAD_END disables (R10). -/
def headEndOff : List Nat := [8, 9, 10, 14, 15, 16, 17]

def Dev.checkRole (d m : Dev) : List Finding :=
  let field := m.role == 0
  let head := m.role == 1
  bad (field && m.bit RED_CTRL 0) (at' RED_CTRL) ++
  (if head then headEndOff.flatMap fun p => bad (d.en p) (at' (PG_CTRL p)) else []) ++
  (if head then (List.range 32).flatMap fun n =>
    let f := m.pinFunc n
    bad (f == 4 || f == 5 || f == 7) (atItem (PIN_FUNC (n / 8)) n) else []) ++
  bad (field && m.fld (ING_IN_CFG 7) 4 0 != 0) (at' (ING_IN_CFG 7)) ++
  bad (head && m.fld (ING_IN_CFG 6) 4 0 != 0) (at' (ING_IN_CFG 6)) ++
  bad (field && m.bit EPC_EPOCH_CFG 16) (at' EPC_EPOCH_CFG) ++
  bad (field && m.fld TRF_CFG 1 0 != 0) (at' TRF_CFG) ++
  bad (field && m.fld BAL_CFG 1 0 != 0) (at' BAL_CFG) ++
  bad (head && m.fld DST_CFG 1 0 != 0) (at' DST_CFG) ++
  bad (field && m.bit TRK_CFG 0) (at' TRK_CFG) ++
  bad (m.role == 2 && decide (64 < m.fld TRK_MAX_STN 10 0)) (at' TRK_MAX_STN)

/-! ## Step 4 -/

/-- Time t is a boundary of the epoch grid in force in a device (R74, R76). -/
def Dev.onGrid (d : Dev) (t : Nat) : Bool := decide (d.origin ≤ t) && (t - d.origin) % d.epochLen == 0

/-- Time t is a superframe start, and a nominal beacon instant of the power line. -/
def Dev.onSuperframe (d : Dev) (t : Nat) : Bool :=
  decide (d.rd64 RMC_SF_ORIGIN_LO ≤ t) && (t - d.rd64 RMC_SF_ORIGIN_LO) % sfNs == 0
def Dev.onPlcBeacon (d : Dev) (t : Nat) : Bool :=
  decide (d.rd64 PLC_BCN_ORIGIN_LO ≤ t) &&
    (t - d.rd64 PLC_BCN_ORIGIN_LO) % (max 1 (d.fld PLC_BCN 4 0) * 1024000000) == 0

/-- The registers tied to the fire tick, each group with its instants (R39, R76, R129, R181, R205). -/
def tiedRegs : List (List Nat × (Dev → Nat → Bool)) :=
  [([RMC_SF_ORIGIN_LO, RMC_SF_ORIGIN_HI], Dev.onSuperframe),
   ([PLC_BCN_ORIGIN_LO, PLC_BCN_ORIGIN_HI], Dev.onPlcBeacon),
   ([EPC_EPOCH_CFG, EPC_ORIGIN_LO, EPC_ORIGIN_HI, EPC_SIGN_SLOT], Dev.onGrid),
   ([BAL_TBL_BASE_LO, BAL_TBL_BASE_HI, BAL_MEMBER_CAP], Dev.onGrid)]

/-- The set changes one of some registers. -/
def Dev.changes (d m : Dev) (l : List Nat) : List Nat := l.filter fun a => d.rd a != m.rd a

/-- AT_REQ: the set holds a register tied to the fire tick (R39). -/
def Dev.atReq (d m : Dev) : Bool := tiedRegs.any fun g => !(d.changes m g.1).isEmpty

/-- Registers tied to the fire tick whose target is no such instant under the live and the staged values. -/
def Dev.checkTied (d m : Dev) (t : Nat) : List Finding :=
  tiedRegs.flatMap fun g =>
    match (d.changes m g.1).head? with
    | none => []
    | some a => bad (!(g.2 d t && g.2 m t)) (at' a)

/-- A slot that is VALID, of one of some algorithms and of a usage. -/
def Dev.slotIs (d : Dev) (n : Nat) (algs : List Nat) (usage : Nat) : Bool :=
  (d.slot n).st == 1 && algs.contains (d.slot n).alg && (d.slot n).usage == usage

/-- Enabled lanes of a link and kind. -/
def Dev.lanesOf (m : Dev) (link kind : Nat) : List Nat :=
  m.lanesBy fun w => bitsOf w 3 0 == link && bitsOf w 7 4 == kind && w.testBit 8

/-- A link needs exactly one lane of a kind, or has at most one: reported at the first lane too many, or at the link's
PG_CTRL where one is missing. -/
def Dev.exactlyOne (m : Dev) (link kind p : Nat) : List Finding :=
  match m.lanesOf link kind with
  | [] => [at' (PG_CTRL p)]
  | [_] => []
  | _ :: l :: _ => [at' (LN_CFG l)]
def Dev.atMostOne (m : Dev) (link kind : Nat) : List Finding :=
  match m.lanesOf link kind with
  | _ :: l :: _ => [at' (LN_CFG l)]
  | _ => []

/-- RAD, RMC and their lanes (R183, R188, R196). -/
def Dev.checkRadio (d m : Dev) : List Finding :=
  let sec := m.bit RMC_BCN_SEC 8
  let phy := m.rd RAD_PHY
  let octets := bitsOf phy 13 8 + 34 + (if phy.testBit 3 then 4 else 2) + (if sec then 8 else 0)
  bad (decide (14000000 < radOctets (phy % 8) octets)) (at' RAD_PHY) ++
  bad (sec && !d.slotIs (m.fld RMC_BCN_SEC 7 0) [0] 0) (at' RMC_BCN_SEC) ++
  ((List.range 64).flatMap fun s =>
    let e := bitsOf (m.rd (RMC_RSV (s / 2))) (16 * (s % 2) + 15) (16 * (s % 2))
    bad (decide (m.fld RMC_SLOT_SPLIT 6 0 ≤ s) && e.testBit 15 && !(m.lanesOf 1 1).contains (e % 512)) (at' (RMC_RSV (s / 2)))) ++
  if d.en pRMC then
    bad (!d.en pRAD) (at' (PG_CTRL pRMC)) ++ m.exactlyOne 1 0 pRMC ++ m.atMostOne 1 2 ++ m.atMostOne 1 3
  else []

/-- The other links (R52, R214, R216, R223, R225, R235). -/
def Dev.checkLinks (d m : Dev) : List Finding :=
  bad (m.bit PLC_BCN 9 && !d.slotIs (m.fld PLC_BCN 23 16) [0] 0) (at' PLC_BCN) ++
  bad (m.fld PLC_ZC_MODE 1 0 != 0 && !((List.range 8).any fun n => m.fld (TIM_CAP_CFG n) 2 0 == 2)) (at' PLC_ZC_MODE) ++
  (if d.en pPLC then m.exactlyOne 2 0 pPLC ++ m.atMostOne 2 3 else []) ++
  (if d.en pTRK0 then m.exactlyOne 3 0 pTRK0 ++ m.atMostOne 3 2 else []) ++
  (if d.en pUPL then m.exactlyOne 5 0 pUPL else []) ++
  (if m.bit UPL_MGMT 16 then (match m.lanesOf 5 2 with | [_] => [] | _ => [at' UPL_MGMT]) else []) ++
  (List.range 4).flatMap fun n =>
    if d.en (pFB n) || d.reg.dirty.contains (FB_LANE n) then
      let w := m.rd (LN_CFG (m.fld (FB_LANE n) 8 0))
      bad (!(bitsOf w 3 0 == 6 + n && w.testBit 8)) (at' (FB_LANE n))
    else []

/-- TIM (R52, R254). -/
def Dev.checkTim (m : Dev) : List Finding :=
  let mode := m.fld TIM_CORR 1 0
  bad ((mode == 1 || mode == 2) && m.fld TIM_CORR 3 2 == 0 && !((List.range 8).any fun n => m.fld (TIM_CAP_CFG n) 2 0 == 1))
    (at' TIM_CORR) ++
  bad (decide (m.fld TIM_SERVO 13 8 ≤ m.fld TIM_SERVO 5 0)) (at' TIM_SERVO) ++
  bad (m.bit TIM_PPS_OUT 4 && m.bit (TIM_CMP_CFG (m.fld TIM_PPS_OUT 3 0)) 0) (atItem TIM_PPS_OUT (m.fld TIM_PPS_OUT 3 0))

/-- The data engines (R73, R87, R94, R97, R105, R118, R129, R144, R157). -/
def Dev.checkEngines (d m : Dev) : List Finding :=
  let seals := m.bit EPC_EPOCH_CFG 16
  let sign := m.fld EPC_SIGN_SLOT 7 0
  bad (m.fld ING_EXC_CFG 4 0 == 0 && (List.range 8).any fun n => m.fld (ING_IN_CFG n) 4 0 != 0) (at' ING_EXC_CFG) ++
  bad (seals && !(d.slotIs sign [2] 0 && (d.slot sign).origin == 1)) (at' EPC_SIGN_SLOT) ++
  bad (seals && decide (m.rd EPC_SET_CAP < m.rd EPC_WORK_CAP + 65536)) (at' EPC_SET_CAP) ++
  bad (m.bit TRF_CFG 1 && !seals) (at' TRF_CFG) ++
  bad (m.bit TRF_CFG 0 && m.rd64 TRF_SCHED_BASE_LO != d.rd64 TRF_TBL_OK_LO) (at' TRF_SCHED_BASE_LO) ++
  bad (m.rd64 OBJ_RIGHTS_BASE_LO != 0 && m.rd64 OBJ_RIGHTS_BASE_LO != d.rd64 OBJ_TBL_OK_LO) (at' OBJ_RIGHTS_BASE_LO) ++
  bad (m.bit BAL_CFG 0 && !seals) (at' BAL_CFG) ++
  bad (m.rd BAL_CFG != 0 && (m.rd64 BAL_TBL_BASE_LO != d.rd64 BAL_TBL_OK_LO || m.rd BAL_MEMBER_CAP != d.rd BAL_TBL_OK_CAP))
    (at' BAL_TBL_BASE_LO) ++
  bad ((m.bit DST_CFG 0 && !(m.lanesOf 1 3).contains (m.fld DST_CFG 16 8)) ||
       (m.bit DST_CFG 1 && !(m.lanesOf 2 3).contains (m.fld DST_CFG 25 17))) (at' DST_CFG)

/-- KEY and RED (R276, R300). -/
def Dev.checkKeys (d m : Dev) : List Finding :=
  let off := fun (n : Nat) (algs : List Nat) (u : Nat) => n != 0xFF && !d.slotIs n algs u
  bad (off (m.fld KEY_CFG 7 0) [1] 2) (at' KEY_CFG) ++
  bad (off (m.fld KEY_LINK 7 0) [0, 1] 0 || off (m.fld KEY_LINK 15 8) [0, 1] 1 || off (m.fld KEY_LINK 23 16) [0, 1] 1) (at' KEY_LINK) ++
  (if m.bit RED_CTRL 0 then
    bad (!(d.slotIs (m.fld RED_KEY 7 0) [0, 1] 0 && d.slotIs (m.fld RED_KEY 15 8) [0, 1] 1)) (at' RED_KEY) ++
    bad (outside (m.rd64 RED_MIRROR_BASE_LO) (m.fld RED_MIRROR_CFG 12 0 * 0x100000)) (at' RED_MIRROR_BASE_LO)
  else [])

/-- A frame buffer lies wholly in core SRAM or DRAM. -/
def bufferOk (a : Nat) : Bool :=
  inDram a 3072 || (decide (0x10000000 ≤ a) && decide (a + 3072 ≤ 0x10400000))

/-- The panel, in the order of R348. -/
def Dev.checkPanel (m : Dev) : List Finding :=
  let hz := m.fld DSP_RATE 6 0
  if hz = 0 then []
  else
    let row := frameCycles hz / m.fld DSP_GEOM 13 8
    if row < m.fld DSP_PHASE 7 0 + m.fld (DSP_GREY 14) 11 0 + m.fld DSP_PHASE 15 8 then [at' DSP_RATE]
    else if !bufferOk (m.rd64 DSP_FB0_BASE_LO) then [at' DSP_FB0_BASE_LO]
    else if !bufferOk (m.rd64 DSP_FB1_BASE_LO) then [at' DSP_FB1_BASE_LO]
    else bad (decide (bitsOf (m.rd (PWR_CLS_CFG 14)) 15 4 < panelPmax m.rd)) (atItem (PWR_CLS_CFG 14) 14)

/-- The pages whose words are configuration by time-stamp, and SYS_CAL (R42, R332). -/
def byGeneration (a : Nat) : Bool :=
  a == SYS_CAL || (match regionOf a with | .page p _ => decide (0x13 ≤ p) && decide (p ≤ 0x18) | _ => false)

/-- Four generations are held, the present one among them (DEDUCED: R42 does not say whether it counts). -/
def genLimit : Nat := 3

def Dev.checkDep (d m : Dev) (t : Nat) : List Finding :=
  let big := m.role == 1 || m.role == 2
  bad (big && !(d.io.linkUp && decide (64 ≤ d.io.driveGb))) (at' SYS_ROLE) ++
  bad (m.role == 0 && d.role != 0 && decide (65536 < m.rd ING_REG_HWM)) (at' SYS_ROLE) ++
  bad (d.reg.dirty.contains SYS_CAL && m.bit SYS_CAL 0 && !d.overlayOk) (at' SYS_CAL) ++
  bad (d.reg.dirty.any byGeneration && decide (genLimit ≤ d.cmt.gens.length)) (atItem CMT_GEN 0) ++
  ((List.range 15).flatMap fun c => bad (!m.bit (PWR_CLS_CFG (c + 1)) 0 && (classPages (c + 1)).any d.en)
    (atItem (PWR_CLS_CFG (c + 1)) (c + 1))) ++
  bad (big && m.fld CLK_CFG 1 0 != 0) (at' CLK_CFG) ++
  ((List.range 4).flatMap fun n => bad (m.pinFunc (20 + n) == 7 && !d.en (pFB n)) (atItem (PIN_FUNC ((20 + n) / 8)) (20 + n))) ++
  d.checkTied m t ++ d.checkRadio m ++ d.checkLinks m ++ m.checkTim ++ d.checkEngines m ++ d.checkKeys m ++ m.checkPanel

/-! ## Steps 5 to 8 -/

/-- The lands that carry a function (R50). -/
def landCarries (f n : Nat) : Bool :=
  match f with
  | 0 => true
  | 1 => decide (n < 16)
  | 2 => decide (n < 16)
  | 3 => decide (n < 16)
  | 4 => n == 16
  | 5 => n == 17 || n == 18
  | 6 => n == 19
  | 7 => decide (20 ≤ n) && decide (n ≤ 23)
  | 8 => n == 30
  | 9 => n == 31
  | _ => false

def Dev.checkPins (d m : Dev) : List Finding :=
  (List.range 32).flatMap fun n =>
    let f := m.pinFunc n
    bad (!landCarries f n || ((f == 8 || f == 9) && !d.dbgOn)) (atItem (PIN_FUNC (n / 8)) n)

/-- The claims on compare (true) and capture (false) channels, in ascending address of their naming field (R52). -/
def Dev.claims (m : Dev) : List (Nat × Bool × Nat) :=
  ((List.range 32).filterMap fun n =>
    if m.pinFunc n = 1 then some (PIN_ARG (n / 4), true, m.pinArg n % 16)
    else if m.pinFunc n = 2 then some (PIN_ARG (n / 4), false, m.pinArg n % 8) else none) ++
  (if m.bit TIM_PPS_OUT 4 then [(TIM_PPS_OUT, true, m.fld TIM_PPS_OUT 3 0)] else []) ++
  (List.range 8).filterMap fun n => if m.fld (TIM_CAP_CFG n) 2 0 != 0 then some (TIM_CAP_CFG n, false, n) else none

/-- The first claim on a channel that an earlier claim has named. -/
def claimTwice : List (Bool × Nat) → List (Nat × Bool × Nat) → Option Finding
  | _, [] => none
  | seen, (a, k, n) :: t => if seen.contains (k, n) then some (atItem a n) else claimTwice ((k, n) :: seen) t

/-- The queue whose reserve first takes the running sum past the quarry (R392). -/
def reserveOver (rsv : Nat → Nat) : Nat → Nat → Nat → Option Nat
  | 0, _, _ => none
  | fuel + 1, q, sum => if quarryCells < sum + rsv q then some q else reserveOver rsv fuel (q + 1) (sum + rsv q)

def Dev.checkQuarry (m : Dev) : Option Finding :=
  match (List.range 1024).find? (fun q => decide (m.rd (QRY_Q_QUOTA q) < m.rd (QRY_Q_RESERVE q))) with
  | some q => some (atItem (QRY_Q_QUOTA q) q)
  | none => (reserveOver (fun q => m.rd (QRY_Q_RESERVE q)) 1024 0 0).map fun q => atItem (QRY_Q_RESERVE q) q

def Dev.checkBudget (m : Dev) : Option Finding :=
  let c := m.fld PWR_CEIL 15 0
  if c ≠ 0 ∧ (c < roleMin m.role ∨ roleMax m.role < c) then some (atItem PWR_CEIL 0)
  else if m.ceiling < m.staticSum then some (atItem PWR_CEIL 0xFFFF)
  else none

/-! ## Step 9 -/

/-- The condition of a register that is quiesce-required under one of its own. -/
def Dev.condHolds (d : Dev) (a : Nat) : Bool :=
  match drainPage a with
  | 19 => if a < ING_EXC_BASE_LO then d.inCount ((a - ING_IN_BASE_LO 0) / 0x20) != 0 else d.excCount != 0
  | 20 => d.expCount != 0
  | 21 => d.rd64 TRF_PEND_CLOSE_LO != 0
  | 22 =>
    if a < OBJ_RSP_BASE_LO then d.rd OBJ_REQ_PROD != d.rd OBJ_REQ_CONS
    else if a < OBJ_AUD_BASE_LO then d.rd OBJ_RSP_PROD != d.rd OBJ_RSP_CONS
    else d.rd OBJ_AUD_PROD != d.rd OBJ_AUD_CONS
  | 23 => if a < BAL_SUSP_BASE_LO then d.rd BAL_SAMP_PROD != d.rd BAL_SAMP_CONS else d.rd BAL_SUSP_PROD != d.rd BAL_SUSP_CONS
  | 25 => d.jobCount ((a - KEY_JOB_CFG 0) / 0x20) != 0
  | 27 => d.paired
  | 30 => d.loaded 30
  | _ => false

/-- The page of each engine's microcode (R331). -/
def ucPages : List Nat := [9, 10, 19, 20, 21, 23, 22, 24]

/-- The data engines whose pipelines are not empty (R46). -/
def Dev.enginesLoaded (d : Dev) : List Nat := [19, 20, 21, 22, 23, 24].filter d.loaded

/-- The pages that a staged word cannot be applied without draining; none where it is atomic (R36, R46, R168, R274, R331). -/
def Dev.needsDrain (d m : Dev) (a : Nat) : List Nat :=
  if a = SYS_ROLE then (if m.role = d.role then [] else d.enginesLoaded)
  else if a = SYS_UC_SEL then
    (List.range 8).filterMap fun e =>
      let p := ucPages.getD e 0
      if m.bit a e != d.bit a e && d.loaded p then some p else none
  else if a = RST_LC_NEXT then (if m.fld a 2 0 ≠ d.lc ∧ d.loaded pKEY then [pKEY] else [])
  else match regionOf a with
    | .queue q 0 _ => if m.rd a < d.occ q then [pQRY] else []
    | .queue q 8 _ => if !(m.rd a).testBit 0 && 0 < d.occ q then [pQRY] else []
    | .page p _ =>
      match d.descAt a with
      | none => []
      | some (r, _) =>
        if (r.marks.contains .quiesce && d.loaded p) || (r.marks.contains .quiesceCond && d.condHolds a) then [p] else []
    | _ => []

/-- Every staged word that needs draining, with its pages. -/
def Dev.checkLoad (d m : Dev) : List (Finding × List Nat) :=
  d.reg.dirty.filterMap fun a => match d.needsDrain m a with | [] => none | ps => some (at' a, ps)

/-! ## The check -/

/-- What a check stores. -/
structure CheckOut where
  result : Nat := 0
  step : Nat := 0
  addr : Nat := 0
  item : Nat := 0
  atReq : Bool := false
  need : Nat := 0
  deriving DecidableEq, Repr

/-- Step n with a result fails at an item. -/
def CheckOut.fail (n result : Nat) (f : Finding) (atReq : Bool) : CheckOut :=
  { result := result, step := n, addr := f.addr, item := f.item, atReq := atReq }

/-- Step 9, which runs to the end. -/
def Dev.stepLoad (d m : Dev) (atReq : Bool) : CheckOut :=
  let l := d.checkLoad m
  let need := l.foldl (fun n x => x.2.foldl (fun n p => n ||| 2 ^ p) n) 0
  match lowest (l.map (·.1)) with
  | none => { atReq := atReq }
  | some f => { CheckOut.fail 9 5 f atReq with need := need }

/-- Steps 7 to 9, which the recheck of R38 evaluates again. -/
def Dev.checkTail (d m : Dev) (atReq : Bool) : CheckOut :=
  match m.checkQuarry with
  | some f => .fail 7 3 f atReq
  | none => match m.checkBudget with
    | some f => .fail 8 4 f atReq
    | none => d.stepLoad m atReq

/-- The check (R36): t is the target as it stood when CHECK was written. An empty set is OK (R35). -/
def Dev.check (d : Dev) (t : Nat) : CheckOut :=
  if d.reg.dirty.isEmpty then {}
  else
    let m := d.merged
    match lowest (d.checkLife m) with
    | some f => .fail 1 9 f false
    | none => match lowest (d.checkRange m) with
      | some f => .fail 2 6 f false
      | none => match lowest (d.checkRole m) with
        | some f => .fail 3 7 f false
        | none =>
          let ar := d.atReq m
          match lowest (d.checkDep m t) with
          | some f => .fail 4 8 f ar
          | none => match (d.checkPins m).head? with
            | some f => .fail 5 1 f ar
            | none => match claimTwice [] m.claims with
              | some f => .fail 6 2 f ar
              | none => d.checkTail m ar

/-- The recheck (R38): steps 7 to 9 against the load of the moment. -/
def Dev.recheck (d : Dev) (atReq : Bool) : CheckOut := if d.reg.dirty.isEmpty then { atReq := atReq } else d.checkTail d.merged atReq

end Sys2Proof.Machine
end

