-- ==== Sys2Proof/Machine/KeystoneOps.lean ====
section
/-!
DEFINITION. The keystone beyond its check: staging and its owner (R30, R31), the CMT registers and commands (R32, R33), arming,
drain, recheck and fire (R37 to R44, R381, R382), and RESTORE_FACTORY (R332).
-/
namespace Sys2Proof.Machine

/-! ## Staging (R7, R23, R30, R31) -/

/-- The live address that a shadow address stages. -/
def liveOf (a : Nat) : Option Nat :=
  match regionOf a with
  | .page _ off => if 0x900 ≤ off ∧ off < 0xF00 then some (a - 0x800) else none
  | .queue _ _ true => some (a - 0x80000)
  | .lane _ _ true => some (a - 0x80000)
  | _ => none

/-- The register of class S at a live address. A lane entry's staged layout goes by its merged LINK (DEDUCED). -/
def Dev.stagedDesc (d : Dev) (a : Nat) : Option RegDesc :=
  let r := match regionOf a with
    | .page p off => if off < 0x100 ∨ 0x700 ≤ off then none else findDesc off (pageRegs p)
    | .queue _ off _ => findDesc off regsQueue
    | .lane n off _ => findDesc off (laneRegs (bitsOf (d.mrd (LN_CFG n)) 3 0))
    | _ => none
  match r with
  | some (r, _) => if r.cls == .s && a != PWR_CLS_CFG 0 then some r else none
  | none => none

/-- A staged value as it is stored: implemented bits alone; the KIND of input rings 6 and 7 is fixed (R73), and the odd queue of a
lane stages only EN (R175). -/
def stageMask (r : RegDesc) (a v : Nat) : Nat :=
  let v := v &&& r.mask
  match regionOf a with
  | .queue q 8 _ => if q % 2 = 1 then v % 2 else v
  | _ => if a = ING_IN_CFG 6 then setFld v 9 8 2 else if a = ING_IN_CFG 7 then setFld v 9 8 3 else v

/-- The set is locked: a check runs, or a keystone is armed (R33). -/
def Dev.setLockedKs (d : Dev) : Bool :=
  d.cmt.state == .checking || d.cmt.state == .armed || d.cmt.state == .quiescing || d.cmt.state == .firing

/-- Another requester owns the staged set (R31). -/
def Dev.othersSet (d : Dev) (r : Requester) : Bool := match d.cmt.owner with | none => false | some o => o != r

/-- CHECKED falls back to STAGING: result, STEP and AT_REQ cleared, IN_SET cleared (R33). -/
def Dev.uncheck (d : Dev) : Dev :=
  ({ d with cmt := { d.cmt with state := .staging, entered := d.time.ticks, inSet := 0 } } : Dev).wr CMT_CHECK_RESULT 0

/-- An accepted shadow write or CLAIM by r: r owns the set, which is in STAGING (R31, R33). -/
def Dev.ownSet (d : Dev) (r : Requester) : Dev :=
  let d := { d with cmt := { d.cmt with owner := some r, lastAccess := d.time.ticks } }
  match d.cmt.state with
  | .idle => { d with cmt := { d.cmt with state := .staging, entered := d.time.ticks } }
  | .checked => d.uncheck
  | _ => d

/-- Put a number into a rising list without repeats. -/
def putRising (n : Nat) (l : List Nat) : List Nat := insertNat n (l.filter (· != n))

/-- Store a staged word and set its dirty flag. -/
def Dev.stageStore (d : Dev) (r : RegDesc) (a v : Nat) : Dev :=
  let d := d.wrShadow a (stageMask r a v)
  { d with reg := { d.reg with dirty := putRising a d.reg.dirty } }

/-- A held _LO word at an address, taken out. -/
def Dev.takeLo (d : Dev) (a : Nat) : Option Nat × Dev :=
  match d.reg.loHeld.find? (fun e => e.1 == a) with
  | none => (none, d)
  | some e => (some e.2.toNat, { d with reg := { d.reg with loHeld := d.reg.loHeld.filter fun x => x.1 != a } })

/-- A _LO word held at an address (R7). -/
def Dev.holdLo (d : Dev) (a v : Nat) : Dev :=
  { d with reg := { d.reg with loHeld := RegMap.put d.reg.loHeld a (BitVec.ofNat 32 v) } }

/-- A write of v by r to the shadow of the S register r at live address a. -/
def Dev.stageWrite (d : Dev) (who : Requester) (r : RegDesc) (a v : Nat) : WriteRes :=
  if d.setLockedKs || d.othersSet who then .refuse COMMIT_LOCK
  else
    let d := d.ownSet who
    if r.marks.contains .lo then .done (d.holdLo a v)
    else if r.marks.contains .hi then
      match d.takeLo (a - 4), d.stagedDesc (a - 4) with
      | (some lo, d), some rl => .done ((d.stageStore rl (a - 4) lo).stageStore r a v)
      | (_, d), _ => .done (d.stageStore r a v)
    else .done (d.stageStore r a v)

/-- A read of a shadow: its staged value, and the live one of a clean shadow (R30). -/
def Dev.stagedRead (d : Dev) (a : Nat) : Nat :=
  if a = RST_LC_NEXT ∧ !d.reg.dirty.contains a then d.lc else d.mrd a

/-- Every shadow is reloaded from its live value, and the owner released (R30, R31). -/
def Dev.discardSet (d : Dev) : Dev :=
  let d := d.each d.reg.dirty fun d a => d.wrShadow a (d.rd a)
  { d with reg := { d.reg with dirty := [], loHeld := d.reg.loHeld.filter fun e => (d.stagedDesc e.1).isNone }
           cmt := { d.cmt with state := .idle, owner := none, inSet := 0 } }

/-! ## Commands of CMT_CTRL (R32, R33) -/

/-- The state is STAGING or CHECKED. -/
def Dev.setOpen (d : Dev) : Bool := d.cmt.state == .staging || d.cmt.state == .checked

/-- The target of CMT_FIRE_WRAP and CMT_FIRE_NS as an extended time. -/
def Dev.fireTarget (d : Dev) : Nat := d.rd CMT_FIRE_WRAP * 2 ^ 32 + d.rd CMT_FIRE_NS

/-- The owner's CMT command counts as an access (R33). -/
def Dev.touchSet (d : Dev) : Dev := { d with cmt := { d.cmt with lastAccess := d.time.ticks } }

/-- SEC acts on a set that another owns, and becomes its owner (R31). -/
def Dev.secTakes (d : Dev) (r : Requester) : Dev :=
  if d.cmt.owner.isSome && r.role == .sec then { d with cmt := { d.cmt with owner := some r } } else d

def Dev.cmdCheck (d : Dev) : Dev :=
  { d with cmt := { d.cmt with state := .checking, inSet := d.dirtyPages, checkTarget := d.fireTarget, targetMoved := false } }

def Dev.cmdRelease (d : Dev) : Dev :=
  ({ d with cmt := { d.cmt with state := .idle, owner := none, inSet := 0 } } : Dev).wr CMT_CHECK_RESULT 0

/-- A write of CMT_CTRL. -/
def Dev.cmtCtrl (d : Dev) (r : Requester) (v : Nat) : WriteRes :=
  let v := v % 32
  let mine := !d.othersSet r
  let sec : Bool := r.role == .sec
  if v = 0 then .done d
  else if v = 1 then
    if mine && d.cmt.state == .staging then .done d.touchSet.cmdCheck else .refuse COMMIT_LOCK
  else if v = 2 then
    if (mine || sec) && (d.cmt.state == .armed || d.cmt.state == .quiescing) then .done ((d.secTakes r).touchSet.abortKs 1)
    else .refuse COMMIT_LOCK
  else if v = 4 then
    if (mine || sec) && d.setOpen then .done d.discardSet else .refuse COMMIT_LOCK
  else if v = 8 then
    if mine && d.cmt.state == .idle then .done (d.ownSet r) else .refuse COMMIT_LOCK
  else if v = 16 then
    if mine && d.setOpen && d.reg.dirty.isEmpty then .done d.cmdRelease else .refuse COMMIT_LOCK
  else .refuse COMMIT_LOCK

/-! ## The check and the claim timeout -/

/-- The queues that a check found above what they stage. -/
def Dev.namedQueues (d : Dev) : List Nat :=
  (d.checkLoad d.merged).filterMap fun x => match regionOf x.1.key with | .queue q _ _ => some q | _ => none

/-- Store a check's outcome. -/
def Dev.storeCheck (d : Dev) (c : CheckOut) : Dev :=
  let d := d.wr CMT_CHECK_RESULT (c.result + 16 * c.step + 256 * b2n c.atReq)
  let d := ((d.wr CMT_CHECK_ADDR c.addr).wr CMT_CHECK_ITEM c.item).wr CMT_QUIESCE_NEED c.need
  { d with cmt := { d.cmt with named := d.namedQueues } }

/-- CHECK_DONE (R32, R33, R36). -/
def Dev.checkDone (d : Dev) : Dev :=
  if d.cmt.state ≠ .checking then d
  else
    let c := d.check d.cmt.checkTarget
    let d := d.storeCheck c
    let d := d.each ((List.range 32).filter fun p => d.cmt.inSet.testBit p) fun d p => d.wrFld (PG_STAGE_STAT p) 7 4 c.result
    let d := d.raise pCMT 0
    let passes : Bool := c.result == 0 || c.result == 5
    let now := d.time.ticks
    if passes && !d.cmt.targetMoved then { d with cmt := { d.cmt with state := .checked, entered := now } }
    else
      let d := { d with cmt := { d.cmt with state := .staging, entered := now, inSet := 0 } }
      if passes then d.wr CMT_CHECK_RESULT 0 else d

/-- CLAIM_TIMEOUT (R33): the owner's last access and the entry into the state both lie CMT_CLAIM_TIMEOUT back. -/
def Dev.setTimeout (d : Dev) : Dev :=
  let t := d.rd CMT_CLAIM_TIMEOUT
  if d.setOpen && t != 0 && d.past (max d.cmt.lastAccess d.cmt.entered) (msTicks t) then
    ((d.discardSet.wr CMT_STAT (16 * 6)).bump CMT_ABORT_COUNT).raise pCMT 2
  else d

/-! ## Arming and drain (R37, R44) -/

/-- The queues that drain, each with the occupancy it must reach: its staged quota, none where it stages EN = 0. -/
def Dev.drainGoals (d : Dev) : Assoc Nat :=
  d.cmt.named.map fun q => (q, if (d.mrd (QRY_Q_CFG q)).testBit 0 then d.mrd (QRY_Q_QUOTA q) else 0)

/-- The drain starts: the named pages take no new work, and their requests for leave are withdrawn (R44, R380). -/
def Dev.startDrain (d : Dev) : Dev :=
  let need := d.rd CMT_QUIESCE_NEED
  let goals := d.drainGoals
  let d := { d with
    cmt := { d.cmt with state := .quiescing, draining := need, drainBegun := true, drainTick := d.time.ticks }
    qry := { d.qry with drain := goals } }
  d.each ((List.range 32).filter need.testBit) fun d p => d.withdrawPage p

/-- The keystone is ARMED and fires no sooner than 2 µs from now. -/
def Dev.armSoon (d : Dev) : Dev :=
  { d with cmt := { d.cmt with state := .armed, fireTick := d.time.ticks + usTicks 2 } }

/-- An accepted GO. -/
def Dev.armGo (d : Dev) (at' quiesce : Bool) : Dev :=
  let d := (d.drawNonce).wr RST_LC_STAT (d.rd RST_LC_STAT % 2)
  let d := (d.wr CMT_ARM (2 * b2n at' + 4 * b2n quiesce)).touchSet
  let d := { d with cmt := { d.cmt with
    armAt := at', armQuiesce := quiesce, goTick := d.time.ticks, rechecked := false, drainBegun := false } }
  let t := d.fireTarget
  let armed := { d with cmt := { d.cmt with state := .armed } }
  if d.pwr.pfActive then armed.abortKs 5
  else if at' && decide (t < d.ext + 2000) then armed.abortKs 2
  else if !quiesce then (if at' then armed else d.armSoon)
  else if !at' || decide (t ≤ d.ext + d.rd CMT_QUIESCE_BOUND * 1000) then d.startDrain
  else armed

/-- A write of CMT_ARM. -/
def Dev.cmtArm (d : Dev) (r : Requester) (v : Nat) : WriteRes :=
  if d.othersSet r then .refuse COMMIT_LOCK
  else if !v.testBit 0 then .done d
  else
    let at' := v.testBit 1
    let quiesce := v.testBit 2
    let res := d.rd CMT_CHECK_RESULT
    if d.cmt.state ≠ .checked ∨ (res % 16 = 5 ∧ !quiesce) ∨ (res.testBit 8 ∧ !at') then .refuse COMMIT_LOCK
    else .done (d.armGo at' quiesce)

/-- DRAIN_START: an armed keystone with AT and QUIESCE reaches its target less the bound. -/
def Dev.drainStart (d : Dev) : Dev :=
  if d.cmt.state == .armed && d.cmt.armAt && d.cmt.armQuiesce && !d.cmt.drainBegun &&
     decide (d.fireTarget ≤ d.ext + d.rd CMT_QUIESCE_BOUND * 1000) then d.startDrain
  else d

/-- Every named page has drained. -/
def Dev.allDrained (d : Dev) : Bool := (List.range 32).all fun p => !d.cmt.draining.testBit p || d.drained p

/-- DRAIN_DONE: the keystone waits for its fire tick. -/
def Dev.drainDone (d : Dev) : Dev :=
  if d.cmt.state == .quiescing && d.allDrained then d.armSoon else d

/-- QUIESCE_TIMEOUT: the bound, or the target, has come with a page undrained. -/
def Dev.quiesceTimeout (d : Dev) : Dev :=
  let late := if d.cmt.armAt then decide (d.fireTarget ≤ d.ext) else d.past d.cmt.drainTick (usTicks (d.rd CMT_QUIESCE_BOUND))
  if d.cmt.state == .quiescing && !d.allDrained && late then d.abortKs 3 else d

/-! ## Recheck and fire (R38 to R43) -/

/-- The armed keystone's fire tick has come, or comes within n ns. -/
def Dev.fireDue (d : Dev) (n : Nat) : Bool :=
  d.cmt.state == .armed &&
    (if d.cmt.armAt then decide (d.fireTarget ≤ d.ext + n) && (!d.cmt.armQuiesce || d.cmt.drainBegun)
     else decide (d.cmt.fireTick ≤ d.time.ticks + n / 4))

/-- The recheck (R38): a failure stores its result and aborts. -/
def Dev.doRecheck (d : Dev) : Dev :=
  let c := d.recheck (d.bit CMT_CHECK_RESULT 8)
  if c.result = 0 then { d with cmt := { d.cmt with rechecked := true } }
  else (d.storeCheck c).abortKs 4

/-- RECHECK: 1 µs before the fire tick. -/
def Dev.recheckAt (d : Dev) : Dev := if d.fireDue 1000 && !d.cmt.rechecked then d.doRecheck else d

/-- A dirty word whose medium keeps the old value until its boundary: of an enabled block, or of a connected lane (R41). -/
def Dev.waitsBoundary (d : Dev) (a : Nat) : Bool :=
  match d.stagedDesc a with
  | none => false
  | some r => r.marks.contains .boundary &&
    (match regionOf a with
     | .page p _ => d.en p
     | .lane n _ _ => d.en pRMC && (d.conn n).st == 2
     | _ => false)

/-- A dirty word that governs only after the next epoch boundary (R76, R129). -/
def Dev.waitsEpoch (d : Dev) (a : Nat) : Bool :=
  match d.stagedDesc a, regionOf a with
  | some r, .page p _ => r.marks.contains .epochBound && d.en p
  | _, _ => false

/-- Add the present words of some addresses to a list of held words; a word already held keeps its older value. -/
def Dev.holdWords (d : Dev) (l : List Nat) (held : List HeldWord) : List HeldWord :=
  held ++ (l.filter fun a => !held.any fun h => h.addr == a).map fun a => { addr := a, old := BitVec.ofNat 32 (d.rd a) }

/-- The dirty words whose live value a fire changes. -/
def Dev.changedWords (d : Dev) : List Nat := d.reg.dirty.filter fun a => d.rd a != d.rdShadow a

/-- The copy of every dirty word into live (R40). RST_LC_NEXT reads as the life-cycle state, so its word is not stored. -/
def Dev.copySet (d : Dev) : Dev :=
  let l := d.reg.dirty
  let medium := d.holdWords (l.filter d.waitsBoundary) d.reg.medium
  let held := d.holdWords (l.filter d.waitsEpoch) d.reg.epochHeld
  let d := { d with reg := { d.reg with medium := medium, epochHeld := held } }
  let d := d.each (l.filter (· != RST_LC_NEXT)) fun d a => d.wr a (d.rdShadow a)
  { d with reg := { d.reg with dirty := [] } }

/-- The generation that the fire ends is retained, and recorded in the head-end's journal (R42, R382). -/
def Dev.keepGen (d : Dev) (changed : List Nat) : Dev :=
  let words := changed.filter byGeneration
  if words.isEmpty then d
  else
    let gen := (d.fld CMT_GEN 23 0 + 1) % 2 ^ 24
    let old : RegMap := words.map fun a => (a, BitVec.ofNat 32 (d.rd a))
    let g : GenRec := { gen := gen, fired := d.ext, old := old }
    let journals : Bool := d.role != 0 && d.en pNVS && words.any (· != SYS_CAL)
    let d := { d with cmt := { d.cmt with gens := d.cmt.gens ++ [g] } }
    d.iff journals fun d => d.nvsSubmit (.generation gen) (16 + 8 * words.length)

/-- What the blocks do at a fire beyond the copy: old is the device before it. -/
def Dev.firedHooks (d : Dev) (old : Dev) (changed : List Nat) : Dev :=
  let d := timFired old d changed
  let d := qryFired d changed
  let d := trfFired old d changed
  let d := balFired old d changed
  let d := plcFired d changed
  let d := rmcFired d changed
  let d := trkFired d changed
  let d := recFired old d
  let d := redFired old d changed
  let d := dspFired old d
  let d := d.iff (changed.contains PCI_CFG) Dev.pciEnable
  let d := d.iff (d.bit SYS_WDT_CFG 31 && !old.bit SYS_WDT_CFG 31) fun d =>
    { d with sys := { d.sys with wdtTick := d.time.ticks, wdtWarned := false } }
  d.onReturn

/-- The fire: the copy, what the blocks do at it, and the record of its tick. -/
def Dev.fire (d : Dev) : Dev :=
  let old := d
  let changed := d.changedWords
  let next := d.rdShadow RST_LC_NEXT % 8
  let moves : Bool := d.reg.dirty.contains RST_LC_NEXT && next != d.lc
  let t := d.ext
  let d := (d.keepGen changed).copySet
  let d := { d with cmt := { d.cmt with state := .firing, draining := 0, drainBegun := false, fireTick := d.time.ticks }
                    qry := { d.qry with drain := [] } }
  let d := (d.wr CMT_LAST_FIRE_NS (t % 2 ^ 32)).wr CMT_LAST_FIRE_WRAP (t / 2 ^ 32)
  let d := d.firedHooks old changed
  d.iff moves (·.lcFired next)

/-- KEYSTONE_FIRE: the fire tick has come. -/
def Dev.keystoneFire (d : Dev) : Dev :=
  if !d.fireDue 0 then d
  else
    let d := if d.cmt.rechecked then d else d.doRecheck
    if d.cmt.state = .armed then d.fire else d

/-- FIRE_COMPLETE: every tick-class block has acknowledged, latency ticks after the fire tick. -/
def Dev.fireComplete (d : Dev) (latency : Nat) : Dev :=
  if d.cmt.state ≠ .firing then d
  else
    let d := d.wr CMT_GEN ((d.fld CMT_GEN 23 0 + 1) % 2 ^ 24)
    let d := (d.wr CMT_APPLY_LAT latency).bump CMT_FIRE_COUNT
    ({ d with cmt := { d.cmt with state := .idle, owner := none, inSet := 0, rechecked := false } } : Dev).raise pCMT 1

/-- BOUNDARY_APPLY: a medium has reached its boundary (R41). -/
def Dev.boundaryApply (d : Dev) (b : Boundary) : Dev :=
  match b with
  | .page p => d.boundary (onPage p.val)
  | .lane n => d.boundary (onLane n.val)

/-! ## The CMT page (R32, R385) -/

/-- CMT_STAT. ABORT_CAUSE is the stored part. -/
def Dev.cmtStat (d : Dev) : Nat :=
  let s := match d.cmt.state with
    | .idle => 0
    | .staging => 1
    | .checking => 2
    | .checked => 3
    | .armed => 4
    | .quiescing => 5
    | .firing => 6
  let o := match d.cmt.owner with
    | none => 0
    | some r => 256 * roleCode r.role + 2048 + 4096 * r.id.val
  s + bitsOf (d.rd CMT_STAT) 7 4 * 16 + o

/-- Number of dirty words of page p. -/
def Dev.dirtyCount (d : Dev) (p : Nat) : Nat := (d.reg.dirty.filter (onPage p)).length

/-- CMT_DIRTY_ARR. -/
def Dev.dirtyArr (d : Dev) : Nat :=
  b2n (d.reg.dirty.any fun a => match regionOf a with | .queue _ _ _ => true | _ => false)
  + 2 * b2n (d.reg.dirty.any fun a => match regionOf a with | .lane _ _ _ => true | _ => false)

/-- The computed registers of the CMT page. -/
def cmtRead (d : Dev) (off : Nat) : Option Nat :=
  match off with
  | 0x100 => some 0
  | 0x108 => some d.cmtStat
  | 0x11C => some ((List.range 32).foldl (fun s p => s + 2 ^ p * b2n (0 < d.dirtyCount p)) 0)
  | 0x120 => some d.dirtyArr
  | 0x134 => some (d.rd CMT_GEN + 0x1000000 * d.cmt.gens.length)
  | _ => none

/-- The target or the bound may not be written: a keystone is under way, or another owns the set (R31, R32). -/
def Dev.targetHeld (d : Dev) (r : Requester) : Bool :=
  d.othersSet r || d.cmt.state == .armed || d.cmt.state == .quiescing || d.cmt.state == .firing

/-- A write of CMT_FIRE_NS or CMT_FIRE_WRAP. -/
def Dev.writeTarget (d : Dev) (r : Requester) (a v : Nat) : WriteRes :=
  if d.targetHeld r then .refuse COMMIT_LOCK
  else
    let d := (d.wr a v)
    match d.cmt.state with
    | .checked => .done d.uncheck
    | .checking => .done { d with cmt := { d.cmt with targetMoved := true } }
    | _ => .done d

/-- What CMT makes of a write to its page. -/
def cmtWrite (d : Dev) (r : Requester) (off v : Nat) : WriteRes :=
  match off with
  | 0x100 => d.cmtCtrl r v
  | 0x104 => d.cmtArm r v
  | 0x124 => d.writeTarget r CMT_FIRE_NS v
  | 0x128 => d.writeTarget r CMT_FIRE_WRAP v
  | 0x12C =>
    if d.targetHeld r then .refuse COMMIT_LOCK
    else .done (d.wr CMT_QUIESCE_BOUND (if v = 0 then 1 else if 2000000 < v then 2000000 else v))
  | _ => .plain

/-- SOFT_RST of CMT (R385): what keeps its value is put back after the page's registers have been reset. -/
def cmtReset (old d : Dev) : Dev :=
  d.each [CMT_GEN, CMT_LAST_FIRE_NS, CMT_LAST_FIRE_WRAP, CMT_APPLY_LAT] fun d a => d.wr a (old.rd a)

/-- PG_STAGE_STAT of page p. -/
def Dev.stageStat (d : Dev) (p : Nat) : Nat :=
  let n := d.dirtyCount p
  b2n (0 < n) + 2 * b2n (d.cmt.inSet.testBit p) + 4 * b2n (d.reg.medium.any fun h => onPage p h.addr)
  + d.rd (PG_STAGE_STAT p) + 65536 * satNat n 65535

/-! ## RESTORE_FACTORY (R332) -/

/-- RESTORE_FACTORY stages the fused value of every calibration register, and OVERLAY_EN = 0, as a shadow write by r. -/
def Dev.restoreFactory (d : Dev) (r : Requester) : WriteRes :=
  if d.setLockedKs || d.othersSet r then .refuse COMMIT_LOCK
  else
    let d := d.ownSet r
    let put := fun (d : Dev) (a v : Nat) => match d.stagedDesc a with | some x => d.stageStore x a v | none => d
    let d := d.each calRegs fun d a => put d a (Config.calWord a).toNat
    .done (put d SYS_CAL 0)

end Sys2Proof.Machine
end

