-- ==== Sys2Proof/Machine/UplOps.lean ====
section
/-!
DEFINITION. The uplink (R225 to R228, R234): reception, transmission, sessions, and the form of management requests and replies.
-/
namespace Sys2Proof.Machine

/-! ## Reception (R225, R226) -/

/-- The device's MAC address as the octets of a frame: the most significant octet of the 48-bit number first. -/
def Dev.macAddr (d : Dev) : Bytes := beBytes 6 (d.rd64 UPL_MAC_LO % 2 ^ 48)

/-- A PAUSE frame of Clause 31. -/
def isPause (f : Bytes) : Bool := beAt f 0 6 == 0x0180C2000001 && beAt f 12 2 == 0x8808 && beAt f 14 2 == 1

/-- The address of a frame is accepted. -/
def Dev.uplAccepts (d : Dev) (f : Bytes) : Bool :=
  f.take 6 == d.macAddr || beAt f 0 6 == 0xFFFFFFFFFFFF || ((leAt f 0 1).testBit 0 && (d.gov UPL_CFG).testBit 3) ||
  (d.gov UPL_CFG).testBit 4

/-- The UDP destination port of a frame; none when it carries no UDP. -/
def uplUdpPort (f : Bytes) : Option Nat :=
  match (ethIp f).bind fun p => (l4Of p).map fun x => (p, x) with
  | none => none
  | some (p, x) => if x.proto = 17 then some (beAt p (x.off + 2) 2) else none

/-- A management request: UDP to UPL_MAC on UPL_MGMT_PORT (R228). -/
def Dev.isMgmt (d : Dev) (f : Bytes) : Bool :=
  d.bit UPL_MGMT 16 && f.take 6 == d.macAddr && uplUdpPort f == some (d.fld UPL_MGMT 15 0)

/-- The lane for a received frame (R226). -/
def Dev.uplLane (d : Dev) (f : Bytes) : Option Nat :=
  let steered := (d.lanesBy fun w => bitsOf w 3 0 == 5 && bitsOf w 7 4 == 1 && w.testBit 8).find? fun n =>
    let w := d.rd (LN_UDP_PORT n)
    if w.testBit 16 then ethType f == w % 65536 else uplUdpPort f == some (w % 65536)
  (((if d.isMgmt f then d.laneOf 5 2 else none).or steered).or (d.laneOf 5 0))

/-- RFLAGS of a frame: IP4_BAD, L4_BAD, NOT_CHECKED, VLAN. A UDP checksum of 0 over IPv4 is not checked. -/
def uplFlags (f : Bytes) : Nat :=
  let vlan := 8 * b2n (ethTagged f)
  match ethIp f with
  | none => vlan + 4
  | some p =>
    let ip4 := beAt p 0 1 / 16 == 4
    let bad := ip4 && beAt p 10 2 != ip4Csum p
    match l4Of p with
    | none => vlan + b2n bad + 4
    | some x =>
      let have' := beAt p (x.off + x.field) 2
      if ip4 && x.proto == 17 && have' == 0 then vlan + b2n bad + 4
      else vlan + b2n bad + 2 * b2n (have' != x.csum p)

/-- Bit times of one PAUSE quantum in ns, by SPEED. -/
def Dev.quantumNs (d : Dev) : Nat := match d.fld UPL_STAT 2 1 with | 0 => 51200 | 1 => 5120 | _ => 512

/-- UPL_FRAME_RX: a frame from destination address to FCS; ago: ns since its SFD (R225, R226). -/
def Dev.uplRx (d : Dev) (f : Bytes) (ago : Nat) : Dev :=
  let n := f.length
  let body := f.take (n - 4)
  if !d.runs pUPL || !d.bit UPL_STAT 0 then d
  else if n < 64 then d.bump UPL_RX_RUNT
  else if 1522 < n then d.bump UPL_RX_LONG
  else if leAt f (n - 4) 4 ≠ crc32 body then d.bump UPL_RX_FCS_ERR
  else if isPause f ∧ (d.gov UPL_CFG).testBit 2 then
    ({ d with upl := { d.upl with pauseEnd := d.time.ticks + beAt f 16 2 * d.quantumNs / 4 } } : Dev).bump UPL_PAUSE_RX
  else if !d.uplAccepts f then d.bump UPL_RX_FILTERED
  else match d.uplLane body with
    | none => d
    | some l =>
      let head := leBytes 1 (uplFlags body) ++ leBytes 2 (if ethTagged body then beAt body 14 2 else 0) ++ zeroBytes 13
      let (d, ok) := d.pushFrame (2 * l + 1) 0 (head ++ body) (d.ext - ago - d.rd UPL_LAT_RX) (d.stampUnc 8)
      d.iff ok fun d => (d.bump (LN_RX_OK l)).bump UPL_RX_OK

/-! ## Transmission (R226) -/

/-- The checksums that a header asks for, and whether they were skipped. -/
def uplFill (flags : Nat) (f : Bytes) : Bytes × Bool :=
  let want := flags.testBit 0 || flags.testBit 1
  if !want then (f, false)
  else match ethIp f with
    | none => (f, true)
    | some p =>
      match l4Of p with
      | none => (f, true)
      | some x =>
        let ip4 := beAt p 0 1 / 16 == 4
        let p := if flags.testBit 0 && ip4 then setBytes p 10 (beBytes 2 (ip4Csum p)) else p
        let p := if flags.testBit 1 then setBytes p (x.off + x.field) (beBytes 2 (x.csum p)) else p
        (f.take (ethOff f) ++ p, false)

/-- UPL_FRAME_TX: the head frame of a lane goes out (R226, R245). -/
def Dev.uplTx (d : Dev) (l : Nat) : Dev :=
  if !d.linkStarts pUPL || !d.bit UPL_STAT 0 || decide (d.time.ticks < d.upl.pauseEnd) || d.laneLink l != 5 || !d.laneOn l then d
  else match d.txFront? l with
    | none => d
    | some q =>
      let flags := leAt q.data 0 1
      let (f, skipped) := uplFill flags (q.data.drop 16)
      let f := f ++ zeroBytes (60 - f.length)
      let d := d.iff skipped (·.bump UPL_CSUM_SKIP)
      let d := d.iff (flags.testBit 2) (·.txStamp (d.ext + d.rd UPL_LAT_TX) 0 (leAt q.data 1 1) 0)
      let d := (d.popFront (2 * l)).send .upl (f ++ leBytes 4 (crc32 f))
      (d.bump UPL_TX_COUNT).bump (LN_TX_OK l)

/-- UPL_LINK: UPL_STAT, and event 23 when LINK changes (R225). -/
def Dev.uplLink (d : Dev) (link : Bool) (speed : Nat) (done : Bool) : Dev :=
  if !d.runs pUPL then d
  else
    let was := d.bit UPL_STAT 0
    (d.wr UPL_STAT (b2n link + 2 * speed + 8 * b2n done)).iff (was != link) (·.raise pUPL 0)

/-! ## Sessions (R227, R228) -/

def Dev.session (d : Dev) (s : Nat) : Session := Assoc.get {} d.upl.sessions s
def Dev.setSession (d : Dev) (s : Nat) (x : Session) : Dev :=
  { d with upl := { d.upl with sessions := Assoc.put d.upl.sessions s x } }

/-- The RX and TX slots of a session control word may serve it. -/
def Dev.sesSlots (d : Dev) (v : Nat) : Bool := d.useSlot (bitsOf v 15 8) [0, 1] 1 == 0 && d.useSlot (bitsOf v 23 16) [0, 1] 0 == 0

/-- A write of UPL_SES_CTRL, the reserved bits left 0. -/
def Dev.sesCtrl (d : Dev) (s v : Nat) : Dev :=
  let v := v &&& 0x0FFFFF01
  if !v.testBit 0 then d.wr (UPL_SES_CTRL s) v
  else if !d.sesSlots v then d.wr (UPL_SES_CTRL s) (v - 1)
  else ((d.wr (UPL_SES_CTRL s) v).wr (UPL_SES_SEQ s) 0).setSession s { tick := d.time.ticks }

/-- SESSION_IDLE. -/
def Dev.sesIdle (d : Dev) (s : Nat) : Dev :=
  if d.bit (UPL_SES_CTRL s) 0 && d.runs pUPL && d.past (d.session s).tick (250000000 * d.rd UPL_SES_IDLE) then
    d.wr (UPL_SES_CTRL s) (setBit (d.rd (UPL_SES_CTRL s)) 0 false)
  else d

/-- The nonce of a request (0) or a reply (1). -/
def mgmtNonce (ses dir seq : Nat) : Bytes := leBytes 1 ses ++ leBytes 1 dir ++ zeroBytes 2 ++ leBytes 4 seq ++ zeroBytes 4

/-- The header of a request and of its reply. -/
def mgmtHead (ses ops seq : Nat) : Bytes := leBytes 1 ses ++ leBytes 1 1 ++ leBytes 2 ops ++ leBytes 4 seq ++ zeroBytes 8

/-- The transmit frame of a reply: the addresses and ports of the request the other way round, lengths and hop limits set,
checksums left to the transmitter (R228). The hop limit, identification and traffic class are the request's (DESIGN CHOICE). -/
def mgmtReply (f body : Bytes) : Bytes :=
  let o := ethOff f
  let p := f.drop o
  let eth := slice f 6 6 ++ slice f 0 6 ++ (f.take o).drop 12
  let udp := fun (u : Bytes) => slice u 2 2 ++ slice u 0 2 ++ beBytes 2 (8 + body.length) ++ zeroBytes 2 ++ body
  let ip :=
    if beAt p 0 1 / 16 = 4 then
      let ihl := 4 * (beAt p 0 1 % 16)
      let h := setBytes (setBytes (p.take ihl) 2 (beBytes 2 (ihl + 8 + body.length))) 12 (slice p 16 4 ++ slice p 12 4)
      h ++ udp (p.drop ihl)
    else setBytes (setBytes (p.take 40) 4 (beBytes 2 (8 + body.length))) 8 (slice p 24 16 ++ slice p 8 16) ++ udp (p.drop 40)
  leBytes 1 3 ++ zeroBytes 15 ++ eth ++ ip

/-! ## The page (R234) -/

/-- What UPL makes of a write to its page: the session registers are for SYS and SEC only (R227). -/
def uplWrite (d : Dev) (r : Requester) (off v : Nat) : WriteRes :=
  if 0x300 ≤ off ∧ off < 0x400 then
    if !(r.role == .sys || r.role == .sec) then .refuse ROLE_DENIED
    else if off % 16 = 0 then .done (d.sesCtrl ((off - 0x300) / 16) v)
    else .plain
  else .plain

/-- The block bits of UPL PG_STAT: R234 names none. -/
def uplPgStat (_d : Dev) : Nat := 0

/-- A soft reset. -/
def uplReset (d : Dev) : Dev := { d with upl := {} }

end Sys2Proof.Machine
end

