-- ==== Sys2Proof/Machine/Router.lean ====
section
/-!
DEFINITION. The register bus: which requester may make which access (R15, R16, R22, R23, R25 to R27), what an access does by
the register's class (R5 to R7), the common header (R24), enables and soft resets (R25, R174, R313, R385, R389, R390), and the
SYS, CLK, RST, EVT, MEM and PCI pages (R29, R335 to R339).
-/
namespace Sys2Proof.Machine

/-! ## Who may access what (R26, R234) -/

/-- The EXT session of a requester is enabled. -/
def Dev.extOn (d : Dev) (r : Requester) : Bool := d.bit (UPL_SES_CTRL r.id.val) 0

/-- R26's table for a page. -/
def Dev.pageGranted (d : Dev) (r : Requester) (p : Nat) (write : Bool) : Bool :=
  match r.role with
  | .sec => true
  | .sys => true
  | .app => !write || (p != pCMT && Config.appGrant p)
  | .ext => d.extOn r && d.bit ((if write then UPL_SES_GRANT_W else UPL_SES_GRANT_R) r.id.val) p
  | .dbg => d.dbgOn

/-- R26's table for the per-queue array or the lane context array; EXT goes by the array bits of its session. -/
def Dev.arrayGranted (d : Dev) (r : Requester) (lane write : Bool) : Bool :=
  if r.role = .ext then d.extOn r && d.bit (UPL_SES_CTRL r.id.val) (24 + 2 * b2n lane + b2n write)
  else d.pageGranted r (if lane then pRMC else pQRY) write

/-- A requester may make a write that its page admits: APP writes L and W1C registers alone, and EXT stages only under a grant of
the CMT page. -/
def Dev.writeMay (d : Dev) (r : Requester) (cls : RegClass) (staged : Bool) : Bool :=
  match r.role with
  | .app => !staged && (cls == .l || cls == .w1c)
  | .ext => !staged || d.bit (UPL_SES_GRANT_W r.id.val) pCMT
  | _ => true

/-- What a register's marks allow a role; i numbers the register among its repeats. -/
def RegDesc.roleMay (x : RegDesc) (i : Nat) (role : ReqRole) (write : Bool) : Bool :=
  let sec : Bool := role == .sec
  let m := x.marks
  (sec || !(m.contains .secOnly || (m.contains .ring0Sec && i == 0) || (write && m.contains .secWrite))) &&
  (sec || role == .sys || !(write && (m.contains .sysSec || m.contains .sysWrite)))

/-! ## The SYS, CLK, RST, EVT and PCI pages -/

def sysRead (d : Dev) (off : Nat) : Option Nat := if off = 0x188 then some d.wdtStat else none

/-- Writes of the SYS page with an effect of their own (R336). -/
def sysWrite (d : Dev) (r : Requester) (off v : Nat) : WriteRes :=
  match off with
  | 0x180 => .done (d.rstCmd v)
  | 0x184 => .done (d.wdtKick r.role v)
  | 0x198 => .done ((d.wr SYS_MBOX_TO_APP v).raise pSYS 1)
  | 0x19C =>
    let d := d.wr SYS_MBOX_TO_SEC v
    .done { d with sys := { d.sys with secIrqs := d.sys.secIrqs + 1 } }
  | 0x1A0 => if d.norBusy then .refuse ENGINE_BUSY else .plain
  | 0x1A4 => if d.norBusy then .refuse ENGINE_BUSY else .plain
  | 0x1A8 => if d.norBusy then .refuse ENGINE_BUSY else .plain
  | 0x1AC => if d.norBusy then .refuse ENGINE_BUSY else .done (d.norStart (v % 4))
  | 0x1B4 => if d.sys.imgJob.isSome then .refuse ENGINE_BUSY else .done (d.imgStart v)
  | 0x1C8 => if d.sys.ucJob.isSome then .refuse ENGINE_BUSY else .done (d.ucStart v)
  | 0x1D0 => if v.testBit 0 then d.restoreFactory r else .done d
  | 0x304 => if d.norBusy then .refuse ENGINE_BUSY else .plain
  | _ => .plain

def clkRead (d : Dev) (off : Nat) : Option Nat := if off = 0x180 then some d.clkStat else none

def rstRead (d : Dev) (off : Nat) : Option Nat :=
  match off with
  | 0x100 => some d.lc
  | 0x184 => some (d.lc + 8 * b2n (d.bit RST_LC 3))
  | 0x1DC => some (d.rd RST_OWNER_STAT + d.rst.fuse.ownerMask + 16 * (d.rst.fuse.revoked % 16))
  | 0x1E0 => some d.rst.fuse.svn
  | _ => none

/-- Writes of the RST page with an effect of their own (R325, R326, R328, R330). -/
def rstWrite (d : Dev) (off v : Nat) : WriteRes :=
  match off with
  | 0x198 => .done (d.tamperClr v)
  | 0x1C8 => .done (d.authGo v)
  | 0x1D8 => .done (d.ownerCmd v)
  | 0x1E4 => .done (d.svnGo v)
  | _ => .plain

def evtRead (d : Dev) (off : Nat) : Option Nat :=
  match off with
  | 0x100 => some (evtWord d.evtRaw 0)
  | 0x104 => some (evtWord d.evtRaw 32)
  | 0x110 => some (evtWord (fun p => d.rd (PG_EVT_PEND p)) 0)
  | 0x114 => some (evtWord (fun p => d.rd (PG_EVT_PEND p)) 32)
  | _ => none

def evtWrite (d : Dev) (off v : Nat) : WriteRes :=
  match off with
  | 0x110 => .done (d.clearEvt 0 v)
  | 0x114 => .done (d.clearEvt 32 v)
  | 0x138 => .done (d.iff (v.testBit 0) (·.raise pSYS 2))
  | _ => .plain

/-- What a window of the PCI page returns is a device's answer: a free value. -/
def pciRead (d : Dev) (off : Nat) : Option Nat := if off = 0x188 ∨ off = 0x194 then some d.freeVal else none

/-- A write through a window of the PCI page goes out to the link. -/
def pciWrite (d : Dev) (off v : Nat) : WriteRes :=
  if off = 0x188 then .done (d.send .nvme (leBytes 4 (d.rd PCI_CFG_ADDR) ++ leBytes 4 v))
  else if off = 0x194 then .done (d.send .nvme (leBytes 8 (d.rd64 PCI_MEM_ADDR_LO) ++ leBytes 4 v))
  else .plain

def pwrWrite (d : Dev) (off v : Nat) : WriteRes :=
  if off = 0x1A8 then .done (match v % 4 with | 1 => d.fwRequest | 2 => d.fwReturn | _ => d) else .plain

/-! ## The pages by number -/

/-- The computed registers of page p; none: the stored word. -/
def Dev.pageRead (d : Dev) (p off : Nat) : Option Nat :=
  match p with
  | 0 => sysRead d off
  | 1 => cmtRead d off
  | 2 => pwrRead d off
  | 3 => clkRead d off
  | 4 => rstRead d off
  | 5 => pinRead d off
  | 6 => evtRead d off
  | 7 => qryRead d off
  | 8 => radRead d off
  | 9 => rmcRead d off
  | 10 => plcRead d off
  | 11 => trkRead d 0 off
  | 12 => trkRead d 1 off
  | 14 => fbRead d 0 off
  | 15 => fbRead d 1 off
  | 16 => fbRead d 2 off
  | 17 => fbRead d 3 off
  | 18 => timRead d off
  | 19 => ingRead d off
  | 20 => epcRead d off
  | 21 => trfRead d off
  | 22 => objRead d off
  | 23 => balRead d off
  | 24 => dstRead d off
  | 25 => keyRead d off
  | 26 => recRead d off
  | 27 => redRead d off
  | 28 => dspRead d off
  | 30 => nvsRead d off
  | 31 => pciRead d off
  | _ => none

/-- What page p makes of a write to a live L, C or W1C register. -/
def Dev.pageWrite (d : Dev) (r : Requester) (p off v : Nat) : WriteRes :=
  match p with
  | 0 => sysWrite d r off v
  | 1 => cmtWrite d r off v
  | 2 => pwrWrite d off v
  | 4 => rstWrite d off v
  | 6 => evtWrite d off v
  | 7 => qryWrite d r off v
  | 8 => radWrite d off v
  | 13 => uplWrite d r off v
  | 18 => timWrite d off v
  | 19 => ingWrite d off v
  | 20 => epcWrite d off v
  | 21 => trfWrite d r off v
  | 22 => objWrite d off v
  | 23 => balWrite d off v
  | 24 => dstWrite d off v
  | 25 => keyWrite d r.role off v
  | 26 => recRegWrite d off v
  | 27 => redWrite d r off v
  | 28 => dspWrite d off v
  | 30 => nvsWrite d off v
  | 31 => pciWrite d off v
  | _ => .plain

/-- The block bits of PG_STAT of page p. -/
def Dev.blockStat (d : Dev) (p : Nat) : Nat :=
  match p with
  | 2 => pwrStat d
  | 7 => qryPgStat d
  | 8 => radPgStat d
  | 10 => plcPgStat d
  | 11 => trkPgStat d 0
  | 12 => trkPgStat d 1
  | 13 => uplPgStat d
  | 18 => timPgStat d
  | 19 => ingPgStat d
  | 20 => epcPgStat d
  | 21 => trfPgStat d
  | 22 => objPgStat d
  | 23 => balPgStat d
  | 24 => dstPgStat d
  | 25 => keyPgStat d
  | 26 => recPgStat d
  | 27 => redPgStat d
  | 28 => dspPgStat d
  | _ => 0

/-- PG_STAT.READY: enabled and out of reset; not while the configuration is invalid, nor while REC has not scanned its records. -/
def Dev.pageReady (d : Dev) (p : Nat) : Bool :=
  d.en p && !(decide (19 ≤ p) && decide (p ≤ 25) && (d.blockStat p).testBit 2) && (p != pREC || d.rcd.ready)

/-- PG_STAT. -/
def Dev.pgStat (d : Dev) (p : Nat) : Nat := b2n (d.pageReady p) + 2 * b2n (d.pageBusy p) + d.blockStat p

/-! ## Enable and soft reset (R24, R25) -/

/-- The requester code of the engine that owns lanes from page p (R170). -/
def laneCode (p : Nat) : Option Nat :=
  if p = pING then some codeING else if p = pDST then some codeDST else if p = pTRK0 then some codeTRK else none

/-- Disabling or soft-resetting an engine's block counts as an expiry of its leases (R170). -/
def Dev.dropEngineLanes (d : Dev) (p : Nat) : Dev :=
  match laneCode p with
  | none => d
  | some c => d.each (d.engineLanes c) fun d l => d.fenceLane l true

/-- Words of page p that wait for a boundary wait no longer. -/
def Dev.dropHeldWords (d : Dev) (p : Nat) : Dev :=
  { d with reg := { d.reg with medium := d.reg.medium.filter fun h => !onPage p h.addr
                               epochHeld := d.reg.epochHeld.filter fun h => !onPage p h.addr } }

/-- With PWR disabled every queued request is granted (R314). -/
def grantQueued : Nat → Dev → Dev
  | 0, d => d
  | fuel + 1, d =>
    match d.pwr.queue with
    | [] => d
    | q :: t =>
      let d := { d with pwr := { d.pwr with queue := t } }
      grantQueued fuel ((d.bump (PWR_CLS_WAIT q.cls) (usBetween q.since d.time.ticks)).grantLeave q.cls q.who)

/-- Page p is enabled. -/
def Dev.pageBegin (d : Dev) (p : Nat) : Dev :=
  match p with
  | 9 => d.rmcBegin
  | 10 => d.plcBegin
  | 11 => d.trkBegin
  | 14 => d.fbBegin 0
  | 15 => d.fbBegin 1
  | 16 => d.fbBegin 2
  | 17 => d.fbBegin 3
  | 20 => d.epcBegin
  | 21 => d.trfBegin
  | 23 => d.balBegin
  | 30 => d.nvsPump
  | 31 => d.pciEnable
  | _ => d

/-- Page p is disabled. -/
def Dev.pageEnd (d : Dev) (p : Nat) : Dev :=
  let d := (d.dropHeldWords p).dropEngineLanes p
  match p with
  | 2 => grantQueued d.pwr.queue.length d
  | 28 => d.panelOffStart
  | 31 => d.pciEnable
  | _ => d

/-- EN and DBG_FREEZE of page p are written; a change of EN returns the block's grants (R313). -/
def Dev.setEn (d : Dev) (p : Nat) (on freeze : Bool) : Dev :=
  let was := d.en p
  let d := d.wr (PG_CTRL p) (b2n on + 4 * b2n freeze)
  if was = on then d
  else
    let d := d.giveBackPage p
    if on then d.pageBegin p else d.pageEnd p

/-- A live word of page p that a soft reset returns to its reset value: not PG_CTRL and the fault log, not a word that follows the
hardware or lives in the plinth; QRY keeps its configuration (R24, R174). -/
def Dev.softResets (d : Dev) (p a : Nat) : Bool :=
  onPage p a && (a == PG_EVT_EN p || (decide (PG_STAGE_STAT p < a) &&
    match d.descAt a with
    | none => true
    | some (x, _) => x.reset != .hw && !x.marks.contains .plinth && !(p == pQRY && x.cls == .s)))

/-- The registers of page p after a soft reset; a calibration register takes the overlay's value where that is in use (R332). -/
def Dev.softRegs (d : Dev) (p : Nat) : Dev :=
  let mine := fun (e : Nat × Word) => onPage p e.1
  let d := { d with reg := { d.reg with
    live := d.reg.live.filter fun e => !d.softResets p e.1
    loHeld := d.reg.loHeld.filter fun e => !mine e
    hiLatch := d.reg.hiLatch.filter fun e => !mine e } }
  let d := d.wr (PG_EVT_PEND p) (d.rd (PG_EVT_PEND p) &&& 0x80000000)
  if d.bootCtl.2 && d.overlayOk then
    let ov := d.overlayBytes
    d.each (calRegs.filter (onPage p)) fun d a => d.wr a (Config.overlayWord ov a).toNat
  else d

/-- The internal state of page p after a soft reset: old is the device before it. -/
def Dev.softState (d : Dev) (old : Dev) (p : Nat) : Dev :=
  match p with
  | 0 => { d with sys := { d.sys with norJob := none, imgJob := none, ucJob := none, wdtTick := d.time.ticks, wdtWarned := false } }
  | 1 => cmtReset old d
  | 2 => d.onReturn
  | 4 => { d with rst := { d.rst with authJob := none } }
  | 7 => qryReset d
  | 8 => radReset d
  | 9 => rmcReset d
  | 10 => plcReset d
  | 11 => trkReset d 0
  | 12 => trkReset d 1
  | 13 => uplReset d
  | 14 => fbReset d 0
  | 15 => fbReset d 1
  | 16 => fbReset d 2
  | 17 => fbReset d 3
  | 18 => timSoftReset old d
  | 19 => ingReset d
  | 20 => epcReset d
  | 21 => trfReset d
  | 22 => objReset d
  | 23 => balReset d
  | 24 => dstReset d
  | 25 => { d with key := { slots := d.key.slots.filter fun e => decide (e.1 < 4) } }
  | 26 => recReset d
  | 27 => redReset d
  | 28 => dspReset d
  | 29 => { d with io := { d.io with summaryTick := d.time.ticks, summaryCount := 0 } }
  | 30 => nvsReset d
  | 31 => ({ d with io := { d.io with linkUp := false, driveGb := 0, perstTick := none, perstHigh := false } } : Dev).pciEnable
  | _ => d

/-- SOFT_RST of page p. PWR keeps every grant and request (R390). -/
def Dev.softReset (d : Dev) (p : Nat) : Dev :=
  let old := d
  let d := ((d.softRegs p).dropHeldWords p).dropEngineLanes p
  let d := { d with io := { d.io with stopped := setBit d.io.stopped p false } }
  let d := if p = pPWR then d else d.giveBackPage p
  d.softState old p

/-- A write of PG_CTRL of page p, with the refusals of R25. -/
def Dev.pgCtrl (d : Dev) (p v : Nat) : WriteRes :=
  let on := v.testBit 0
  let rst := v.testBit 1
  let inSet := d.cmt.inSet.testBit p
  if on && d.role == 1 && headEndOff.contains p then .refuse ROLE_DENIED
  else if rst && (inSet || (p == pCMT && d.cmt.state != .idle)) then .refuse COMMIT_LOCK
  else if !on && inSet then .refuse COMMIT_LOCK
  else if !on && (p == pSYS || p == pCMT || p == pEVT || p == pMEM) then .refuse ROLE_DENIED
  else .done ((d.iff rst (·.softReset p)).setEn p on (v.testBit 2))

/-- A write of PG_EVT_EN of page p; the level of event 58 makes it pending at once. -/
def Dev.writeEvtEn (d : Dev) (p v : Nat) : Dev :=
  let d := d.wr (PG_EVT_EN p) (v % 2 ^ 31)
  d.iff (p == pPIN && v.testBit 0 && d.rd PIN_EDGE_PEND != 0) (·.setPend pPIN 0)

/-! ## What an address names -/

/-- What a 32-bit aligned address names: a header word of a page, a live register, a shadow of the register at a live address, a
word of the factory test page, memory, or nothing. i numbers a register among its repeats. -/
inductive Named where
  | head (p off : Nat)
  | live (x : RegDesc) (i : Nat)
  | shadow (x : RegDesc) (i a : Nat)
  | factory (p : Nat)
  | nothing
  deriving DecidableEq, Repr

/-- The register at an address of the register space. -/
def Dev.named (d : Dev) (a : Nat) : Named :=
  let shadow := match liveOf a with
    | none => Named.nothing
    | some l => match d.stagedDesc l with
      | none => .nothing
      | some x => .shadow x ((d.descAt l).elim 0 (·.2)) l
  match regionOf a with
  | .page p off =>
    if off < 0x28 then .head p off
    else if off < 0x100 then .nothing
    else if off < 0x700 then (match d.descAt a with | some (x, i) => .live x i | none => .nothing)
    else if 0xF00 ≤ off then .factory p
    else shadow
  | .queue _ _ false => (match d.descAt a with | some (x, i) => .live x i | none => .nothing)
  | .lane _ _ false => (match d.descAt a with | some (x, i) => .live x i | none => .nothing)
  | _ => shadow

/-- The class of a header word (R24). -/
def headClass (off : Nat) : RegClass := if off = 8 ∨ off = 0x14 then .l else if off = 0x18 then .w1c else .r

/-- The class of a live register: PWR_CLS_CFG of class 0 is R (R315). -/
def RegDesc.clsAt (x : RegDesc) (a : Nat) : RegClass := if a = PWR_CLS_CFG 0 then .r else x.cls

/-- The page or array at an address is granted to a requester. -/
def Dev.granted' (d : Dev) (r : Requester) (a : Nat) (write : Bool) : Bool :=
  match regionOf a with
  | .page p _ => d.pageGranted r p write
  | .queue _ _ _ => d.arrayGranted r false write
  | .lane _ _ _ => d.arrayGranted r true write
  | _ => false

/-- An address lies in the register space. -/
def inRegs (a : Nat) : Bool :=
  match regionOf a with
  | .page _ _ => true
  | .queue _ _ _ => true
  | .lane _ _ _ => true
  | _ => false

/-! ## Reads (R7, R27) -/

/-- The outcome of a read: a cause of R27, or the device after it and the value. -/
inductive ReadRes where
  | refuse (cause : Nat)
  | value (d : Dev) (v : Nat)

/-- A header word. -/
def Dev.headRead (d : Dev) (p off : Nat) : Nat :=
  match off with
  | 0x0C => d.pgStat p
  | 0x10 => d.evtRaw p
  | 0x24 => d.stageStat p
  | _ => d.rd (pageBase p + off)

/-- The present word of a live register; a read of a queue's entry can move its queue on. -/
def Dev.liveWord (d : Dev) (a ecc : Nat) : Dev × Nat :=
  match regionOf a with
  | .page p off => (d, (d.pageRead p off).getD (d.rd a))
  | .queue q off _ => (qRead d q off ecc).getD (d, d.rd a)
  | .lane n off _ => (d, (laneRead d n off).getD (d.rd a))
  | _ => (d, 0)

/-- The addresses that a read of a latches: the high half of its pair, and those of R236, R243 and R245. -/
def latchesOf (x : RegDesc) (a : Nat) : List Nat :=
  (if x.marks.contains .lo then [a + 4] else []) ++
  (match regionOf a with | .page 18 off => (timLatches off).map fun o => pageBase pTIM + o | _ => [])

/-- Latch words. -/
def Dev.latch (d : Dev) (l : List (Nat × Nat)) : Dev :=
  d.each l fun d e => { d with reg := { d.reg with hiLatch := RegMap.put d.reg.hiLatch e.1 (BitVec.ofNat 32 e.2) } }

/-- A latched word at an address, taken out (R7). -/
def Dev.takeLatch (d : Dev) (a : Nat) : Option (Dev × Nat) :=
  (d.reg.hiLatch.find? fun e => e.1 == a).map fun e =>
    ({ d with reg := { d.reg with hiLatch := d.reg.hiLatch.filter fun x => x.1 != a } }, e.2.toNat)

/-- A read of a live register. -/
def Dev.readLive (d : Dev) (x : RegDesc) (a ecc : Nat) : ReadRes :=
  let why := match regionOf a with | .queue q off _ => qReadCause q off | _ => none
  match why, d.takeLatch a with
  | some c, _ => .refuse c
  | none, some (d, v) => .value d v
  | none, none =>
    let fenced := match regionOf a with | .queue q off _ => d.qFencedRead q off | _ => false
    if fenced then .value d 0
    else
      let words := (latchesOf x a).map fun b => (b, (d.liveWord b ecc).2)
      let (d, v) := d.liveWord a ecc
      .value (d.latch words) v

/-- A read of memory: the bytes, little-endian. -/
def Dev.readMem (d : Dev) (r : Requester) (a n : Nat) : ReadRes :=
  if regionOf a ≠ regionOf (a + (n - 1)) ∨ regionOf a = .hole then .refuse NO_REG
  else if r.role = .ext ∨ (r.role = .dbg ∧ !d.dbgOn) ∨ (regionOf a = .secureSram ∧ r.role ≠ .sec) then .refuse ROLE_DENIED
  else .value d (d.ld a n)

/-- A read of width bytes, with what SECDED finds in a quarry word. DEDUCED: where several causes apply, the first of WIDTH,
NO_REG, LIFECYCLE, ROLE_DENIED, the class rule and the block's own is given. -/
def Dev.readRes (d : Dev) (r : Requester) (a width ecc : Nat) : ReadRes :=
  if !inRegs a then d.readMem r a width
  else if width ≠ 4 ∨ a % 4 ≠ 0 then .refuse WIDTH
  else match d.named a with
    | .nothing => .refuse NO_REG
    | .factory _ =>
      if d.lc ≠ 1 then .refuse LIFECYCLE else if !d.granted' r a false then .refuse ROLE_DENIED else .value d d.freeVal
    | .head p off => if !d.granted' r a false then .refuse ROLE_DENIED else .value d (d.headRead p off)
    | .live x i => if d.granted' r a false && x.roleMay i r.role false then d.readLive x a ecc else .refuse ROLE_DENIED
    | .shadow x i l =>
      if !(d.granted' r a false && x.roleMay i r.role false) then .refuse ROLE_DENIED
      else match d.takeLatch a with
        | some (d, v) => .value d v
        | none =>
          let d := d.iff (x.marks.contains .lo) (·.latch [(a + 4, d.stagedRead (l + 4))])
          .value d (d.stagedRead l)

/-- A read by r. Every read moves the counter of free values on: an undefined bit can differ at the next one (R388). -/
def Dev.busRead (d : Dev) (r : Requester) (a width : Nat) (ecc : Nat := 0) : Dev :=
  match d.readRes r a width ecc with
  | .refuse c => d.violate r a c false
  | .value d v => (d.tookFree).answer v

/-! ## Writes (R5 to R7, R27) -/

/-- What the block makes of a write to a live register. -/
def Dev.blockWrite (d : Dev) (r : Requester) (a v : Nat) : WriteRes :=
  match regionOf a with
  | .page p off => d.pageWrite r p off v
  | .queue q off _ => qWrite d r q off v
  | .lane n off _ => laneWrite d n off v
  | _ => .plain

/-- A write of the _LO half is held, once its block does not refuse it; the _HI half applies both (R7). -/
def Dev.writeLo (d : Dev) (r : Requester) (a v : Nat) : WriteRes :=
  match d.blockWrite r a v with
  | .refuse c => .refuse c
  | _ => .done (d.holdLo a v)
def Dev.writeHi (d : Dev) (r : Requester) (x : RegDesc) (a v : Nat) : WriteRes :=
  let (lo, d') := d.takeLo (a - 4)
  match d'.blockWrite r a (lo.getD (d.rd (a - 4)) + 2 ^ 32 * v) with
  | .refuse c => .refuse c
  | .done e => .done e
  | .plain => .done ((match lo with | some w => d'.wr (a - 4) w | none => d').wr a (v &&& x.mask))

/-- A write to a live register by its class (R5). -/
def Dev.writeLive (d : Dev) (r : Requester) (x : RegDesc) (a v : Nat) : WriteRes :=
  match x.clsAt a with
  | .r => .refuse NO_REG
  | .s => .refuse STAGED_ONLY
  | .l =>
    if x.marks.contains .lo then d.writeLo r a v
    else if x.marks.contains .hi then d.writeHi r x a v
    else match d.blockWrite r a v with
      | .plain => .done (d.wr a (v &&& x.mask))
      | w => w
  | .c => match d.blockWrite r a v with
      | .plain => .done (d.wr a 0)
      | w => w
  | .w1c => match d.blockWrite r a v with
      | .plain => .done (d.wr a (d.rd a - (d.rd a &&& v)))
      | w => w

/-- A write to a header word. -/
def Dev.writeHead (d : Dev) (p off v : Nat) : WriteRes :=
  if off = 8 then d.pgCtrl p v
  else if off = 0x14 then .done (d.writeEvtEn p v)
  else if off = 0x18 then .done (d.clearPend p v)
  else .refuse NO_REG

/-- A write to memory. -/
def Dev.writeMem (d : Dev) (r : Requester) (a n v : Nat) : WriteRes :=
  if regionOf a ≠ regionOf (a + (n - 1)) ∨ !storable a then .refuse NO_REG
  else if r.role = .ext ∨ (r.role = .dbg ∧ !d.dbgOn) ∨ (regionOf a = .secureSram ∧ r.role ≠ .sec) then .refuse ROLE_DENIED
  else .done (d.st a n v)

/-- A write of width bytes; the order of the causes as for a read. -/
def Dev.writeRes (d : Dev) (r : Requester) (a width v : Nat) : WriteRes :=
  let v := v % 2 ^ (8 * width)
  if !inRegs a then d.writeMem r a width v
  else if width ≠ 4 ∨ a % 4 ≠ 0 then .refuse WIDTH
  else match d.named a with
    | .nothing => .refuse NO_REG
    | .factory _ =>
      if d.lc ≠ 1 then .refuse LIFECYCLE
      else if !d.granted' r a true || !d.writeMay r .r false then .refuse ROLE_DENIED
      else .done d
    | .head p off =>
      if !d.granted' r a true || !d.writeMay r (headClass off) false then .refuse ROLE_DENIED else d.writeHead p off v
    | .live x i =>
      if !d.granted' r a true || !x.roleMay i r.role true || !d.writeMay r (x.clsAt a) false then .refuse ROLE_DENIED
      else d.writeLive r x a v
    | .shadow x i l =>
      if !d.granted' r a true || !x.roleMay i r.role true || !d.writeMay r .s true then .refuse ROLE_DENIED
      else d.stageWrite r x l v

/-- A write by r. -/
def Dev.busWrite (d : Dev) (r : Requester) (a width v : Nat) : Dev :=
  match d.writeRes r a width v with
  | .refuse c => d.violate r a c true
  | .plain => d.answer 0
  | .done d => d.answer 0

/-- A 32-bit write by r, and a 32-bit read. -/
def Dev.poke (d : Dev) (r : Requester) (a v : Nat) : Dev := d.busWrite r a 4 v
def Dev.peek (d : Dev) (r : Requester) (a : Nat) : Dev := d.busRead r a 4

end Sys2Proof.Machine
end

