-- ==== Sys2Proof/Machine/ExecBal.lean ====
section
/-!
DEFINITION. The commands of the balance engine (R129 to R141).
-/
namespace Sys2Proof.Machine

/-- BAL_SAMPLE: BAL takes the oldest entry of the sample ring (R130). -/
def execBalSample (s : State) : Result := s.logic (·.takeSample)

/-- INVENTORY_FIX (R131). -/
def execInventoryFix (item : Fin 16384) (s : State) : Result := s.logic (·.inventoryFix item)

/-- BAL_EPOCH_PASS, with the time the pass takes in µs (R135). -/
def execBalEpochPass (us : Word) (s : State) : Result := s.logic (·.balEpochPass us.toNat)

/-- BAL_FAST_PASS (R136). -/
def execBalFastPass (s : State) : Result := s.logic (·.balFastPass)

/-- SUSP_CONS_WRITE (R139). -/
def execSuspConsWrite (r : Requester) (value : Word) (s : State) : Result := s.logic (·.poke r BAL_SUSP_CONS value.toNat)

/-- BAL_ACK (R141). -/
def execBalAck (r : Requester) (value : Word) (s : State) : Result := s.logic (·.poke r Sys2Proof.Machine.BAL_ACK value.toNat)

/-- BAL_TBL_VALIDATE: BAL_TBL_CMD.VALIDATE (R129). -/
def execBalTblValidate (r : Requester) (s : State) : Result := s.logic (·.poke r BAL_TBL_CMD 1)

/-- BAL_TBL_VALIDATE_DONE (R129). -/
def execBalTblValidateDone (s : State) : Result := s.logic (·.balValidated)

/-- MAP_REWRITE_DONE (R129). -/
def execMapRewriteDone (s : State) : Result := s.logic (·.mapRewriteDone)

end Sys2Proof.Machine
end

