-- ==== Sys2Proof/Machine/ExecBus.lean ====
section
/-!
DEFINITION. The commands of plain register access (R5, R7, R24 to R29).
-/
namespace Sys2Proof.Machine

/-- REG_WRITE: an access of any width to any address (R5, R27). A read is an access too; its value stands in the answer. -/
def execRegWrite (a : BusAccess) (s : State) : Result :=
  s.logic fun d => if a.write then d.busWrite a.req a.addr a.width a.value else d.busRead a.req a.addr a.width

/-- LO_HALF_WRITE (R7). -/
def execLoHalfWrite (r : Requester) (addr : Nat) (value : Word) (s : State) : Result := s.logic (·.poke r addr value.toNat)

/-- HI_HALF_WRITE (R7). -/
def execHiHalfWrite (r : Requester) (addr : Nat) (value : Word) (s : State) : Result := s.logic (·.poke r addr value.toNat)

/-- LO_HALF_READ (R7). -/
def execLoHalfRead (r : Requester) (addr : Nat) (s : State) : Result := s.logic (·.peek r addr)

/-- COUNTER_CLEAR: a write to a C register, of any value (R5). -/
def execCounterClear (r : Requester) (addr : Nat) (s : State) : Result := s.logic (·.poke r addr 0)

/-- W1C_WRITE (R5). -/
def execW1cWrite (r : Requester) (addr : Nat) (value : Word) (s : State) : Result := s.logic (·.poke r addr value.toNat)

/-- FAULT_LOG_CLEAR: 1 to bit 31 of PG_EVT_PEND (R28). -/
def execFaultLogClear (r : Requester) (page : Fin 32) (s : State) : Result := s.logic (·.poke r (PG_EVT_PEND page) (2 ^ 31))

/-- EVT_PEND_CLEAR: a write of EVT_PEND0 or EVT_PEND1 (R29). -/
def execEvtPendClear (r : Requester) (high : Bool) (value : Word) (s : State) : Result :=
  s.logic (·.poke r (if high then EVT_PEND1 else EVT_PEND0) value.toNat)

/-- SYS_SOFT: 1 to EVT_SOFT (R29). -/
def execSysSoft (r : Requester) (s : State) : Result := s.logic (·.poke r EVT_SOFT 1)

/-- PG_CTRL_EN_WRITE: EN and DBG_FREEZE of a page (R25). -/
def execPgCtrlEnWrite (r : Requester) (page : Fin 32) (en freeze : Bool) (s : State) : Result :=
  s.logic (·.poke r (PG_CTRL page) (b2n en + 4 * b2n freeze))

/-- SOFT_RST: SOFT_RST beside the present EN and DBG_FREEZE (R24). -/
def execSoftRst (r : Requester) (page : Fin 32) (s : State) : Result :=
  s.logic fun d => d.poke r (PG_CTRL page) (d.rd (PG_CTRL page) + 2)

/-- DBG_FREEZE_HALT: a debugger halts the application cores, or lets them go (R24). -/
def execDbgFreezeHalt (halted : Bool) (s : State) : Result := s.logic (·.setHalted halted)

/-- GPIO_EDGE: an enabled edge that has stood for 20 ns (R49). -/
def execGpioEdge (land : Fin 32) (level : Option Bool) (s : State) : Result := s.logic (·.gpioEdge land level)

end Sys2Proof.Machine
end

