-- ==== Sys2Proof/Machine/ExecCmt.lean ====
section
/-!
DEFINITION. The commands of the staged set and the keystone (R30 to R44).
-/
namespace Sys2Proof.Machine

/-- SHADOW_WRITE: a write at a shadow offset (R31). -/
def execShadowWrite (r : Requester) (addr : Nat) (value : Word) (s : State) : Result := s.logic (·.poke r addr value.toNat)

/-- CHECK: CMT_CTRL.CHECK (R36). -/
def execCmtCheck (r : Requester) (s : State) : Result := s.logic (·.poke r CMT_CTRL 1)

/-- CHECK_DONE: the check ends (R36). -/
def execCheckDone (s : State) : Result := s.logic (·.checkDone)

/-- CMT_ABORT: CMT_CTRL.ABORT (R33). -/
def execCmtAbort (r : Requester) (s : State) : Result := s.logic (·.poke r CMT_CTRL 2)

/-- DISCARD: CMT_CTRL.DISCARD (R30). -/
def execCmtDiscard (r : Requester) (s : State) : Result := s.logic (·.poke r CMT_CTRL 4)

/-- CLAIM: CMT_CTRL.CLAIM (R31). -/
def execCmtClaim (r : Requester) (s : State) : Result := s.logic (·.poke r CMT_CTRL 8)

/-- CMT_RELEASE: CMT_CTRL.RELEASE (R31). -/
def execCmtRelease (r : Requester) (s : State) : Result := s.logic (·.poke r CMT_CTRL 16)

/-- CMT_FIRE_TARGET_WRITE: CMT_FIRE_NS or CMT_FIRE_WRAP (R32). -/
def execCmtFireTargetWrite (r : Requester) (wrap : Bool) (value : Word) (s : State) : Result :=
  s.logic (·.poke r (if wrap then CMT_FIRE_WRAP else CMT_FIRE_NS) value.toNat)

/-- GO: CMT_ARM with GO, AT and QUIESCE (R37). -/
def execCmtGo (r : Requester) (at' quiesce : Bool) (s : State) : Result :=
  s.logic (·.poke r CMT_ARM (1 + 2 * b2n at' + 4 * b2n quiesce))

/-- CLAIM_TIMEOUT (R33). -/
def execClaimTimeout (s : State) : Result := s.logic (·.setTimeout)

/-- DRAIN_START (R37). -/
def execDrainStart (s : State) : Result := s.logic (·.drainStart)

/-- DRAIN_DONE (R44). -/
def execDrainDone (s : State) : Result := s.logic (·.drainDone)

/-- QUIESCE_TIMEOUT (R37). -/
def execQuiesceTimeout (s : State) : Result := s.logic (·.quiesceTimeout)

/-- RECHECK (R38). -/
def execRecheck (s : State) : Result := s.logic (·.recheckAt)

/-- KEYSTONE_FIRE (R40). -/
def execKeystoneFire (s : State) : Result := s.logic (·.keystoneFire)

/-- FIRE_COMPLETE, with the apply latency in ticks (R33). -/
def execFireComplete (latency : Fin 2501) (s : State) : Result := s.logic (·.fireComplete latency)

/-- BOUNDARY_APPLY (R41). -/
def execBoundaryApply (b : Boundary) (s : State) : Result := s.logic (·.boundaryApply b)

end Sys2Proof.Machine
end

