-- ==== Sys2Proof/Machine/ExecDsp.lean ====
section
/-!
DEFINITION. The commands of the display (R340 to R349).
-/
namespace Sys2Proof.Machine

/-- DSP_FRAME_START (R343). -/
def execDspFrameStart (s : State) : Result := s.logic (·.frameStart)

/-- DSP_FRAME_DONE (R343). -/
def execDspFrameDone (s : State) : Result := s.logic (·.frameDone)

/-- PANEL_RAIL_UP (R344). -/
def execPanelRailUp (s : State) : Result := s.logic (·.panelRailUp)

/-- PANEL_OFF (R345). -/
def execPanelOff (s : State) : Result := s.logic (·.panelOff)

/-- OFF_SEQUENCE_DONE (R345). -/
def execOffSequenceDone (s : State) : Result := s.logic (·.panelOffDone)

/-- DSP_RAIL_FAULT (R347). -/
def execDspRailFault (rail : Fin 4) (s : State) : Result := s.logic (·.railFault rail)

/-- RESTART: DSP_CMD.RESTART (R347). -/
def execDspRestart (r : Requester) (s : State) : Result := s.logic (·.poke r DSP_CMD 1)

end Sys2Proof.Machine
end

