-- ==== Sys2Proof/Machine/ExecDst.lean ====
section
/-!
DEFINITION. The commands of the distribution engine (R146 to R157).
-/
namespace Sys2Proof.Machine

/-- DST_START: the command START to a slot, with its links (R152). -/
def execDstStart (r : Requester) (slot : Fin 8) (links : Fin 4) (s : State) : Result :=
  s.logic (·.poke r (DST_C_CTRL slot) (1 + 256 * links.val))

/-- DST_ACTIVATE: the command ACTIVATE to a slot (R151). -/
def execDstActivate (r : Requester) (slot : Fin 8) (s : State) : Result := s.logic (·.poke r (DST_C_CTRL slot) 2)

/-- DST_ABORT: the command ABORT to a slot (R151). -/
def execDstAbort (r : Requester) (slot : Fin 8) (s : State) : Result := s.logic (·.poke r (DST_C_CTRL slot) 3)

/-- DST_ROLLBACK: the command ROLLBACK to a slot (R151). -/
def execDstRollback (r : Requester) (slot : Fin 8) (s : State) : Result := s.logic (·.poke r (DST_C_CTRL slot) 4)

/-- DST_RELEASE: the command RELEASE to a slot (R151). -/
def execDstRelease (r : Requester) (slot : Fin 8) (s : State) : Result := s.logic (·.poke r (DST_C_CTRL slot) 5)

/-- DST_SEND (R153). -/
def execDstSend (link : Fin 2) (s : State) : Result := s.logic (·.dstSend link)

/-- DST_REPORT: the message of a meter (R150). -/
def execDstReport (meter : BitVec 64) (message : Bytes) (s : State) : Result := s.logic (·.dstReport meter.toNat message)

/-- CAMPAIGN_DEADLINE (R151). -/
def execCampaignDeadline (slot : Fin 8) (s : State) : Result := s.logic (·.dstDeadline slot)

/-- ACT_WAIT_EXPIRE (R150). -/
def execActWaitExpire (slot : Fin 8) (s : State) : Result := s.logic (·.dstSilent slot)

end Sys2Proof.Machine
end

