-- ==== Sys2Proof/Machine/ExecEpc.lean ====
section
/-!
DEFINITION. The commands of the epoch engine (R75 to R91).
-/
namespace Sys2Proof.Machine

/-- EPOCH_BOUNDARY (R75). -/
def execEpochBoundary (s : State) : Result := s.logic (·.epochBoundary)

/-- SEAL_INSTANT (R81). -/
def execSealInstant (s : State) : Result := s.logic (·.sealInstant)

/-- SEAL_LEAVE_GRANTED (R81). -/
def execSealLeaveGranted (s : State) : Result := s.logic (·.sealLeaveGranted)

/-- SEAL_FINALISE (R81). -/
def execSealFinalise (s : State) : Result := s.logic (·.sealFinalise)

/-- BAL_EPOCH_REPORT (R81). -/
def execBalEpochReport (s : State) : Result := s.logic (·.balEpochReport)

/-- SEAL_HASH_DONE (R81). -/
def execSealHashDone (s : State) : Result := s.logic (·.sealHashDone)

/-- SEAL_SIGNED (R81). -/
def execSealSigned (s : State) : Result := s.logic (·.sealSigned)

/-- SEAL_EXPORT (R81). -/
def execSealExport (s : State) : Result := s.logic (·.sealExport)

/-- EXP_CONS_WRITE (R91). -/
def execExpConsWrite (r : Requester) (value : Word) (s : State) : Result := s.logic (·.poke r EPC_EXP_CONS value.toNat)

/-- FENCE_HOLD: EPC_LIVE_FENCE.HOLD = 1 (R90). -/
def execFenceHold (r : Requester) (s : State) : Result := s.logic (·.poke r EPC_LIVE_FENCE 1)

/-- FENCE_RELEASE: EPC_LIVE_FENCE.HOLD = 0 (R90). -/
def execFenceRelease (r : Requester) (s : State) : Result := s.logic (·.poke r EPC_LIVE_FENCE 0)

/-- FENCE_EXPIRE (R90). -/
def execFenceExpire (s : State) : Result := s.logic (·.fenceExpire)

end Sys2Proof.Machine
end

