-- ==== Sys2Proof/Machine/ExecFb.lean ====
section
/-!
DEFINITION. The commands of the field buses (R229 to R233).
-/
namespace Sys2Proof.Machine

/-- POLL_DUE (R230, R231). -/
def execPollDue (bus : Fin 4) (entry : Fin 1024) (s : State) : Result := s.logic (·.pollDue bus entry)

/-- FB_TRANSACTION_START (R231). -/
def execFbTransactionStart (bus : Fin 4) (s : State) : Result := s.logic (·.fbStart bus)

/-- FB_RESPONSE: a response has ended; framing: a framing or parity error; ago: ns since its first start bit (R232). -/
def execFbResponse (bus : Fin 4) (frame : Bytes) (framing : Bool) (ago : Nat) (s : State) : Result :=
  s.logic (·.fbResponse bus frame framing ago)

/-- FBS_POLL_TIMEOUT (R232). -/
def execFbsPollTimeout (bus : Fin 4) (s : State) : Result := s.logic (·.fbTimeout bus)

/-- FB_TURN_END (R231). -/
def execFbTurnEnd (bus : Fin 4) (s : State) : Result := s.logic (·.fbTurnEnd bus)

end Sys2Proof.Machine
end

