-- ==== Sys2Proof/Machine/ExecIng.lean ====
section
/-!
DEFINITION. The commands of ING: registry, intake, exceptions and batches (R57 to R70, R224, R293).
-/
namespace Sys2Proof.Machine

/-- ADD: the code ADD to ING_REG_CMD; the command runs until REG_CMD_DONE (R57). -/
def execRegAdd (r : Requester) (s : State) : Result := s.logic (·.poke r ING_REG_CMD cmdADD)

/-- REMOVE: the code REMOVE to ING_REG_CMD; the command runs until REG_CMD_DONE (R57). -/
def execRegRemove (r : Requester) (s : State) : Result := s.logic (·.poke r ING_REG_CMD cmdREMOVE)

/-- SUSPEND: the code SUSPEND to ING_REG_CMD; the command runs until REG_CMD_DONE (R57). -/
def execRegSuspend (r : Requester) (s : State) : Result := s.logic (·.poke r ING_REG_CMD cmdSUSPEND)

/-- RESUME: the code RESUME to ING_REG_CMD; the command runs until REG_CMD_DONE (R57). -/
def execRegResume (r : Requester) (s : State) : Result := s.logic (·.poke r ING_REG_CMD cmdRESUME)

/-- RESEQ: the code RESEQ to ING_REG_CMD; the command runs until REG_CMD_DONE (R57). -/
def execRegReseq (r : Requester) (s : State) : Result := s.logic (·.poke r ING_REG_CMD cmdRESEQ)

/-- LOOKUP: the code LOOKUP to ING_REG_CMD; the command runs until REG_CMD_DONE (R57). -/
def execRegLookup (r : Requester) (s : State) : Result := s.logic (·.poke r ING_REG_CMD cmdLOOKUP)

/-- FREE: the code FREE to ING_REG_CMD (R57, R387). -/
def execRegFree (r : Requester) (s : State) : Result := s.logic (·.poke r ING_REG_CMD cmdFREE)

/-- REG_CMD_DONE: the running registry command acts and its result stands (R57). -/
def execRegCmdDone (s : State) : Result := s.logic (·.regDone)

/-- READING_INTAKE: ING takes the oldest record of a ring; native is a frame of a lane with its records as the decoder of ring 6 makes them.
In STANDBY the stream of the active feeds ING instead (R60, R292). -/
def execReadingIntake (ring : Fin 8) (native : Option (Fin 512 × List Bytes)) (s : State) : Result :=
  s.logic fun d => if d.red.state = .standby then d.feedAll else (d.intake ring (native.map fun x => (x.1.val, x.2))).closeFullBatches

/-- EXC_CONS_WRITE (R67). -/
def execExcConsWrite (r : Requester) (value : Word) (s : State) : Result := s.logic (·.poke r ING_EXC_CONS value.toNat)

/-- BATCH_HOLD_EXPIRE (R68). -/
def execBatchHoldExpire (s : State) : Result := s.logic (·.batchHoldExpire)

/-- BATCH_RECEIVE: the head-end takes the oldest datagram of its batch lane (R69). -/
def execBatchReceive (s : State) : Result := s.logic (·.batchReceive)

/-- BATCH_ACK_SEND (R293). -/
def execBatchAckSend (s : State) : Result := s.logic (·.batchAckSend)

/-- BATCH_ACK_RECEIVE (R224). -/
def execBatchAckReceive (s : State) : Result := s.logic (·.batchAckReceive)

/-- ACK_TIMEOUT (R69). -/
def execAckTimeout (s : State) : Result := s.logic (·.ackTimeout)

/-- ISLAND_TIMEOUT (R70). -/
def execIslandTimeout (s : State) : Result := s.logic (·.islandTimeout)

/-- REPLAY_SEND (R70). -/
def execReplaySend (s : State) : Result := s.logic (·.replaySend)

end Sys2Proof.Machine
end

