-- ==== Sys2Proof/Machine/ExecJtag.lean ====
section
/-!
DEFINITION. The commands of the test access port (R368). They reach the port whatever is held.
-/
namespace Sys2Proof.Machine

/-- IDCODE. -/
def execJtagIdcode (s : State) : Result := s.act (·.tapIdcode)

/-- SAMPLE/PRELOAD, with the levels of the lands and the data shifted in. -/
def execJtagSamplePreload (lands : BitVec 58) (data : BitVec 174) (s : State) : Result := s.act (·.tapSample lands data)

/-- EXTEST, with the data shifted into the boundary register, where data is shifted. -/
def execJtagExtest (data : Option (BitVec 174)) (s : State) : Result := s.act (·.tapExtest data)

/-- CLAMP. -/
def execJtagClamp (s : State) : Result := s.act (·.tapLoad 4)

/-- HIGHZ. -/
def execJtagHighz (s : State) : Result := s.act (·.tapLoad 5)

/-- RESET. -/
def execJtagReset (s : State) : Result := s.act (·.tapLoad 8)

/-- DTMCS. -/
def execJtagDtmcs (s : State) : Result := s.act (·.tapLoad 16)

/-- DMI. -/
def execJtagDmi (s : State) : Result := s.act (·.tapLoad 17)

/-- BYPASS. -/
def execJtagBypass (s : State) : Result := s.act (·.tapLoad 31)

/-- TAP_RESET: TRST_N, or five TCK cycles with TMS high. -/
def execJtagTapReset (s : State) : Result := s.act (·.tapReset)

/-- TEST_HOLD_EXIT: a hold is left by another code. -/
def execTestHoldExit (code : Fin 32) (s : State) : Result := s.act (·.holdExit code)

end Sys2Proof.Machine
end

