-- ==== Sys2Proof/Machine/ExecKey.lean ====
section
/-!
DEFINITION. The commands of the key engine (R260 to R273).
-/
namespace Sys2Proof.Machine

/-- GENERATE: the job at the front of a ring, when its operation is 1 (R267, R268). -/
def execGenerateJob (ring : Fin 2) (s : State) : Result := s.logic (·.runJob ring 1 Dev.jobGenerate)

/-- DERIVE: the job at the front of a ring, when its operation is 2 (R267, R268). -/
def execDeriveJob (ring : Fin 2) (s : State) : Result := s.logic (·.runJob ring 2 Dev.jobDerive)

/-- IMPORT: the job at the front of a ring, when its operation is 3 (R267, R268). -/
def execImportKey (ring : Fin 2) (s : State) : Result := s.logic (·.runJob ring 3 Dev.jobImport)

/-- INVALIDATE: the job at the front of a ring, when its operation is 4 (R267, R268). -/
def execInvalidateJob (ring : Fin 2) (s : State) : Result := s.logic (·.runJob ring 4 Dev.jobInvalidate)

/-- SAVE: the job at the front of a ring, when its operation is 5 (R267, R268). -/
def execSaveJob (ring : Fin 2) (s : State) : Result := s.logic (·.runJob ring 5 Dev.jobSave)

/-- KEY_LOAD: the job at the front of a ring, when its operation is 6 (R267, R268). -/
def execKeyLoad (ring : Fin 2) (s : State) : Result := s.logic (·.runJob ring 6 Dev.jobLoad)

/-- ATTEST: the job at the front of a ring, when its operation is 7 (R267, R268). -/
def execAttestJob (ring : Fin 2) (s : State) : Result := s.logic (·.runJob ring 7 Dev.jobAttest)

/-- PUBKEY: the job at the front of a ring, when its operation is 8 (R267, R268). -/
def execPubkeyJob (ring : Fin 2) (s : State) : Result := s.logic (·.runJob ring 8 Dev.jobPubkey)

/-- SIGN: the job at the front of a ring, when its operation is 9 (R267, R268). -/
def execSignJob (ring : Fin 2) (s : State) : Result := s.logic (·.runJob ring 9 Dev.jobSign)

/-- VERIFY: the job at the front of a ring, when its operation is 10 (R267, R268). -/
def execVerifyJob (ring : Fin 2) (s : State) : Result := s.logic (·.runJob ring 10 Dev.jobVerify)

/-- AEAD_SEAL: the job at the front of a ring, when its operation is 11 (R267, R268). -/
def execAeadSeal (ring : Fin 2) (s : State) : Result := s.logic (·.runJob ring 11 Dev.jobSeal)

/-- AEAD_OPEN: the job at the front of a ring, when its operation is 12 (R267, R268). -/
def execAeadOpen (ring : Fin 2) (s : State) : Result := s.logic (·.runJob ring 12 Dev.jobOpen)

/-- MAC_GEN: the job at the front of a ring, when its operation is 13 (R267, R268). -/
def execMacGen (ring : Fin 2) (s : State) : Result := s.logic (·.runJob ring 13 Dev.jobMacGen)

/-- MAC_CHECK: the job at the front of a ring, when its operation is 14 (R267, R268). -/
def execMacCheck (ring : Fin 2) (s : State) : Result := s.logic (·.runJob ring 14 Dev.jobMacCheck)

/-- HASH: the job at the front of a ring, when its operation is 15 (R267, R268). -/
def execHashJob (ring : Fin 2) (s : State) : Result := s.logic (·.runJob ring 15 Dev.jobHash)

/-- ECDH_DERIVE: the job at the front of a ring, when its operation is 16 (R267, R268). -/
def execEcdhDerive (ring : Fin 2) (s : State) : Result := s.logic (·.runJob ring 16 Dev.jobEcdhDerive)

/-- DERIVE_BLOB: the job at the front of a ring, when its operation is 17 (R267, R268). -/
def execDeriveBlob (ring : Fin 2) (s : State) : Result := s.logic (·.runJob ring 17 Dev.jobDeriveBlob)

/-- REWRAP: the job at the front of a ring, when its operation is 18 (R267, R268). -/
def execRewrap (ring : Fin 2) (s : State) : Result := s.logic (·.runJob ring 18 Dev.jobRewrap)

/-- EP_REKEY: the job at the front of a ring, when its operation is 19 (R267, R268). -/
def execEpRekey (ring : Fin 2) (s : State) : Result := s.logic (·.runJob ring 19 Dev.jobEpRekey)

/-- RANDOM: the job at the front of a ring, when its operation is 20 (R267, R268). -/
def execRandomJob (ring : Fin 2) (s : State) : Result := s.logic (·.runJob ring 20 Dev.jobRandom)

/-- KEY_CACHE_MISS: the blob of a waiting frame is unwrapped, the radio first (R264). -/
def execKeyCacheMiss (s : State) : Result := s.logic fun d => if (d.mac 0).waitKey.isEmpty then d.plcKeyReady else d.radKeyReady

/-- RNG_HEALTH_FAIL (R270). -/
def execRngHealthFail (s : State) : Result := s.logic (·.rngHealth false)

/-- RNG_HEALTH_PASS (R270). -/
def execRngHealthPass (s : State) : Result := s.logic (·.rngHealth true)

/-- L0_GO: KEY_L0_CMD.GO (R272). -/
def execL0Go (r : Requester) (s : State) : Result := s.logic (·.poke r KEY_L0_CMD 1)

/-- L0_DONE (R272). -/
def execL0Done (s : State) : Result := s.logic (·.l0Done)

end Sys2Proof.Machine
end

