-- ==== Sys2Proof/Machine/ExecObj.lean ====
section
/-!
DEFINITION. The commands of the object engine (R113 to R120).
-/
namespace Sys2Proof.Machine

/-- OBJ_GET: the oldest request, when it is a GET or one of no other row (R119). -/
def execObjGet (s : State) : Result := s.logic (·.objTake .get)

/-- OBJ_SET (R119). -/
def execObjSet (s : State) : Result := s.logic (·.objTake .set)

/-- OBJ_SUSPEND (R114). -/
def execObjSuspend (s : State) : Result := s.logic (·.objTake .suspend)

/-- OBJ_RESUME (R114). -/
def execObjResume (s : State) : Result := s.logic (·.objTake .resume)

/-- OBJ_RESEQ (R114). -/
def execObjReseq (s : State) : Result := s.logic (·.objTake .reseq)

/-- ACK_SUSPECT (R141). -/
def execAckSuspect (s : State) : Result := s.logic (·.objTake .ack)

/-- OBJ_TBL_VALIDATE: OBJ_TBL_CMD.VALIDATE (R118). -/
def execObjTblValidate (r : Requester) (s : State) : Result := s.logic (·.poke r OBJ_TBL_CMD 1)

/-- OBJ_TBL_VALIDATE_DONE (R118). -/
def execObjTblValidateDone (s : State) : Result := s.logic (·.objValidated)

/-- RSP_CONS_WRITE (R120). -/
def execRspConsWrite (r : Requester) (value : Word) (s : State) : Result := s.logic (·.poke r OBJ_RSP_CONS value.toNat)

end Sys2Proof.Machine
end

