-- ==== Sys2Proof/Machine/ExecPlc.lean ====
section
/-!
DEFINITION. The commands of the power line (R198 to R211).
-/
namespace Sys2Proof.Machine

/-- PLC_BEACON_TX (R205). -/
def execPlcBeaconTx (s : State) : Result := s.logic (·.plcBeaconTx)

/-- PLC_FRAME_RX: a frame is received (R202). LEN has 11 bits; a longer PSDU cannot arrive. -/
def execPlcFrameRx (f : PlcRx) (s : State) : Result :=
  if 2047 < f.psdu.length then .fault (.impossibleOperand "PLC_FRAME_RX") else s.logic (·.plcRx f)

/-- PLC_CSMA_SEND (R206). -/
def execPlcCsmaSend (lane : Fin 512) (s : State) : Result := s.logic (·.plcCsmaSend lane)

/-- PLC_ACK_TX (R206). -/
def execPlcAckTx (s : State) : Result := s.logic (·.plcAckTx)

/-- TONEMAP_TX (R207). -/
def execTonemapTx (lane : Fin 512) (s : State) : Result := s.logic (·.tonemapTx lane)

/-- ZC_EDGE (R208). -/
def execZcEdge (s : State) : Result := s.logic (·.zcEdge)

/-- PLC_ZC_LOSS (R208). -/
def execPlcZcLoss (s : State) : Result := s.logic (·.zcLoss)

end Sys2Proof.Machine
end

