-- ==== Sys2Proof/Machine/ExecPwr.lean ====
section
/-!
DEFINITION. The commands of the power domain (R301 to R314).
-/
namespace Sys2Proof.Machine

/-- PWR_FAIL_WARN, with VIN in mV (R305). -/
def execPwrFailWarn (vin : Nat) (s : State) : Result := s.logic (·.powerWarn vin)

/-- FLUSH_DONE (R307). -/
def execFlushDone (s : State) : Result := s.logic (·.flushEnd)

/-- PF_RESET (R305). -/
def execPfReset (vin : Nat) (s : State) : Result := s.logic (·.pfReset vin)

/-- BROWNOUT (R309). -/
def execBrownout (s : State) : Result := s.act (·.brownout)

/-- VBAT_LOSS, with VBAT in mV (R301). -/
def execVbatLoss (mv : Nat) (s : State) : Result := s.act (·.vbatLoss mv)

/-- THERM_HIGH, with the die temperature in mK (R310). -/
def execThermHigh (temp : Int) (s : State) : Result := s.logic (·.thermUp temp)

/-- THERM_CLEAR (R310). -/
def execThermClear (temp : Int) (s : State) : Result := s.logic (·.thermDown temp)

/-- THERMAL_RESET (R320). -/
def execThermalReset (temp : Int) (s : State) : Result := s.act (·.thermalReset temp)

/-- LEAVE_RETURN: a grant of a client ends, or its request is withdrawn (R312). -/
def execLeaveReturn (cls : Fin 16) (page : Fin 32) (tag : Nat) (s : State) : Result := s.logic (·.giveBack cls ⟨page, tag⟩)

/-- PWR_LEAVE_OVERRUN (R313). -/
def execPwrLeaveOverrun (s : State) : Result := s.logic (·.leaveOverrun)

/-- POWER_OVER, with the mean input power in mW (R313). -/
def execPowerOver (mean : Nat) (s : State) : Result := s.logic (·.powerOver mean)

/-- POWER_OVER_END (R313). -/
def execPowerOverEnd (mean : Nat) (s : State) : Result := s.logic (·.powerOverEnd mean)

/-- FW_REQUEST (R314). -/
def execFwRequest (r : Requester) (s : State) : Result := s.logic (·.poke r PWR_FW_CMD 1)

/-- FW_RETURN (R314). -/
def execFwReturn (r : Requester) (s : State) : Result := s.logic (·.poke r PWR_FW_CMD 2)

/-- POWER_UP_STEP; ok: the rail reached regulation in time (R303). -/
def execPowerUpStep (ok : Bool) (s : State) : Result := s.act (·.powerUpStep ok)

/-- POR (R320). -/
def execPor (vin : Nat) (s : State) : Result := s.act (·.powerOn vin)

end Sys2Proof.Machine
end

