-- ==== Sys2Proof/Machine/ExecQry.lean ====
section
/-!
DEFINITION. The commands of the quarry (R161 to R175).
-/
namespace Sys2Proof.Machine

/-- Q_WR: a write of QRY_Q_WR (R162). -/
def execQWr (r : Requester) (q : Fin 1024) (value : Word) (s : State) : Result := s.logic (·.poke r (QRY_Q_WR q) value.toNat)

/-- COMMIT, with the tag of the frame (R162). -/
def execQCommit (r : Requester) (q : Fin 1024) (tag : Fin 32) (s : State) : Result :=
  s.logic (·.poke r (QRY_Q_CMD q) (1 + 2 ^ 16 * tag.val))

/-- ABANDON (R162). -/
def execQAbandon (r : Requester) (q : Fin 1024) (s : State) : Result := s.logic (·.poke r (QRY_Q_CMD q) 2)

/-- ADVANCE (R164). -/
def execQAdvance (r : Requester) (q : Fin 1024) (s : State) : Result := s.logic (·.poke r (QRY_Q_CMD q) 3)

/-- MARK (R164). -/
def execQMark (r : Requester) (q : Fin 1024) (s : State) : Result := s.logic (·.poke r (QRY_Q_CMD q) 4)

/-- REWIND (R164). -/
def execQRewind (r : Requester) (q : Fin 1024) (s : State) : Result := s.logic (·.poke r (QRY_Q_CMD q) 5)

/-- RELEASE (R164). -/
def execQRelease (r : Requester) (q : Fin 1024) (s : State) : Result := s.logic (·.poke r (QRY_Q_CMD q) 6)

/-- SEEK (R164). -/
def execQSeek (r : Requester) (q : Fin 1024) (word : Fin 1024) (s : State) : Result :=
  s.logic (·.poke r (QRY_Q_CMD q) (7 + 2 ^ 16 * word.val))

/-- FORWARD (R166). -/
def execQForward (r : Requester) (q : Fin 1024) (dest : Fin 1024) (s : State) : Result :=
  s.logic (·.poke r (QRY_Q_CMD q) (8 + 2 ^ 16 * dest.val))

/-- RENEW (R170). -/
def execQRenew (r : Requester) (q : Fin 1024) (s : State) : Result := s.logic (·.poke r (QRY_Q_CMD q) 9)

/-- CLR_CORR (R175). -/
def execQClrCorr (r : Requester) (q : Fin 1024) (s : State) : Result := s.logic (·.poke r (QRY_Q_CMD q) 10)

/-- APERTURE_READ: a read of word j of the aperture, with what SECDED finds (R165). -/
def execApertureRead (r : Requester) (q : Fin 1024) (j : Fin 8) (ecc : Fin 3) (s : State) : Result :=
  s.logic (·.busRead r (QRY_Q_AP q j) 4 ecc)

/-- Q_COUNT_READ (R169). -/
def execQCountRead (r : Requester) (q : Fin 1024) (s : State) : Result := s.logic (·.peek r (QRY_Q_COUNT q))

/-- LEASE_EXPIRE (R170). -/
def execLeaseExpire (lane : Fin 512) (s : State) : Result := s.logic (·.leaseExpire lane)

/-- FENCE: QRY_FENCE with FENCE (R171). -/
def execQFence (r : Requester) (lane : Fin 512) (s : State) : Result := s.logic (·.poke r QRY_FENCE (lane.val + 2 ^ 16))

/-- UNFENCE: QRY_FENCE with UNFENCE (R171). -/
def execQUnfence (r : Requester) (lane : Fin 512) (s : State) : Result := s.logic (·.poke r QRY_FENCE (lane.val + 2 ^ 17))

/-- SWEEP_DONE (R172). -/
def execSweepDone (s : State) : Result := s.logic (·.sweepDone)

end Sys2Proof.Machine
end

