-- ==== Sys2Proof/Machine/ExecRad.lean ====
section
/-!
DEFINITION. The commands of the radio (R177 to R197).
-/
namespace Sys2Proof.Machine

/-- SUPERFRAME_START; locked: the synthesiser is in lock (R181). -/
def execSuperframeStart (locked : Bool) (s : State) : Result := s.logic (·.superframe locked)

/-- SYNTH_UNLOCK (R181). -/
def execSynthUnlock (s : State) : Result := s.logic (·.synthUnlock)

/-- RAD_FRAME_RX: a frame is received (R182). The PHR announces at most 2047 octets; a longer PSDU cannot arrive. -/
def execRadFrameRx (f : RadioRx) (s : State) : Result :=
  if 2047 < f.psdu.length then .fault (.impossibleOperand "RAD_FRAME_RX") else s.logic (·.radRx f)

/-- ACK_TX: the acknowledgement owed on the radio goes out (R185). -/
def execAckTx (s : State) : Result := s.logic (·.radAckTx)

/-- ACK_WAIT_TIMEOUT, on the radio or the power line (R185, R206). -/
def execAckWaitTimeout (plc : Bool) (s : State) : Result := s.logic fun d => if plc then d.plcNoAck else d.radNoAck

/-- CSMA_SEND (R184). -/
def execCsmaSend (lane : Fin 512) (s : State) : Result := s.logic (·.radCsmaSend lane)

/-- CSMA_BACKOFF_END, on the radio or the power line, with what CCA finds (R184, R206). -/
def execCsmaBackoffEnd (plc busy : Bool) (s : State) : Result := s.logic fun d => if plc then d.plcBackoffEnd busy else d.radBackoffEnd busy

/-- INDIRECT_TX (R186). -/
def execIndirectTx (s : State) : Result := s.logic (·.indirectTx)

/-- INDIRECT_EXPIRE (R186). -/
def execIndirectExpire (s : State) : Result := s.logic (·.indirectExpire)

/-- CONNECTION_EVENT (R189). -/
def execConnectionEvent (lane : Fin 512) (s : State) : Result := s.logic (·.connectionEvent lane)

/-- LISTEN: LN_CMD LISTEN (R190). -/
def execLaneListen (r : Requester) (lane : Fin 512) (s : State) : Result := s.logic (·.poke r (LN_CMD lane) 1)

/-- DISCONNECT: LN_CMD DISCONNECT (R190). -/
def execLaneDisconnect (r : Requester) (lane : Fin 512) (s : State) : Result := s.logic (·.poke r (LN_CMD lane) 2)

/-- CONNECT_RSP_TX (R190). -/
def execConnectRspTx (lane : Fin 512) (s : State) : Result := s.logic (·.connectRsp lane)

/-- SUPERVISION_TIMEOUT (R191). -/
def execSupervisionTimeout (lane : Fin 512) (s : State) : Result := s.logic (·.supervision lane)

/-- SCAN_START: RAD_SCAN_CMD with START (R195). -/
def execScanStart (r : Requester) (dwell : BitVec 8) (s : State) : Result := s.logic (·.poke r RAD_SCAN_CMD (1 + 256 * dwell.toNat))

/-- RAD_SCAN_DONE, with the peak RSSI of each channel (R195). -/
def execRadScanDone (peaks : List (BitVec 8)) (s : State) : Result := s.logic (·.scanDone peaks)

end Sys2Proof.Machine
end

