-- ==== Sys2Proof/Machine/ExecRec.lean ====
section
/-!
DEFINITION. The commands of the recorder (R277 to R285). Slots of the NOR that no longer hold what was programmed are operands of the
commands that read them.
-/
namespace Sys2Proof.Machine

/-- HIST_SAMPLE; value: what the measured channels read (R278). -/
def execHistSample (ch : Fin 16) (value : BitVec 32) (s : State) : Result := s.logic (·.histSample ch value)

/-- REC_FW_SAMPLE_WRITE: a sample of channel 12 + ch (R278). -/
def execRecFwSampleWrite (r : Requester) (ch : Fin 4) (value : Word) (s : State) : Result :=
  s.logic (·.poke r (REC_FW_SAMPLE ch) value.toNat)

/-- SPAN_END: every span that is due ends (R279). -/
def execSpanEnd (s : State) : Result := s.logic (·.spanEnds)

/-- CONDITION: the oldest raising not yet looked at (R280). -/
def execRecCondition (s : State) : Result := s.logic (·.recEvent Dev.pgStat)

/-- REC_FW_CODE_WRITE (R280). -/
def execRecFwCodeWrite (r : Requester) (value : Word) (s : State) : Result := s.logic (·.poke r REC_FW_CODE value.toNat)

/-- COND_HOLD_EXPIRE (R280). -/
def execCondHoldExpire (s : State) : Result := s.logic (·.condHold)

/-- REC_NOR_WRITE (R281). -/
def execRecNorWrite (s : State) : Result := s.logic (·.recWrite)

/-- REC_STARTUP_SCAN; erase: the sector whose erasure was interrupted (R282). -/
def execRecStartupScan (erase : Option (Fin 1024)) (decayed : List (Fin 524288 × Bytes)) (s : State) : Result :=
  s.logic (·.recScan (erase.map (·.val)) decayed)

/-- REC_LOAD (R283). -/
def execRecLoad (r : Requester) (decayed : List (Fin 524288 × Bytes)) (s : State) : Result :=
  s.logic fun d => (d.recDecay decayed).poke r REC_WIN_CMD 1

/-- REC_NEXT (R283). -/
def execRecNext (r : Requester) (decayed : List (Fin 524288 × Bytes)) (s : State) : Result :=
  s.logic fun d => (d.recDecay decayed).poke r REC_WIN_CMD 2

/-- CLEAR: REC_CLEAR.CLEAR (R284). -/
def execRecClear (r : Requester) (s : State) : Result := s.logic (·.poke r REC_CLEAR 1)

end Sys2Proof.Machine
end

