-- ==== Sys2Proof/Machine/ExecRed.lean ====
section
/-!
DEFINITION. The commands of the pair (R286 to R300). low tells whether the outside holds ACTIVE_N low.
-/
namespace Sys2Proof.Machine

/-- HB_TX (R287). -/
def execHbTx (s : State) : Result := s.logic (·.hbTx)

/-- HB_RX: a heartbeat arrives, on path A with the rest of its sealed frame (R287, R288). -/
def execHbRx (pathB crcOk : Bool) (h : Heartbeat) (view : Option PairView) (s : State) : Result := s.logic (·.hbRx pathB crcOk h view)

/-- HB_PATH_LOSS (R287). -/
def execHbPathLoss (pathB : Bool) (s : State) : Result := s.logic (·.hbLoss pathB)

/-- PAIR_FRAME_RX (R288). -/
def execPairFrameRx (opens : Bool) (s : State) : Result := s.logic (·.pairFrame opens)

/-- KICK: a write of RED_KICK (R289). -/
def execRedKick (r : Requester) (s : State) : Result := s.logic (·.poke r RED_KICK 0)

/-- KICK_TIMEOUT (R289). -/
def execKickTimeout (s : State) : Result := s.logic (·.kickTimeout)

/-- YIELD (R289). -/
def execRedYield (r : Requester) (s : State) : Result := s.logic (·.poke r RED_CMD 1)

/-- FORCE (R289). -/
def execRedForce (r : Requester) (low : Bool) (s : State) : Result := s.logic fun d => (d.seeLine low).poke r RED_CMD 2

/-- RED_RESYNC_CMD (R300). -/
def execRedResyncCmd (r : Requester) (s : State) : Result := s.logic (·.poke r RED_CMD 3)

/-- REGION_SYNC (R292). -/
def execRegionSync (r : Requester) (region : Fin 16) (s : State) : Result := s.logic (·.poke r RED_CMD (4 + 256 * region.val))

/-- REGION_SYNC_DONE (R300). -/
def execRegionSyncDone (region : Fin 16) (s : State) : Result := s.logic (·.regionDone region)

/-- RESTORED (R289). -/
def execRedRestored (r : Requester) (s : State) : Result := s.logic (·.poke r RED_CMD 5)

/-- JOIN_WAIT_EXPIRE (R289). -/
def execJoinWaitExpire (low : Bool) (s : State) : Result := s.logic fun d => (d.seeLine low).joinExpire

/-- FENCE_CLAIM_WAIT_END (R290). -/
def execFenceClaimWaitEnd (low : Bool) (s : State) : Result := s.logic fun d => (d.seeLine low).claimWaitEnd

/-- RED_TAKEOVER (R295). -/
def execRedTakeover (s : State) : Result := s.logic (·.redTakeover)

/-- TAKEOVER_EVAL (R290). -/
def execTakeoverEval (low : Bool) (s : State) : Result := s.logic fun d => (d.seeLine low).takeoverEval

/-- ARMATURE_ITEM (R292). -/
def execArmatureItem (seq : Nat) (item : ArmItem) (s : State) : Result := s.logic (·.armItem seq item)

/-- MIRROR_ACK (R293). -/
def execMirrorAck (seq : Nat) (s : State) : Result := s.logic (·.mirrorAck seq)

/-- MIRROR_LAG_EXPIRE; full: the window is full (R293). -/
def execMirrorLagExpire (full : Bool) (s : State) : Result := s.logic (·.lagExpire full)

/-- ROOT_COMPARE: what the partner reports arrives and is compared (R294). -/
def execRootCompare (partner : Option PartnerRoot) (s : State) : Result := s.logic (·.compareRoots partner)

/-- RESYNC_PASS: left MiB remain, which take us µs; copy: what the joiner receives (R298). -/
def execResyncPass (left us : Nat) (copy : Option PairCopy) (s : State) : Result := s.logic (·.resyncPass left us copy)

/-- RED_PAIR_RESYNC_DONE (R289). -/
def execRedPairResyncDone (s : State) : Result := s.logic (·.resyncDone)

/-- FENCE_FAULT (R291). -/
def execFenceFault (s : State) : Result := s.logic (·.fenceFault)

end Sys2Proof.Machine
end

