-- ==== Sys2Proof/Machine/ExecSys.lean ====
section
/-!
DEFINITION. The commands of clocks, reset, life cycle, memory and the system page (R316 to R339, R363).
-/
namespace Sys2Proof.Machine

/-- CLK_ROOT_LOSS (R318). -/
def execClkRootLoss (s : State) : Result := s.logic (·.rootLoss)

/-- ROOT_RETURN (R318). -/
def execRootReturn (s : State) : Result := s.logic (·.rootReturn)

/-- CLK_LOSS_TIMEOUT (R318). -/
def execClkLossTimeout (s : State) : Result := s.logic (·.rootTimeout)

/-- DRAM_PLL_UNLOCK (R318). -/
def execDramPllUnlock (s : State) : Result := s.logic (·.dramUnlock)

/-- DRAM_PLL_RELOCK (R318). -/
def execDramPllRelock (s : State) : Result := s.logic (·.dramRelock)

/-- PIN_RESET: RST_N low for 1 µs (R320). -/
def execPinReset (s : State) : Result := s.act (·.resetTo false (2 ^ 3))

/-- RST_CORE (R319). -/
def execRstCore (r : Requester) (s : State) : Result := s.logic (·.poke r SYS_RST_CMD (0xA5C30000 + 1))

/-- RST_WARM (R319). -/
def execRstWarm (r : Requester) (s : State) : Result := s.logic (·.poke r SYS_RST_CMD (0xA5C30000 + 2))

/-- RST_FULL (R319). -/
def execRstFull (r : Requester) (s : State) : Result := s.logic (·.poke r SYS_RST_CMD (0xA5C30000 + 3))

/-- BOOT: BOOT_SEL, and the count of the RTC (R321, R323). -/
def execBootRun (sel : Fin 4) (rtc : Nat) (s : State) : Result := s.logic (·.boot sel rtc)

/-- BOOT_RETRY (R323). -/
def execBootRetry (s : State) : Result := s.logic (·.bootRetry)

/-- MEM_INIT_DONE (R334). -/
def execMemInitDone (s : State) : Result := s.logic (·.memInitDone)

/-- MEM_ECC_CORR_SUMMARY, with the words corrected since the last (R334). -/
def execMemEccCorrSummary (corrected : Nat) (s : State) : Result := s.logic (·.eccSummary corrected)

/-- MEM_ECC_UNCORR; reader: the page whose block read the word (R334). -/
def execMemEccUncorr (addr : Nat) (reader : Option (Fin 32)) (s : State) : Result := s.logic (·.eccUncorr addr reader)

/-- WDT_KICK (R333). -/
def execWdtKick (r : Requester) (value : Word) (s : State) : Result := s.logic (·.poke r SYS_WDT_KICK value.toNat)

/-- WDT_WARN (R333). -/
def execWdtWarn (s : State) : Result := s.logic (·.wdtWarn)

/-- WDT_BITE (R333). -/
def execWdtBite (s : State) : Result := s.logic (·.wdtBite)

/-- TAMPER (R328). -/
def execTamperEdge (s : State) : Result := s.act (·.tamper)

/-- TAMPER_CLR, with the level of TAMPER_N (R328). -/
def execTamperClr (r : Requester) (pinHigh : Bool) (s : State) : Result :=
  s.logic fun d => ({ d with rst := { d.rst with tamperPinHigh := pinHigh } } : Dev).poke r RST_TAMPER_CLR 1

/-- LC_AUTH_GO (R326). -/
def execLcAuthGo (r : Requester) (target : Fin 8) (s : State) : Result := s.logic (·.poke r RST_LC_AUTH_CMD (target.val + 256))

/-- LC_AUTH_DONE (R326). -/
def execLcAuthDone (s : State) : Result := s.logic (·.authDone)

/-- LC_FUSE_RESET (R327). -/
def execLcFuseReset (s : State) : Result := s.logic (·.lcFuseReset)

/-- OWNER_PROGRAM (R325). -/
def execOwnerProgram (r : Requester) (index : Fin 4) (s : State) : Result := s.logic (·.poke r RST_OWNER_CMD (index.val + 256))

/-- OWNER_REVOKE (R325). -/
def execOwnerRevoke (r : Requester) (index : Fin 4) (s : State) : Result := s.logic (·.poke r RST_OWNER_CMD (index.val + 512))

/-- SVN_GO (R330). -/
def execSvnGo (r : Requester) (svn : Fin 64) (s : State) : Result := s.logic (·.poke r RST_SVN_CMD (svn.val + 256))

/-- ERASE (R329). -/
def execNorErase (r : Requester) (s : State) : Result := s.logic (·.poke r SYS_NOR_CMD 1)

/-- PROGRAM (R329). -/
def execNorProgram (r : Requester) (s : State) : Result := s.logic (·.poke r SYS_NOR_CMD 2)

/-- NOR_OP_DONE (R329). -/
def execNorOpDone (s : State) : Result := s.logic (·.norDone)

/-- IMG_VERIFY (R330). -/
def execImgVerify (r : Requester) (bank : Bool) (s : State) : Result := s.logic (·.poke r SYS_IMG_CMD (1 + 2 * b2n bank))

/-- IMG_VERIFY_DONE (R330). -/
def execImgVerifyDone (s : State) : Result := s.logic (·.imgDone)

/-- UC_LOAD (R331). -/
def execUcLoad (r : Requester) (s : State) : Result := s.logic (·.poke r SYS_UC_CMD 1)

/-- UC_LOAD_DONE (R331). -/
def execUcLoadDone (s : State) : Result := s.logic (·.ucDone)

/-- RESTORE_FACTORY (R332). -/
def execRestoreFactory (r : Requester) (s : State) : Result := s.logic (·.poke r SYS_CAL_CMD 1)

/-- SYS_MAILBOX (R336). -/
def execSysMailbox (r : Requester) (value : Word) (s : State) : Result := s.logic (·.poke r SYS_MBOX_TO_APP value.toNat)

/-- MBOX_TO_SEC_WRITE (R336). -/
def execMboxToSecWrite (r : Requester) (value : Word) (s : State) : Result := s.logic (·.poke r SYS_MBOX_TO_SEC value.toNat)

/-- APP_RUN_WRITE (R323). -/
def execAppRunWrite (r : Requester) (value : Word) (s : State) : Result := s.logic (·.poke r SYS_APP_RUN value.toNat)

/-- NVS_COMPLETION: the oldest command completes with a status; mirror acknowledgements that waited for it go out (R335). -/
def execNvsCompletion (status : Nat) (s : State) : Result := s.logic fun d => (d.nvsCompletion status).ackPump

/-- NVS_TIMEOUT (R335). -/
def execNvsTimeout (s : State) : Result := s.logic (·.nvsTimeout)

/-- PCI_LINK, with the size of the drive in GB (R335). -/
def execPciLink (up : Bool) (rate width : Fin 4) (gb : Nat) (s : State) : Result := s.logic (·.pciLink up rate width gb)

/-- PERST_RELEASE (R363). -/
def execPerstRelease (s : State) : Result := s.logic (·.perstRelease)

end Sys2Proof.Machine
end

