-- ==== Sys2Proof/Machine/ExecTim.lean ====
section
/-!
DEFINITION. The commands of the time base (R236 to R254).
-/
namespace Sys2Proof.Machine

/-- TIM_WRAP (R238). -/
def execTimWrap (s : State) : Result := s.logic (·.wrapDue)

/-- TIM_NS_READ: latches TIM_WRAP (R236). -/
def execTimNsRead (r : Requester) (s : State) : Result := s.logic (·.peek r TIM_NS)

/-- TIM_INC_WRITE: the high half, which applies both (R237). -/
def execTimIncWrite (r : Requester) (value : Word) (s : State) : Result := s.logic (·.poke r TIM_INC_HI value.toNat)

/-- TIM_STEP: the high half of the step (R239). -/
def execTimStep (r : Requester) (value : Word) (s : State) : Result := s.logic (·.poke r TIM_STEP_HI value.toNat)

/-- CMP_ARM (R240). -/
def execCmpArm (r : Requester) (ch : Fin 16) (s : State) : Result := s.logic (·.poke r (TIM_CMP_CTRL ch) 1)

/-- CMP_DISARM (R240). -/
def execCmpDisarm (r : Requester) (ch : Fin 16) (s : State) : Result := s.logic (·.poke r (TIM_CMP_CTRL ch) 2)

/-- TIM_CMP: channel ch matches when its target is reached (R240). -/
def execTimCmp (ch : Fin 16) (s : State) : Result := s.logic (·.cmpDue ch)

/-- PPS_PULSE_END (R242). -/
def execPpsPulseEnd (s : State) : Result := s.logic (·.ppsPulseEnd)

/-- CMP_OUT_PULSE_END (R240). -/
def execCmpOutPulseEnd (ch : Fin 16) (s : State) : Result := s.logic (·.cmpPulseEnd ch)

/-- CAPTURE_EDGE (R243). -/
def execCaptureEdge (e : CapEdge) (s : State) : Result := s.logic (·.captureEdge e)

/-- CAP_NS_READ (R243). -/
def execCapNsRead (r : Requester) (ch : Fin 8) (s : State) : Result := s.logic (·.peek r (TIM_CAP_NS ch))

/-- TXTS_NS_READ (R245). -/
def execTxtsNsRead (r : Requester) (s : State) : Result := s.logic (·.peek r TIM_TXTS_NS)

/-- POP: TIM_TXTS_POP.POP (R245). -/
def execTxtsPop (r : Requester) (s : State) : Result := s.logic (·.poke r TIM_TXTS_POP 1)

/-- OFFSET_SAMPLE_WRITE: the high half of the offset (R248). -/
def execOffsetSampleWrite (r : Requester) (value : Word) (s : State) : Result := s.logic (·.poke r TIM_OFFSET_HI value.toNat)

/-- TIM_MASTER_LOSS (R250). -/
def execTimMasterLoss (s : State) : Result := s.logic (·.masterLoss)

/-- CLASS_SET (R251). -/
def execClassSet (r : Requester) (cls : Fin 4) (s : State) : Result := s.logic (·.poke r TIM_CLASS_SET cls.val)

/-- HOLD_MAX_EXCEEDED (R251). -/
def execHoldMaxExceeded (s : State) : Result := s.logic (·.holdMax)

end Sys2Proof.Machine
end

