-- ==== Sys2Proof/Machine/ExecTrf.lean ====
section
/-!
DEFINITION. The commands of the tariff engine (R97 to R109).
-/
namespace Sys2Proof.Machine

/-- TBL_VALIDATE: TRF_TBL_CMD.VALIDATE (R97). -/
def execTblValidate (r : Requester) (s : State) : Result := s.logic (·.poke r TRF_TBL_CMD 1)

/-- TRF_TBL_VALIDATE_DONE (R97). -/
def execTrfTblValidateDone (s : State) : Result := s.logic (·.trfValidated)

/-- TRF_SWITCH (R109). -/
def execTrfSwitch (s : State) : Result := s.logic (·.trfSwitch)

/-- TRF_DEMAND_END (R102). -/
def execTrfDemandEnd (s : State) : Result := s.logic (·.trfDemandEnd)

end Sys2Proof.Machine
end

