-- ==== Sys2Proof/Machine/ExecTrk.lean ====
section
/-!
DEFINITION. The commands of the trunk ring (R212 to R224).
-/
namespace Sys2Proof.Machine

/-- TRK_FRAME_RX: a ring frame passes; code: the PCS saw a code error; ago: ns since its start; residence: its ns in the station (R218). -/
def execTrkFrameRx (port : Fin 2) (frame : Bytes) (code : Bool) (ago residence : Nat) (s : State) : Result :=
  s.logic (·.trkRx port frame code ago residence)

/-- TOKEN_RX (R219). -/
def execTokenRx (port : Fin 2) (token : RingToken) (s : State) : Result := s.logic (·.tokenRx port token)

/-- TOKEN_RETURN (R220). -/
def execTokenReturn (port : Fin 2) (token : RingToken) (s : State) : Result := s.logic (·.tokenReturn port token)

/-- TOKEN_TIMEOUT (R220). -/
def execTokenTimeout (s : State) : Result := s.logic (·.tokenTimeout)

/-- CLAIM_RETURN (R220). -/
def execClaimReturn (port : Fin 2) (claim : RingClaim) (s : State) : Result := s.logic (·.claimReturn port claim)

/-- CLAIM_RETURN_TIMEOUT (R220). -/
def execClaimReturnTimeout (s : State) : Result := s.logic (·.claimTimeout)

/-- CLAIM_RX (R220). -/
def execClaimRx (port : Fin 2) (claim : RingClaim) (s : State) : Result := s.logic (·.claimRx port claim)

/-- BECOME_MASTER (R220). -/
def execBecomeMaster (s : State) : Result := s.logic (·.becomeMaster)

/-- ADMIT (R221). -/
def execAdmitRx (port : Fin 2) (result : Fin 3) (s : State) : Result := s.logic (·.admitted port result)

/-- JOIN_RETRY (R221). -/
def execJoinRetry (s : State) : Result := s.logic (·.joinRetry)

/-- HELLO_TX (R222). -/
def execHelloTx (port : Fin 2) (s : State) : Result := s.logic (·.helloTx port)

/-- HELLO: the neighbour, with the READY of its port (R222). -/
def execHelloRx (port : Fin 2) (ready : Bool) (s : State) : Result := s.logic (·.helloRx port ready)

/-- HELLO_TIMEOUT (R222). -/
def execHelloTimeout (port : Fin 2) (s : State) : Result := s.logic (·.helloTimeout port)

/-- PCS_SYNC_LOSS (R222). -/
def execPcsSyncLoss (port : Fin 2) (s : State) : Result := s.logic (·.syncLoss port)

/-- PCS_SYNC_ACQUIRE (R222). -/
def execPcsSyncAcquire (port : Fin 2) (s : State) : Result := s.logic (·.syncAcquire port)

/-- UNWRAP_HOLD_END (R222). -/
def execUnwrapHoldEnd (port : Fin 2) (s : State) : Result := s.logic (·.holdEnd port)

end Sys2Proof.Machine
end

