-- ==== Sys2Proof/Machine/MgmtOps.lean ====
section
/-!
DEFINITION. Management requests of the uplink (R228): authentication, the sequence check, the operations as EXT accesses, and the
reply.
-/
namespace Sys2Proof.Machine

/-- A management datagram taken apart: its header, its encrypted operations and its tag. -/
structure MgmtReq where
  ses : Nat
  ver : Nat
  ops : Nat
  seq : Nat
  head : Bytes
  body : Bytes
  tag : Bytes

/-- The request that a frame carries. The octets behind the datagram's UDP length are padding. -/
def mgmtParse (f : Bytes) : Option MgmtReq :=
  (ethIp f).bind fun p => (l4Of p).map fun x =>
    let u := slice p (x.off + 8) (beAt p (x.off + 4) 2 - 8)
    { ses := leAt u 0 1, ver := leAt u 1 1, ops := leAt u 2 2, seq := leAt u 4 4,
      head := u.take 16, body := (u.drop 16).take (u.length - 32), tag := u.drop (u.length - 16) }

/-- A request in form: 1 to 64 operations, of which the datagram has the length. DEDUCED: another one is dropped as one whose tag
fails. -/
def MgmtReq.formed (q : MgmtReq) : Bool :=
  decide (1 ≤ q.ops) && decide (q.ops ≤ 64) && q.body.length == 8 * q.ops && q.tag.length == 16 && q.head.length == 16

/-- The opened operations of an authentic request; none when it is dropped: session disabled, VER not 1, or the tag fails. -/
def Dev.mgmtOpen (d : Dev) (q : MgmtReq) : Option Bytes :=
  if 16 ≤ q.ses ∨ !d.bit (UPL_SES_CTRL q.ses) 0 ∨ q.ver ≠ 1 ∨ !q.formed then none
  else d.openUnder (d.fld (UPL_SES_CTRL q.ses) 15 8) (mgmtNonce q.ses 0 q.seq) q.head q.body q.tag

/-- One operation as an EXT access, and its 8 octets of reply: DATA and CAUSE. An operation code that is neither READ nor WRITE
makes no access; what its reply holds is free (DESIGN CHOICE: the manual gives the codes 2 and 3 no meaning). -/
def Dev.mgmtOp (d : Dev) (r : Requester) (op : Bytes) : Dev × Bytes :=
  let w := leAt op 0 4
  let a := w - w % 4
  let reply := fun (v c : Nat) => leBytes 4 v ++ leBytes 1 c ++ zeroBytes 3
  match w % 4 with
  | 0 =>
    let d := d.busRead r a 4
    (d, reply d.bus.data (d.bus.cause.getD 0))
  | 1 =>
    let d := d.busWrite r a 4 (leAt op 4 4)
    (d, reply 0 (d.bus.cause.getD 0))
  | _ => (d.tookFree 5, d.freeBytes 5 ++ zeroBytes 3)

/-- The operations in order, a violation not stopping the ones after it. -/
def mgmtOps (r : Requester) : Nat → Bytes → Dev → Dev × Bytes
  | 0, _, d => (d, [])
  | n + 1, ops, d =>
    let (d, one) := d.mgmtOp r (ops.take 8)
    let (d, rest) := mgmtOps r n (ops.drop 8) d
    (d, one ++ rest)

/-- Send a reply frame through the transmit queue of the MGMT lane. -/
def Dev.mgmtSend (d : Dev) (reply : Option Bytes) : Dev :=
  match reply, d.laneOf 5 2 with
  | some f, some l => (d.pushFrame (2 * l) 0 f d.ext 0).1
  | _, _ => d

/-- An accepted request: its operations, its reply, and the session after it. -/
def Dev.mgmtExecute (d : Dev) (f : Bytes) (q : MgmtReq) (ops : Bytes) : Dev :=
  let d := d.wr (UPL_SES_SEQ q.ses) q.seq
  let (d, body) := mgmtOps ⟨.ext, Fin.ofNat 16 q.ses⟩ q.ops ops d
  let head := mgmtHead q.ses q.ops q.seq
  let reply := (d.sealUnder (d.fld (UPL_SES_CTRL q.ses) 23 16) (mgmtNonce q.ses 1 q.seq) head body).map fun c =>
    mgmtReply f (head ++ c)
  ((d.setSession q.ses { tick := d.time.ticks, reply := reply }).bump UPL_MGMT_OK).mgmtSend reply

/-- What becomes of a request (R228): dropped and counted, answered from the cache, or executed. -/
def Dev.mgmtRequest (d : Dev) (f : Bytes) (q : MgmtReq) : Dev :=
  match d.mgmtOpen q with
  | none => d.bump UPL_MGMT_AUTH_FAIL
  | some ops =>
    let last := d.rd (UPL_SES_SEQ q.ses)
    if q.seq < last then d.bump UPL_MGMT_REPLAY
    else if q.seq = last then
      match (d.session q.ses).reply with
      | none => d.bump UPL_MGMT_REPLAY
      | some f => (d.setSession q.ses { d.session q.ses with tick := d.time.ticks }).mgmtSend (some f)
    else d.mgmtExecute f q ops

/-- MGMT_REQUEST: the oldest frame of the MGMT lane's receive queue is taken and served. A frame that is no UDP request goes the
same way as one that does not authenticate. -/
def Dev.mgmtTake (d : Dev) : Dev :=
  match d.laneOf 5 2 with
  | none => d
  | some l =>
    if !d.runs pUPL then d
    else match d.engineFront l with
      | none => d
      | some x =>
        let f := x.data.drop 16
        let d := d.popFront (2 * l + 1)
        match mgmtParse f with
        | none => d.bump UPL_MGMT_AUTH_FAIL
        | some q => d.mgmtRequest f q

end Sys2Proof.Machine
end

