-- ==== Sys2Proof/Machine/ExecUpl.lean ====
section
/-!
DEFINITION. The commands of the uplink (R225 to R228).
-/
namespace Sys2Proof.Machine

/-- UPL_FRAME_RX: a frame from destination address to FCS; ago: ns since its start (R225). -/
def execUplFrameRx (frame : Bytes) (ago : Nat) (s : State) : Result := s.logic (·.uplRx frame ago)

/-- UPL_FRAME_TX (R226). -/
def execUplFrameTx (lane : Fin 512) (s : State) : Result := s.logic (·.uplTx lane)

/-- UPL_LINK (R225). -/
def execUplLink (link : Bool) (speed : Fin 3) (done : Bool) (s : State) : Result := s.logic (·.uplLink link speed done)

/-- MGMT_REQUEST: the oldest frame of the MGMT lane is served (R228). -/
def execMgmtRequest (s : State) : Result := s.logic (·.mgmtTake)

/-- UPL_SES_CTRL_WRITE (R227). -/
def execUplSesCtrlWrite (r : Requester) (session : Fin 16) (value : Word) (s : State) : Result :=
  s.logic (·.poke r (UPL_SES_CTRL session) value.toNat)

/-- SESSION_IDLE (R227). -/
def execSessionIdle (session : Fin 16) (s : State) : Result := s.logic (·.sesIdle session)

end Sys2Proof.Machine
end

