-- ==== Sys2Proof/Machine/Dispatch.lean ====
section
/-!
DEFINITION. exec: one arm for each command, each one direct call of its meaning.
-/
namespace Sys2Proof.Machine

def exec (i : Instr) (s : State) : Host.Outcome State Fault Refusal :=
  match i with
  | .regWrite a => Sys2Proof.Machine.execRegWrite a s
  | .loHalfWrite r addr value => Sys2Proof.Machine.execLoHalfWrite r addr value s
  | .hiHalfWrite r addr value => Sys2Proof.Machine.execHiHalfWrite r addr value s
  | .loHalfRead r addr => Sys2Proof.Machine.execLoHalfRead r addr s
  | .counterClear r addr => Sys2Proof.Machine.execCounterClear r addr s
  | .w1cWrite r addr value => Sys2Proof.Machine.execW1cWrite r addr value s
  | .faultLogClear r page => Sys2Proof.Machine.execFaultLogClear r page s
  | .evtPendClear r high value => Sys2Proof.Machine.execEvtPendClear r high value s
  | .sysSoft r => Sys2Proof.Machine.execSysSoft r s
  | .pgCtrlEnWrite r page en freeze => Sys2Proof.Machine.execPgCtrlEnWrite r page en freeze s
  | .softRst r page => Sys2Proof.Machine.execSoftRst r page s
  | .dbgFreezeHalt halted => Sys2Proof.Machine.execDbgFreezeHalt halted s
  | .shadowWrite r addr value => Sys2Proof.Machine.execShadowWrite r addr value s
  | .cmtCheck r => Sys2Proof.Machine.execCmtCheck r s
  | .checkDone => Sys2Proof.Machine.execCheckDone s
  | .cmtAbort r => Sys2Proof.Machine.execCmtAbort r s
  | .cmtDiscard r => Sys2Proof.Machine.execCmtDiscard r s
  | .cmtClaim r => Sys2Proof.Machine.execCmtClaim r s
  | .cmtRelease r => Sys2Proof.Machine.execCmtRelease r s
  | .cmtFireTargetWrite r wrap value => Sys2Proof.Machine.execCmtFireTargetWrite r wrap value s
  | .cmtGo r at' quiesce => Sys2Proof.Machine.execCmtGo r at' quiesce s
  | .claimTimeout => Sys2Proof.Machine.execClaimTimeout s
  | .drainStart => Sys2Proof.Machine.execDrainStart s
  | .drainDone => Sys2Proof.Machine.execDrainDone s
  | .quiesceTimeout => Sys2Proof.Machine.execQuiesceTimeout s
  | .recheck => Sys2Proof.Machine.execRecheck s
  | .keystoneFire => Sys2Proof.Machine.execKeystoneFire s
  | .fireComplete latency => Sys2Proof.Machine.execFireComplete latency s
  | .boundaryApply b => Sys2Proof.Machine.execBoundaryApply b s
  | .gpioEdge land level => Sys2Proof.Machine.execGpioEdge land level s
  | .regAdd r => Sys2Proof.Machine.execRegAdd r s
  | .regRemove r => Sys2Proof.Machine.execRegRemove r s
  | .regSuspend r => Sys2Proof.Machine.execRegSuspend r s
  | .regResume r => Sys2Proof.Machine.execRegResume r s
  | .regReseq r => Sys2Proof.Machine.execRegReseq r s
  | .regLookup r => Sys2Proof.Machine.execRegLookup r s
  | .regFree r => Sys2Proof.Machine.execRegFree r s
  | .regCmdDone => Sys2Proof.Machine.execRegCmdDone s
  | .readingIntake ring native => Sys2Proof.Machine.execReadingIntake ring native s
  | .excConsWrite r value => Sys2Proof.Machine.execExcConsWrite r value s
  | .batchHoldExpire => Sys2Proof.Machine.execBatchHoldExpire s
  | .batchReceive => Sys2Proof.Machine.execBatchReceive s
  | .batchAckSend => Sys2Proof.Machine.execBatchAckSend s
  | .batchAckReceive => Sys2Proof.Machine.execBatchAckReceive s
  | .ackTimeout => Sys2Proof.Machine.execAckTimeout s
  | .islandTimeout => Sys2Proof.Machine.execIslandTimeout s
  | .replaySend => Sys2Proof.Machine.execReplaySend s
  | .epochBoundary => Sys2Proof.Machine.execEpochBoundary s
  | .sealInstant => Sys2Proof.Machine.execSealInstant s
  | .sealLeaveGranted => Sys2Proof.Machine.execSealLeaveGranted s
  | .sealFinalise => Sys2Proof.Machine.execSealFinalise s
  | .balEpochReport => Sys2Proof.Machine.execBalEpochReport s
  | .sealHashDone => Sys2Proof.Machine.execSealHashDone s
  | .sealSigned => Sys2Proof.Machine.execSealSigned s
  | .sealExport => Sys2Proof.Machine.execSealExport s
  | .expConsWrite r value => Sys2Proof.Machine.execExpConsWrite r value s
  | .fenceHold r => Sys2Proof.Machine.execFenceHold r s
  | .fenceRelease r => Sys2Proof.Machine.execFenceRelease r s
  | .fenceExpire => Sys2Proof.Machine.execFenceExpire s
  | .tblValidate r => Sys2Proof.Machine.execTblValidate r s
  | .trfTblValidateDone => Sys2Proof.Machine.execTrfTblValidateDone s
  | .trfSwitch => Sys2Proof.Machine.execTrfSwitch s
  | .trfDemandEnd => Sys2Proof.Machine.execTrfDemandEnd s
  | .objGet => Sys2Proof.Machine.execObjGet s
  | .objSet => Sys2Proof.Machine.execObjSet s
  | .objSuspend => Sys2Proof.Machine.execObjSuspend s
  | .objResume => Sys2Proof.Machine.execObjResume s
  | .objReseq => Sys2Proof.Machine.execObjReseq s
  | .ackSuspect => Sys2Proof.Machine.execAckSuspect s
  | .objTblValidate r => Sys2Proof.Machine.execObjTblValidate r s
  | .objTblValidateDone => Sys2Proof.Machine.execObjTblValidateDone s
  | .rspConsWrite r value => Sys2Proof.Machine.execRspConsWrite r value s
  | .balSample => Sys2Proof.Machine.execBalSample s
  | .inventoryFix item => Sys2Proof.Machine.execInventoryFix item s
  | .balEpochPass us => Sys2Proof.Machine.execBalEpochPass us s
  | .balFastPass => Sys2Proof.Machine.execBalFastPass s
  | .suspConsWrite r value => Sys2Proof.Machine.execSuspConsWrite r value s
  | .balAck r value => Sys2Proof.Machine.execBalAck r value s
  | .balTblValidate r => Sys2Proof.Machine.execBalTblValidate r s
  | .balTblValidateDone => Sys2Proof.Machine.execBalTblValidateDone s
  | .mapRewriteDone => Sys2Proof.Machine.execMapRewriteDone s
  | .dstStart r slot links => Sys2Proof.Machine.execDstStart r slot links s
  | .dstActivate r slot => Sys2Proof.Machine.execDstActivate r slot s
  | .dstAbort r slot => Sys2Proof.Machine.execDstAbort r slot s
  | .dstRollback r slot => Sys2Proof.Machine.execDstRollback r slot s
  | .dstRelease r slot => Sys2Proof.Machine.execDstRelease r slot s
  | .dstSend link => Sys2Proof.Machine.execDstSend link s
  | .dstReport meter message => Sys2Proof.Machine.execDstReport meter message s
  | .campaignDeadline slot => Sys2Proof.Machine.execCampaignDeadline slot s
  | .actWaitExpire slot => Sys2Proof.Machine.execActWaitExpire slot s
  | .qWr r q value => Sys2Proof.Machine.execQWr r q value s
  | .qCommit r q tag => Sys2Proof.Machine.execQCommit r q tag s
  | .qAbandon r q => Sys2Proof.Machine.execQAbandon r q s
  | .qAdvance r q => Sys2Proof.Machine.execQAdvance r q s
  | .qMark r q => Sys2Proof.Machine.execQMark r q s
  | .qRewind r q => Sys2Proof.Machine.execQRewind r q s
  | .qRelease r q => Sys2Proof.Machine.execQRelease r q s
  | .qSeek r q word => Sys2Proof.Machine.execQSeek r q word s
  | .qForward r q dest => Sys2Proof.Machine.execQForward r q dest s
  | .qRenew r q => Sys2Proof.Machine.execQRenew r q s
  | .qClrCorr r q => Sys2Proof.Machine.execQClrCorr r q s
  | .apertureRead r q j ecc => Sys2Proof.Machine.execApertureRead r q j ecc s
  | .qCountRead r q => Sys2Proof.Machine.execQCountRead r q s
  | .leaseExpire lane => Sys2Proof.Machine.execLeaseExpire lane s
  | .qFence r lane => Sys2Proof.Machine.execQFence r lane s
  | .qUnfence r lane => Sys2Proof.Machine.execQUnfence r lane s
  | .sweepDone => Sys2Proof.Machine.execSweepDone s
  | .superframeStart locked => Sys2Proof.Machine.execSuperframeStart locked s
  | .synthUnlock => Sys2Proof.Machine.execSynthUnlock s
  | .radFrameRx f => Sys2Proof.Machine.execRadFrameRx f s
  | .ackTx => Sys2Proof.Machine.execAckTx s
  | .ackWaitTimeout plc => Sys2Proof.Machine.execAckWaitTimeout plc s
  | .csmaSend lane => Sys2Proof.Machine.execCsmaSend lane s
  | .csmaBackoffEnd plc busy => Sys2Proof.Machine.execCsmaBackoffEnd plc busy s
  | .indirectTx => Sys2Proof.Machine.execIndirectTx s
  | .indirectExpire => Sys2Proof.Machine.execIndirectExpire s
  | .connectionEvent lane => Sys2Proof.Machine.execConnectionEvent lane s
  | .laneListen r lane => Sys2Proof.Machine.execLaneListen r lane s
  | .laneDisconnect r lane => Sys2Proof.Machine.execLaneDisconnect r lane s
  | .connectRspTx lane => Sys2Proof.Machine.execConnectRspTx lane s
  | .supervisionTimeout lane => Sys2Proof.Machine.execSupervisionTimeout lane s
  | .scanStart r dwell => Sys2Proof.Machine.execScanStart r dwell s
  | .radScanDone peaks => Sys2Proof.Machine.execRadScanDone peaks s
  | .plcBeaconTx => Sys2Proof.Machine.execPlcBeaconTx s
  | .plcFrameRx f => Sys2Proof.Machine.execPlcFrameRx f s
  | .plcCsmaSend lane => Sys2Proof.Machine.execPlcCsmaSend lane s
  | .plcAckTx => Sys2Proof.Machine.execPlcAckTx s
  | .tonemapTx lane => Sys2Proof.Machine.execTonemapTx lane s
  | .zcEdge => Sys2Proof.Machine.execZcEdge s
  | .plcZcLoss => Sys2Proof.Machine.execPlcZcLoss s
  | .trkFrameRx port frame code ago residence => Sys2Proof.Machine.execTrkFrameRx port frame code ago residence s
  | .tokenRx port token => Sys2Proof.Machine.execTokenRx port token s
  | .tokenReturn port token => Sys2Proof.Machine.execTokenReturn port token s
  | .tokenTimeout => Sys2Proof.Machine.execTokenTimeout s
  | .claimReturn port claim => Sys2Proof.Machine.execClaimReturn port claim s
  | .claimReturnTimeout => Sys2Proof.Machine.execClaimReturnTimeout s
  | .claimRx port claim => Sys2Proof.Machine.execClaimRx port claim s
  | .becomeMaster => Sys2Proof.Machine.execBecomeMaster s
  | .admitRx port result => Sys2Proof.Machine.execAdmitRx port result s
  | .joinRetry => Sys2Proof.Machine.execJoinRetry s
  | .helloTx port => Sys2Proof.Machine.execHelloTx port s
  | .helloRx port ready => Sys2Proof.Machine.execHelloRx port ready s
  | .helloTimeout port => Sys2Proof.Machine.execHelloTimeout port s
  | .pcsSyncLoss port => Sys2Proof.Machine.execPcsSyncLoss port s
  | .unwrapHoldEnd port => Sys2Proof.Machine.execUnwrapHoldEnd port s
  | .uplFrameRx frame ago => Sys2Proof.Machine.execUplFrameRx frame ago s
  | .uplFrameTx lane => Sys2Proof.Machine.execUplFrameTx lane s
  | .uplLink link speed done => Sys2Proof.Machine.execUplLink link speed done s
  | .mgmtRequest => Sys2Proof.Machine.execMgmtRequest s
  | .uplSesCtrlWrite r session value => Sys2Proof.Machine.execUplSesCtrlWrite r session value s
  | .sessionIdle session => Sys2Proof.Machine.execSessionIdle session s
  | .pollDue bus entry => Sys2Proof.Machine.execPollDue bus entry s
  | .fbTransactionStart bus => Sys2Proof.Machine.execFbTransactionStart bus s
  | .fbResponse bus frame framing ago => Sys2Proof.Machine.execFbResponse bus frame framing ago s
  | .fbsPollTimeout bus => Sys2Proof.Machine.execFbsPollTimeout bus s
  | .fbTurnEnd bus => Sys2Proof.Machine.execFbTurnEnd bus s
  | .timWrap => Sys2Proof.Machine.execTimWrap s
  | .timNsRead r => Sys2Proof.Machine.execTimNsRead r s
  | .timIncWrite r value => Sys2Proof.Machine.execTimIncWrite r value s
  | .timStep r value => Sys2Proof.Machine.execTimStep r value s
  | .cmpArm r ch => Sys2Proof.Machine.execCmpArm r ch s
  | .cmpDisarm r ch => Sys2Proof.Machine.execCmpDisarm r ch s
  | .timCmp ch => Sys2Proof.Machine.execTimCmp ch s
  | .ppsPulseEnd => Sys2Proof.Machine.execPpsPulseEnd s
  | .captureEdge e => Sys2Proof.Machine.execCaptureEdge e s
  | .capNsRead r ch => Sys2Proof.Machine.execCapNsRead r ch s
  | .txtsNsRead r => Sys2Proof.Machine.execTxtsNsRead r s
  | .txtsPop r => Sys2Proof.Machine.execTxtsPop r s
  | .offsetSampleWrite r value => Sys2Proof.Machine.execOffsetSampleWrite r value s
  | .timMasterLoss => Sys2Proof.Machine.execTimMasterLoss s
  | .classSet r cls => Sys2Proof.Machine.execClassSet r cls s
  | .holdMaxExceeded => Sys2Proof.Machine.execHoldMaxExceeded s
  | .generateJob ring => Sys2Proof.Machine.execGenerateJob ring s
  | .deriveJob ring => Sys2Proof.Machine.execDeriveJob ring s
  | .importKey ring => Sys2Proof.Machine.execImportKey ring s
  | .invalidateJob ring => Sys2Proof.Machine.execInvalidateJob ring s
  | .saveJob ring => Sys2Proof.Machine.execSaveJob ring s
  | .keyLoad ring => Sys2Proof.Machine.execKeyLoad ring s
  | .attestJob ring => Sys2Proof.Machine.execAttestJob ring s
  | .pubkeyJob ring => Sys2Proof.Machine.execPubkeyJob ring s
  | .signJob ring => Sys2Proof.Machine.execSignJob ring s
  | .verifyJob ring => Sys2Proof.Machine.execVerifyJob ring s
  | .aeadSeal ring => Sys2Proof.Machine.execAeadSeal ring s
  | .aeadOpen ring => Sys2Proof.Machine.execAeadOpen ring s
  | .macGen ring => Sys2Proof.Machine.execMacGen ring s
  | .macCheck ring => Sys2Proof.Machine.execMacCheck ring s
  | .hashJob ring => Sys2Proof.Machine.execHashJob ring s
  | .ecdhDerive ring => Sys2Proof.Machine.execEcdhDerive ring s
  | .deriveBlob ring => Sys2Proof.Machine.execDeriveBlob ring s
  | .rewrap ring => Sys2Proof.Machine.execRewrap ring s
  | .epRekey ring => Sys2Proof.Machine.execEpRekey ring s
  | .randomJob ring => Sys2Proof.Machine.execRandomJob ring s
  | .keyCacheMiss => Sys2Proof.Machine.execKeyCacheMiss s
  | .rngHealthFail => Sys2Proof.Machine.execRngHealthFail s
  | .l0Go r => Sys2Proof.Machine.execL0Go r s
  | .l0Done => Sys2Proof.Machine.execL0Done s
  | .histSample ch value => Sys2Proof.Machine.execHistSample ch value s
  | .recFwSampleWrite r ch value => Sys2Proof.Machine.execRecFwSampleWrite r ch value s
  | .spanEnd => Sys2Proof.Machine.execSpanEnd s
  | .recCondition => Sys2Proof.Machine.execRecCondition s
  | .recFwCodeWrite r value => Sys2Proof.Machine.execRecFwCodeWrite r value s
  | .condHoldExpire => Sys2Proof.Machine.execCondHoldExpire s
  | .recNorWrite => Sys2Proof.Machine.execRecNorWrite s
  | .recStartupScan erase decayed => Sys2Proof.Machine.execRecStartupScan erase decayed s
  | .recLoad r decayed => Sys2Proof.Machine.execRecLoad r decayed s
  | .recNext r decayed => Sys2Proof.Machine.execRecNext r decayed s
  | .recClear r => Sys2Proof.Machine.execRecClear r s
  | .hbTx => Sys2Proof.Machine.execHbTx s
  | .hbRx pathB crcOk h view => Sys2Proof.Machine.execHbRx pathB crcOk h view s
  | .hbPathLoss pathB => Sys2Proof.Machine.execHbPathLoss pathB s
  | .pairFrameRx opens => Sys2Proof.Machine.execPairFrameRx opens s
  | .redKick r => Sys2Proof.Machine.execRedKick r s
  | .kickTimeout => Sys2Proof.Machine.execKickTimeout s
  | .redYield r => Sys2Proof.Machine.execRedYield r s
  | .redForce r low => Sys2Proof.Machine.execRedForce r low s
  | .redResyncCmd r => Sys2Proof.Machine.execRedResyncCmd r s
  | .regionSync r region => Sys2Proof.Machine.execRegionSync r region s
  | .regionSyncDone region => Sys2Proof.Machine.execRegionSyncDone region s
  | .redRestored r => Sys2Proof.Machine.execRedRestored r s
  | .joinWaitExpire low => Sys2Proof.Machine.execJoinWaitExpire low s
  | .fenceClaimWaitEnd low => Sys2Proof.Machine.execFenceClaimWaitEnd low s
  | .redTakeover => Sys2Proof.Machine.execRedTakeover s
  | .takeoverEval low => Sys2Proof.Machine.execTakeoverEval low s
  | .armatureItem seq item => Sys2Proof.Machine.execArmatureItem seq item s
  | .mirrorAck seq => Sys2Proof.Machine.execMirrorAck seq s
  | .mirrorLagExpire full => Sys2Proof.Machine.execMirrorLagExpire full s
  | .rootCompare partner => Sys2Proof.Machine.execRootCompare partner s
  | .resyncPass left us copy => Sys2Proof.Machine.execResyncPass left us copy s
  | .redPairResyncDone => Sys2Proof.Machine.execRedPairResyncDone s
  | .fenceFault => Sys2Proof.Machine.execFenceFault s
  | .pwrFailWarn vin => Sys2Proof.Machine.execPwrFailWarn vin s
  | .flushDone => Sys2Proof.Machine.execFlushDone s
  | .pfReset vin => Sys2Proof.Machine.execPfReset vin s
  | .brownout => Sys2Proof.Machine.execBrownout s
  | .vbatLoss mv => Sys2Proof.Machine.execVbatLoss mv s
  | .thermHigh temp => Sys2Proof.Machine.execThermHigh temp s
  | .thermClear temp => Sys2Proof.Machine.execThermClear temp s
  | .leaveReturn cls page tag => Sys2Proof.Machine.execLeaveReturn cls page tag s
  | .pwrLeaveOverrun => Sys2Proof.Machine.execPwrLeaveOverrun s
  | .powerOver mean => Sys2Proof.Machine.execPowerOver mean s
  | .powerOverEnd mean => Sys2Proof.Machine.execPowerOverEnd mean s
  | .fwRequest r => Sys2Proof.Machine.execFwRequest r s
  | .fwReturn r => Sys2Proof.Machine.execFwReturn r s
  | .powerUpStep ok => Sys2Proof.Machine.execPowerUpStep ok s
  | .clkRootLoss => Sys2Proof.Machine.execClkRootLoss s
  | .rootReturn => Sys2Proof.Machine.execRootReturn s
  | .clkLossTimeout => Sys2Proof.Machine.execClkLossTimeout s
  | .dramPllUnlock => Sys2Proof.Machine.execDramPllUnlock s
  | .por vin => Sys2Proof.Machine.execPor vin s
  | .pinReset => Sys2Proof.Machine.execPinReset s
  | .rstCore r => Sys2Proof.Machine.execRstCore r s
  | .rstWarm r => Sys2Proof.Machine.execRstWarm r s
  | .rstFull r => Sys2Proof.Machine.execRstFull r s
  | .bootRun sel rtc => Sys2Proof.Machine.execBootRun sel rtc s
  | .bootRetry => Sys2Proof.Machine.execBootRetry s
  | .memInitDone => Sys2Proof.Machine.execMemInitDone s
  | .memEccCorrSummary corrected => Sys2Proof.Machine.execMemEccCorrSummary corrected s
  | .memEccUncorr addr reader => Sys2Proof.Machine.execMemEccUncorr addr reader s
  | .wdtKick r value => Sys2Proof.Machine.execWdtKick r value s
  | .wdtWarn => Sys2Proof.Machine.execWdtWarn s
  | .wdtBite => Sys2Proof.Machine.execWdtBite s
  | .tamperEdge => Sys2Proof.Machine.execTamperEdge s
  | .tamperClr r pinHigh => Sys2Proof.Machine.execTamperClr r pinHigh s
  | .lcAuthGo r target => Sys2Proof.Machine.execLcAuthGo r target s
  | .lcFuseReset => Sys2Proof.Machine.execLcFuseReset s
  | .ownerProgram r index => Sys2Proof.Machine.execOwnerProgram r index s
  | .ownerRevoke r index => Sys2Proof.Machine.execOwnerRevoke r index s
  | .svnGo r svn => Sys2Proof.Machine.execSvnGo r svn s
  | .norErase r => Sys2Proof.Machine.execNorErase r s
  | .norProgram r => Sys2Proof.Machine.execNorProgram r s
  | .norOpDone => Sys2Proof.Machine.execNorOpDone s
  | .imgVerify r bank => Sys2Proof.Machine.execImgVerify r bank s
  | .imgVerifyDone => Sys2Proof.Machine.execImgVerifyDone s
  | .ucLoad r => Sys2Proof.Machine.execUcLoad r s
  | .restoreFactory r => Sys2Proof.Machine.execRestoreFactory r s
  | .sysMailbox r value => Sys2Proof.Machine.execSysMailbox r value s
  | .mboxToSecWrite r value => Sys2Proof.Machine.execMboxToSecWrite r value s
  | .appRunWrite r value => Sys2Proof.Machine.execAppRunWrite r value s
  | .nvsCompletion status => Sys2Proof.Machine.execNvsCompletion status s
  | .nvsTimeout => Sys2Proof.Machine.execNvsTimeout s
  | .pciLink up rate width gb => Sys2Proof.Machine.execPciLink up rate width gb s
  | .perstRelease => Sys2Proof.Machine.execPerstRelease s
  | .dspFrameStart => Sys2Proof.Machine.execDspFrameStart s
  | .dspFrameDone => Sys2Proof.Machine.execDspFrameDone s
  | .panelRailUp => Sys2Proof.Machine.execPanelRailUp s
  | .panelOff => Sys2Proof.Machine.execPanelOff s
  | .dspRailFault rail => Sys2Proof.Machine.execDspRailFault rail s
  | .dspRestart r => Sys2Proof.Machine.execDspRestart r s
  | .jtagIdcode => Sys2Proof.Machine.execJtagIdcode s
  | .jtagSamplePreload lands data => Sys2Proof.Machine.execJtagSamplePreload lands data s
  | .jtagExtest data => Sys2Proof.Machine.execJtagExtest data s
  | .jtagClamp => Sys2Proof.Machine.execJtagClamp s
  | .jtagHighz => Sys2Proof.Machine.execJtagHighz s
  | .jtagReset => Sys2Proof.Machine.execJtagReset s
  | .jtagDtmcs => Sys2Proof.Machine.execJtagDtmcs s
  | .jtagDmi => Sys2Proof.Machine.execJtagDmi s
  | .jtagBypass => Sys2Proof.Machine.execJtagBypass s
  | .jtagTapReset => Sys2Proof.Machine.execJtagTapReset s
  | .testHoldExit code => Sys2Proof.Machine.execTestHoldExit code s
  | .pcsSyncAcquire port => Sys2Proof.Machine.execPcsSyncAcquire port s
  | .rngHealthPass => Sys2Proof.Machine.execRngHealthPass s
  | .dramPllRelock => Sys2Proof.Machine.execDramPllRelock s
  | .thermalReset temp => Sys2Proof.Machine.execThermalReset temp s
  | .cmpOutPulseEnd ch => Sys2Proof.Machine.execCmpOutPulseEnd ch s
  | .offSequenceDone => Sys2Proof.Machine.execOffSequenceDone s
  | .ucLoadDone => Sys2Proof.Machine.execUcLoadDone s
  | .lcAuthDone => Sys2Proof.Machine.execLcAuthDone s

end Sys2Proof.Machine
end

