-- ==== Sys2Proof/Machine/Step.lean ====
section
/-!
DEFINITION. One step of the block: the command at the front of the queue, or one tick of the TIME clock.
-/
namespace Sys2Proof.Machine

/-- The accumulator of the time base counts: the root is valid and the system PLL locked (R236, R318). -/
def Dev.rootRuns (d : Dev) : Bool := d.clk.rootOk && d.clk.sysPll

/-- One step. DESIGN CHOICE: on an empty queue the block does not idle, one tick of the TIME clock passes (R236); what becomes due at
a tick is a command of the environment. -/
def step (s : State) : Host.Outcome State Fault Refusal :=
  match s.pending with
  | c :: rest => exec c { s with pending := rest }
  | [] => .next { s with dev := s.dev.tick s.dev.rootRuns }

/-- The table spells no command as a word: its rows give no bits, and a word names none. -/
def State.withFetchWord (s : State) (nbits w : Nat) : State :=
  match Sys2Proof.decodeTableWord nbits w with
  | some c => { s with pending := c :: s.pending }
  | none => s

end Sys2Proof.Machine
end

