-- ==== Sys2Proof/WellFormed.lean ====
section
/-!
DEFINITION. The operands that an environment can present, as far as the types of Syntax.lean do not say it.
-/
namespace Sys2Proof

/-- An access of a bus: 1, 2, 4 or 8 bytes, aligned, of a value of that width (R15, R27). -/
def BusAccess.wellFormed (a : BusAccess) : Bool :=
  [1, 2, 4, 8].contains a.width && a.addr % a.width == 0 && decide (a.value < 2 ^ (8 * a.width))

/-- A frame that a PHR can announce: 7 to 2,047 octets (R177, R182). -/
def RadioRx.wellFormed (f : RadioRx) : Bool := decide (f.psdu.length ≤ 2047)

/-- A frame that the LEN of a frame control header can announce: 11 bits (R202). -/
def PlcRx.wellFormed (f : PlcRx) : Bool := decide (f.psdu.length ≤ 2047)

/-- The members of a CLAIM as a bit map gives them: rising, none twice (R217). -/
def RingClaim.wellFormed (c : RingClaim) : Bool :=
  (c.members.zip c.members.tail).all fun p => decide (p.1 < p.2)

/-- A command whose operands the environment can present. -/
def Instr.wellFormed (i : Instr) : Bool :=
  match i with
  | .regWrite a => a.wellFormed
  | .radFrameRx f => f.wellFormed
  | .plcFrameRx f => f.wellFormed
  | .claimReturn _ c => c.wellFormed
  | .claimRx _ c => c.wellFormed
  | _ => true

end Sys2Proof
end

