-- ==== Sys2Proof/Safety.lean ====
section
/-!
DEFINITION. What counts as a safe run of the block, and the words in which statements about single commands are put.
-/
namespace Sys2Proof

/-- A state from which the next step neither faults nor refuses. -/
def Safe (s : Machine.State) : Prop := ∃ t, Machine.step s = .next t

/-- Every waiting command is one that an environment can present. -/
def QueueWellFormed (s : Machine.State) : Prop := ∀ c ∈ s.pending, c.wellFormed = true

/-- The answer of the last access was no violation (R27). -/
def Machine.Dev.accepted (d : Machine.Dev) : Prop := d.bus.cause = none

/-- No boundary-scan instruction holds the internal logic (R368). -/
abbrev Awake (s : Machine.State) : Prop := s.dev.jtag.holds = false

/-- Commands that a held internal logic does not stop: the test access port, power, the plinth and RST_N (R368). -/
def Instr.aboveLogic (i : Instr) : Bool :=
  match i with
  | .jtagIdcode | .jtagSamplePreload _ _ | .jtagExtest _ | .jtagClamp | .jtagHighz | .jtagReset | .jtagDtmcs | .jtagDmi
  | .jtagBypass | .jtagTapReset | .testHoldExit _ | .por _ | .brownout | .thermalReset _ | .vbatLoss _ | .powerUpStep _
  | .tamperEdge | .pinReset => true
  | _ => false

/-- The command answers a next state: the queue as it was, the device one that meets P. -/
def Completes (c : Instr) (s : Machine.State) (P : Machine.Dev → Prop) : Prop :=
  ∃ t, Machine.exec c s = .next t ∧ t.pending = s.pending ∧ P t.dev

/-- The access rules admit a 32-bit write by r at a register address: its page or array is granted (R26), the register's marks and
the class allow its role. -/
def Machine.Dev.mayWrite (d : Machine.Dev) (r : Requester) (a : Nat) : Bool :=
  match d.named a with
  | .live x i => d.granted' r a true && x.roleMay i r.role true && d.writeMay r (x.clsAt a) false
  | .shadow x i _ => d.granted' r a true && x.roleMay i r.role true && d.writeMay r .s true
  | .head _ off => d.granted' r a true && d.writeMay r (Machine.headClass off) false
  | _ => false

/-- The access rules admit a 32-bit read by r at a register address (R26). -/
def Machine.Dev.mayRead (d : Machine.Dev) (r : Requester) (a : Nat) : Bool :=
  match d.named a with
  | .live x i => d.granted' r a false && x.roleMay i r.role false
  | .shadow x i _ => d.granted' r a false && x.roleMay i r.role false
  | .head _ _ => d.granted' r a false
  | _ => false

end Sys2Proof
end

