-- ==== Sys2Proof/Certificates/Slice0/Obligations.lean ====
section
/-!
DEFINITION. The statements about the model. A statement about a command says, for every state and operands that meet its
hypotheses, that the command answers a next state and what stands in it; the hypotheses speak of the state and the operands alone.
-/
open Sys2Proof Sys2Proof.Machine

/-- A step of a state whose queue has c at its front is the meaning of c on that state with the rest of the queue. The queue is the model's own form of the commands that wait (log entry 5). -/
def Obligations.StepRunsFront : Prop :=
  ∀ (c : Instr) (rest : List Instr) (d : Dev),
    step { dev := d, pending := c :: rest } = exec c { dev := d, pending := rest }

/-- With nothing waiting a step is one tick of 4 ns (the model's choice, log entry 1). While the root is valid and the system PLL locked, the pair TIM_WRAP and the accumulator, taken as one number of 96 bits, goes up by TIM_INC modulo 2^96, and a carry into TIM_WRAP is noted for event 8; otherwise it stands. Everything but the time base stays. Where the spec leaves a point open it is the model's reading: log entries 1, 6. -/
def Obligations.EmptyQueueTicks : Prop :=
  ∀ (d : Dev), d.time.acc < 2 ^ 64 → d.time.wrap < 2 ^ 32 → d.inc < 2 ^ 64 →
    ∃ t, step { dev := d, pending := [] } = .next { dev := { d with time := t }, pending := [] } ∧
      t.ticks = d.time.ticks + 1 ∧
      (d.rootRuns = true → t.wrap * 2 ^ 64 + t.acc = (d.time.wrap * 2 ^ 64 + d.time.acc + d.inc) % 2 ^ 96 ∧
        (t.wrapPend = true ↔ d.time.wrapPend = true ∨ 2 ^ 64 ≤ d.time.acc + d.inc)) ∧
      (d.rootRuns = false → t.wrap = d.time.wrap ∧ t.acc = d.time.acc ∧ t.wrapPend = d.time.wrapPend) ∧
      t.cls = d.time.cls ∧ t.cmps = d.time.cmps ∧ t.txts = d.time.txts

/-- While EXTEST, CLAMP or HIGHZ is selected the internal logic is held. Every well-formed command other than the JTAG commands, the power and plinth events (POR, BROWNOUT, THERMAL_RESET, VBAT_LOSS, POWER_UP_STEP, TAMPER) and RST_N then answers the state as it was. That commands which find the logic held have no effect is the model's reading (log entry on the TAP). Where the spec leaves a point open it is the model's reading: log entry 119. -/
def Obligations.HeldLogicIgnoresCommands : Prop :=
  ∀ (i : Instr) (s : State), i.wellFormed = true → s.dev.jtag.holds = true → i.aboveLogic = false → exec i s = .next s

/-- Whatever the command and the state, when exec answers a next state its queue is the queue it was given: no command adds, drops or reorders waiting commands. Where the spec leaves a point open it is the model's reading: log entries 5, 120. -/
def Obligations.EveryCommandLeavesTheQueue : Prop :=
  ∀ (i : Instr) (s t : State), exec i s = .next t → t.pending = s.pending

/-- From every state whose waiting commands are ones an environment can present, a step answers a next state (violations, checks that fail and commands that are not due are next states too), the waiting commands of that state are again such ones, and they are those that waited less the one at the front. Where the spec leaves a point open it is the model's reading: log entries 1, 120. -/
def Obligations.StepNeverStopsAndKeepsTheQueueWellFormed : Prop :=
  ∀ (s : State), QueueWellFormed s → ∃ t, step s = .next t ∧ QueueWellFormed t ∧ t.pending = s.pending.tail

/-- From every state whose waiting commands are well-formed, as many steps as commands wait lead, without a fault or a refusal, to a state in which nothing waits. Where the spec leaves a point open it is the model's reading: log entry 120. -/
def Obligations.QueueRunsEmpty : Prop :=
  ∀ (s : State), QueueWellFormed s →
    ∃ t : State, Host.Core.run core s.pending.length s = .next t ∧ t.pending = []

/-- After reset no command waits, so that the queue is well-formed, and memory lists nothing, so that it is in its canonical form. Where the spec leaves a point open it is the model's reading: log entries 9, 13, 125. -/
def Obligations.ResetQueueWellFormed : Prop :=
  QueueWellFormed State.reset ∧ State.reset.pending = [] ∧ State.reset.dev.mem = [] ∧ Memory.wf State.reset.dev.mem = true

/-- The operations through which every meaning stores a live word and a byte: a register word reads as the low 32 bits of what was stored, and every other live word and every staged word stay; a table of registers in rising order stays in rising order. A byte stored at an address that stores reach reads back, a store to any other address stores nothing, every other byte and every register stay, and memory stays in its canonical form. After reset the registers are in rising order. Where the spec leaves a point open it is the model's reading: log entries 13, 14, 125. -/
def Obligations.StoredWordsAndBytesReadBack : Prop :=
  ∀ (d : Dev) (a v : Nat) (x : Byte),
    ((d.wr a v).rd a = v % 2 ^ 32 ∧ (∀ b, b ≠ a → (d.wr a v).rd b = d.rd b) ∧ (∀ b, (d.wr a v).rdShadow b = d.rdShadow b) ∧
      (d.wr a v).reg.dirty = d.reg.dirty ∧ (d.wr a v).mem = d.mem) ∧
    (RegMap.rising d.reg.live = true → RegMap.rising (d.wr a v).reg.live = true) ∧ RegMap.rising Dev.reset.reg.live = true ∧
    (storable a = false → d.stByte a x = d) ∧
    (Memory.wf d.mem = true → Memory.wf (d.stByte a x).mem = true ∧ (d.stByte a x).reg = d.reg ∧
      (storable a = true → (d.stByte a x).ldByte a = x) ∧ (∀ b, b ≠ a → (d.stByte a x).ldByte b = d.ldByte b))

/-- REG_WRITE, read or write: an access to the register space that is not 32 bits wide and 32-bit aligned is answered with an error response of cause 5 WIDTH and data 0, and logged by the page that holds the address: the first in full with event 55, a later one by its count. Nothing but the log, the event and the answer changes. That WIDTH comes before every other cause is the model's reading (log entry 16). -/
def Obligations.WrongWidthIsRefused : Prop :=
  ∀ (s : State) (a : BusAccess), Awake s → inRegs a.addr = true → (a.width ≠ 4 ∨ a.addr % 4 ≠ 0) →
    Completes (.regWrite a) s (fun t => t = s.dev.violate a.req a.addr WIDTH a.write ∧
      t.bus.cause = some 5 ∧ t.bus.data = 0 ∧ t.mem = s.dev.mem ∧ t.reg.shadow = s.dev.reg.shadow ∧
      ∀ b, b ≠ PG_FAULT_ADDR (faultPage a.addr) → b ≠ PG_FAULT_INFO (faultPage a.addr) →
        b ≠ PG_EVT_PEND (faultPage a.addr) → t.rd b = s.dev.rd b)

/-- REG_WRITE: a 32-bit aligned access to a live register by a requester whose page or array is not granted, or whose role the register's marks or the class shut out, is answered with cause 2 ROLE_DENIED and data 0 and logged by the page. No register but the page's log and pending word, no staged word and no memory changes. Where the spec leaves a point open it is the model's reading: log entries 16, 18, 19, 20. -/
def Obligations.UngrantedAccessIsRefused : Prop :=
  ∀ (s : State) (a : BusAccess) (x : RegDesc) (i : Nat), Awake s → inRegs a.addr = true → a.width = 4 → a.addr % 4 = 0 →
    s.dev.named a.addr = .live x i →
    (if a.write then s.dev.mayWrite a.req a.addr else s.dev.mayRead a.req a.addr) = false →
    Completes (.regWrite a) s (fun t => t.bus.cause = some ROLE_DENIED ∧ t.bus.data = 0 ∧ t.mem = s.dev.mem ∧
      t.reg.shadow = s.dev.reg.shadow ∧ t.reg.dirty = s.dev.reg.dirty ∧
      ∀ b, b ≠ PG_FAULT_ADDR (faultPage a.addr) → b ≠ PG_FAULT_INFO (faultPage a.addr) →
        b ≠ PG_EVT_PEND (faultPage a.addr) → t.rd b = s.dev.rd b)

/-- The shared operation that logs a violation for page p: with an empty log the address and the word of cause, role and direction stand in PG_FAULT_ADDR and PG_FAULT_INFO and event 55 (bit 31) is raised, its pending bit set whatever PG_EVT_EN holds; with a log that stands only the count field goes up, up to 255, and no event is raised. Where the spec leaves a point open it is the model's reading: log entry 16. -/
def Obligations.FirstViolationIsKept : Prop :=
  ∀ (d : Dev) (p : Fin 32) (addr cause : Nat) (role : ReqRole) (write : Bool), addr < 2 ^ 32 → 1 ≤ cause → cause ≤ 7 →
    (d.rd (PG_FAULT_INFO p) = 0 →
      let t := d.logFault p addr cause role write
      t.rd (PG_FAULT_ADDR p) = addr ∧ t.rd (PG_FAULT_INFO p) = cause + 16 * roleCode role + 128 * b2n write ∧
        (t.rd (PG_EVT_PEND p)).testBit 31 = true ∧ ∃ e, t.evq = d.evq ++ [e] ∧ e.event = 55 ∧ e.page = p.val) ∧
    (d.rd (PG_FAULT_INFO p) ≠ 0 →
      let t := d.logFault p addr cause role write
      t.rd (PG_FAULT_ADDR p) = d.rd (PG_FAULT_ADDR p) ∧ t.evq = d.evq ∧
        t.rd (PG_FAULT_INFO p) % 256 = d.rd (PG_FAULT_INFO p) % 256 ∧
        bitsOf (t.rd (PG_FAULT_INFO p)) 15 8 = min 255 (bitsOf (d.rd (PG_FAULT_INFO p)) 15 8 + 1))

/-- REG_WRITE, COUNTER_CLEAR and W1C_WRITE at a live register that the access rules admit and that its block leaves to its class: an L register that is no half of a pair stores its implemented bits and ignores the reserved ones, a C register clears to 0 whatever is written, each 1 written to a W1C register clears its bit and each 0 leaves its bit. A write to a live R register is a violation with cause NO_REG, to a live S register one with cause STAGED_ONLY. A read of a word that no block computes answers the word. Nothing else changes, but that a read moves the model's counter of free values. Where the spec leaves a point open it is the model's reading: log entries 8, 10, 18. -/
def Obligations.RegisterClasses : Prop :=
  ∀ (s : State) (r : Requester) (a : Nat) (x : RegDesc) (i : Nat) (v : Word), Awake s → inRegs a = true → a % 4 = 0 →
    s.dev.named a = .live x i →
    (s.dev.mayWrite r a = true → x.clsAt a = .l → x.marks.contains .lo = false → x.marks.contains .hi = false →
      s.dev.blockWrite r a v.toNat = .plain →
      Completes (.regWrite ⟨r, a, 4, true, v.toNat⟩) s (· = (s.dev.wr a (v.toNat &&& x.mask)).answer 0)) ∧
    (s.dev.mayWrite r a = true → x.clsAt a = .c → s.dev.blockWrite r a 0 = .plain →
      Completes (.counterClear r a) s (· = (s.dev.wr a 0).answer 0)) ∧
    (s.dev.mayWrite r a = true → x.clsAt a = .w1c → s.dev.blockWrite r a v.toNat = .plain →
      Completes (.w1cWrite r a v) s (fun t => t = (s.dev.wr a (t.rd a)).answer 0 ∧
        ∀ k, (t.rd a).testBit k = ((s.dev.rd a).testBit k && !v.toNat.testBit k))) ∧
    (s.dev.mayWrite r a = true → x.clsAt a = .r →
      Completes (.regWrite ⟨r, a, 4, true, v.toNat⟩) s (· = s.dev.violate r a NO_REG true)) ∧
    (s.dev.mayWrite r a = true → x.clsAt a = .s →
      Completes (.regWrite ⟨r, a, 4, true, v.toNat⟩) s (· = s.dev.violate r a STAGED_ONLY true)) ∧
    (∀ p off, s.dev.mayRead r a = true → regionOf a = .page p off → s.dev.pageRead p off = none →
      latchesOf x a = [] → s.dev.takeLatch a = none →
      Completes (.regWrite ⟨r, a, 4, false, v.toNat⟩) s (· = (s.dev.tookFree).answer (s.dev.rd a)))

/-- LO_HALF_WRITE, HI_HALF_WRITE and LO_HALF_READ at a 64-bit pair that the access rules admit. A write of _LO that the block does not refuse is held and changes no register. A write of _HI that the block leaves to its class applies both halves together and uses the held half up; with no held half the high half alone changes. A read of _LO of a pair that no block computes answers the low half and latches the high half of the same instant for the next read of _HI. Where the spec leaves a point open it is the model's reading: log entry 23. -/
def Obligations.HalvesOfPairs : Prop :=
  ∀ (s : State) (r : Requester) (a : Nat) (x : RegDesc) (i : Nat) (v : Word), Awake s → inRegs a = true → a % 4 = 0 →
    s.dev.named a = .live x i →
    (s.dev.mayWrite r a = true → x.clsAt a = .l → x.marks.contains .lo = true →
      (∀ c, s.dev.blockWrite r a v.toNat ≠ .refuse c) →
      Completes (.loHalfWrite r a v) s (fun t => t = (s.dev.holdLo a v.toNat).answer 0 ∧
        RegMap.get (fun _ => 0) t.reg.loHeld a = v ∧ t.reg.live = s.dev.reg.live)) ∧
    (s.dev.mayWrite r a = true → x.clsAt a = .l → x.marks.contains .lo = false → x.marks.contains .hi = true →
      (∀ w, s.dev.reg.loHeld.find? (fun e => e.1 == a - 4) = some (a - 4, w) → 4 ≤ a →
        (s.dev.takeLo (a - 4)).2.blockWrite r a (w.toNat + 2 ^ 32 * v.toNat) = .plain →
        Completes (.hiHalfWrite r a v) s (fun t => t.rd (a - 4) = w.toNat ∧ t.rd a = (v.toNat &&& x.mask) ∧
          t.reg.loHeld.find? (fun e => e.1 == a - 4) = none ∧ t.bus.cause = none ∧ t.mem = s.dev.mem ∧
          ∀ b, b ≠ a → b ≠ a - 4 → t.rd b = s.dev.rd b)) ∧
      (s.dev.reg.loHeld.find? (fun e => e.1 == a - 4) = none →
        s.dev.blockWrite r a (s.dev.rd (a - 4) + 2 ^ 32 * v.toNat) = .plain →
        Completes (.hiHalfWrite r a v) s (· = (s.dev.wr a (v.toNat &&& x.mask)).answer 0))) ∧
    (∀ p off, s.dev.mayRead r a = true → x.marks.contains .lo = true → regionOf a = .page p off → p ≠ 18 →
      regionOf (a + 4) = .page p (off + 4) → s.dev.pageRead p off = none → s.dev.pageRead p (off + 4) = none →
      s.dev.takeLatch a = none →
      Completes (.loHalfRead r a) s (fun t => t = (({ s.dev with reg := { s.dev.reg with
          hiLatch := RegMap.put s.dev.reg.hiLatch (a + 4) (BitVec.ofNat 32 (s.dev.rd (a + 4))) } } : Dev).tookFree).answer (s.dev.rd a) ∧
        t.bus.data = s.dev.rd a))

/-- FAULT_LOG_CLEAR empties the page's log and clears bit 31 of its pending word, and changes no other register (on the PIN page the level of event 58 may be pending again at once). SYS_SOFT raises event 63 of the SYS page. PG_CTRL_EN_WRITE that leaves EN as it was stores EN and DBG_FREEZE and nothing else; one that changes EN on a page outside the staged set, in a role that has the block, returns the page's leave and starts or ends the block, EN standing as written. DBG_FREEZE_HALT notes the debugger's halt. GPIO_EDGE takes the land's outside level over; an enabled edge sets the land's PIN_EDGE_PEND bit and raises event 58. Where the spec leaves a point open it is the model's reading: log entries 21, 45, 123. -/
def Obligations.HeaderAndPinCommands : Prop :=
  ∀ (s : State) (r : Requester), Awake s →
    (∀ page : Fin 32, s.dev.mayWrite r (PG_EVT_PEND page) = true →
      Completes (.faultLogClear r page) s (fun t => t.rd (PG_FAULT_ADDR page) = 0 ∧ t.rd (PG_FAULT_INFO page) = 0 ∧
        (t.rd (PG_EVT_PEND page)).testBit 31 = false ∧ t.mem = s.dev.mem ∧ t.evq = s.dev.evq ∧
        ∀ b, b ≠ PG_FAULT_ADDR page → b ≠ PG_FAULT_INFO page → b ≠ PG_EVT_PEND page → t.rd b = s.dev.rd b)) ∧
    (s.dev.mayWrite r EVT_SOFT = true → Completes (.sysSoft r) s (· = (s.dev.raise pSYS 2).answer 0)) ∧
    (∀ (page : Fin 32) (en freeze : Bool), s.dev.mayWrite r (PG_CTRL page) = true →
      ¬ (en = true ∧ s.dev.role = 1 ∧ headEndOff.contains page.val = true) →
      ¬ (en = false ∧ (s.dev.cmt.inSet.testBit page = true ∨ page.val = pSYS ∨ page.val = pCMT ∨ page.val = pEVT ∨ page.val = pMEM)) →
      (s.dev.en page = en → Completes (.pgCtrlEnWrite r page en freeze) s
        (· = (s.dev.wr (PG_CTRL page) (b2n en + 4 * b2n freeze)).answer 0)) ∧
      (s.dev.en page ≠ en → Completes (.pgCtrlEnWrite r page en freeze) s (fun t =>
        let d := (s.dev.wr (PG_CTRL page) (b2n en + 4 * b2n freeze)).giveBackPage page
        t = (if en then d.pageBegin page else d.pageEnd page).answer 0 ∧ t.bus.cause = none))) ∧
    (∀ h : Bool, Completes (.dbgFreezeHalt h) s (fun t => t.bus.halted = h ∧ t.reg = s.dev.reg ∧ t.mem = s.dev.mem)) ∧
    (∀ (land : Fin 32) (level : Option Bool),
      let d : Dev := { s.dev with pin := { s.dev.pin with
        driven := setBit s.dev.pin.driven land level.isSome, level := setBit s.dev.pin.level land (level.getD false) } }
      let v := d.gpioLevel land
      let edge := v != d.pin.seen.testBit land && d.bit (if v then PIN_EDGE_RISE else PIN_EDGE_FALL) land && d.en pPIN
      Completes (.gpioEdge land level) s (fun t => t.pin.driven = d.pin.driven ∧ t.pin.level = d.pin.level ∧
        (edge = true → (t.rd PIN_EDGE_PEND).testBit land = true ∧ ∃ e, t.evq = s.dev.evq ++ [e] ∧ e.event = 58) ∧
        (edge = false → t.reg = s.dev.reg ∧ t.evq = s.dev.evq)))

/-- EVT_PEND_CLEAR: each 1 in EVT_PEND0 or EVT_PEND1 clears the pending bit of its event in every page that has it (the PIN page is left out here, where the level of event 58 can stand), and each 0 leaves its event. SOFT_RST of the CLK or the PIN page, out of the staged set and with no user overlay in use: every word of the page that a soft reset takes in reads as its reset value, PG_EVT_EN is 0, of the pending bits only FAULT stays, EN and DBG_FREEZE stay, memory, the staged words and time stay. Which words a soft reset keeps is the model's reading (log entry 24). Where the spec leaves a point open it is the model's reading: log entries 24, 25. -/
def Obligations.EventPageClearAndSoftReset : Prop :=
  ∀ (s : State) (r : Requester), Awake s →
    (∀ (high : Bool) (v : Word), s.dev.mayWrite r (if high then EVT_PEND1 else EVT_PEND0) = true →
      Completes (.evtPendClear r high v) s (fun t => t.mem = s.dev.mem ∧ t.bus.cause = none ∧
        ∀ (p : Fin 32) (b : Nat), p.val ≠ pPIN → (b = 31 ∨ b < (pageEvents p).length) →
          let base := if high then 32 else 0
          let n := eventAt p b
          (t.rd (PG_EVT_PEND p)).testBit b = ((s.dev.rd (PG_EVT_PEND p)).testBit b &&
            !(decide (base ≤ n) && decide (n < base + 32) && v.toNat.testBit (n - base))))) ∧
    (∀ (p : Fin 32) (en freeze : Bool), (p.val = pCLK ∨ p.val = pPIN) → s.dev.mayWrite r (PG_CTRL p) = true →
      s.dev.cmt.inSet.testBit p = false → s.dev.rd (PG_CTRL p) = b2n en + 4 * b2n freeze →
      (s.dev.bootCtl.2 && s.dev.overlayOk) = false → s.dev.pwr.queue = [] →
      Completes (.softRst r p) s (fun t => t.mem = s.dev.mem ∧ t.time = s.dev.time ∧ t.reg.shadow = s.dev.reg.shadow ∧
        t.en p = en ∧ t.bit (PG_CTRL p) 2 = freeze ∧ t.rd (PG_EVT_EN p) = (resetWord (PG_EVT_EN p)).toNat ∧
        t.rd (PG_EVT_PEND p) = (s.dev.rd (PG_EVT_PEND p) &&& 0x80000000) ∧
        ∀ a, s.dev.softResets p a = true → t.rd a = (resetWord a).toNat))

/-- With no check running and no keystone armed, and no other requester owning the set: SHADOW_WRITE of a word that is no half of a pair stores its implemented bits in the shadow, marks it dirty, makes the requester the owner and leaves the set STAGING (a set that was CHECKED loses its result); no live word but the check's result changes. CLAIM of the idle set, CMT_RELEASE of an empty open set and DISCARD of an open one do what R31 and R33 say: DISCARD reloads every dirty shadow from its live word and changes no live word. Where the spec leaves a point open it is the model's reading: log entries 39, 40. -/
def Obligations.StagingAndClaim : Prop :=
  ∀ (s : State) (r : Requester), Awake s → s.dev.othersSet r = false →
    (∀ (a : Nat) (v : Word) (x : RegDesc) (i l : Nat), inRegs a = true → a % 4 = 0 → s.dev.named a = .shadow x i l →
      s.dev.mayWrite r a = true → s.dev.setLockedKs = false → x.marks.contains .lo = false → x.marks.contains .hi = false →
      Completes (.shadowWrite r a v) s (fun t => t.rdShadow l = stageMask x l v.toNat % 2 ^ 32 ∧ t.reg.dirty = putRising l s.dev.reg.dirty ∧
        t.cmt.owner = some r ∧ t.cmt.state = .staging ∧ t.bus.cause = none ∧ t.mem = s.dev.mem ∧
        (∀ b, b ≠ l → t.rdShadow b = s.dev.rdShadow b) ∧ (∀ b, b ≠ CMT_CHECK_RESULT → t.rd b = s.dev.rd b) ∧
        (s.dev.cmt.state = .checked → t.rd CMT_CHECK_RESULT = 0))) ∧
    (s.dev.mayWrite r CMT_CTRL = true → s.dev.cmt.state = .idle →
      Completes (.cmtClaim r) s (· = ({ s.dev with cmt := { s.dev.cmt with
        owner := some r, lastAccess := s.dev.time.ticks, state := .staging, entered := s.dev.time.ticks } } : Dev).answer 0)) ∧
    (s.dev.mayWrite r CMT_CTRL = true → s.dev.setOpen = true → s.dev.reg.dirty = [] →
      Completes (.cmtRelease r) s (· = (({ s.dev with cmt := { s.dev.cmt with
        state := .idle, owner := none, inSet := 0 } } : Dev).wr CMT_CHECK_RESULT 0).answer 0)) ∧
    (s.dev.mayWrite r CMT_CTRL = true → s.dev.setOpen = true →
      Completes (.cmtDiscard r) s (fun t => t.reg.dirty = [] ∧ t.cmt.state = .idle ∧ t.cmt.owner = none ∧
        t.reg.live = s.dev.reg.live ∧ t.mem = s.dev.mem ∧ (∀ a ∈ s.dev.reg.dirty, t.rdShadow a = s.dev.rd a) ∧
        (∀ a, a ∉ s.dev.reg.dirty → t.rdShadow a = s.dev.rdShadow a)))

/-- CHECK by a requester whom no other owner shuts out takes a STAGING set to CHECKING and keeps the target of that moment; no register changes. CHECK_DONE stores result, step, AT_REQ, address and item of the check, writes LAST_RESULT of the pages in the set, raises event 5, and ends in CHECKED where the result is 0 or 5 and the target was not written meanwhile, else in STAGING, a passing result then cleared. ABORT of an armed or quiescing keystone by the owner or SEC stores cause 1, counts it, raises event 7 and returns to STAGING with every staged word and dirty flag as it was. CLAIM_TIMEOUT, once CMT_CLAIM_TIMEOUT has passed since the owner's last access and the entry into the state, discards the set, stores cause 6, counts it and raises event 7. Where the spec leaves a point open it is the model's reading: log entries 28, 29, 36, 40. -/
def Obligations.CheckAbortAndClaimTimeout : Prop :=
  ∀ (s : State) (r : Requester), Awake s →
    (s.dev.mayWrite r CMT_CTRL = true → s.dev.othersSet r = false → s.dev.cmt.state = .staging →
      Completes (.cmtCheck r) s (· = ({ s.dev with cmt := { s.dev.cmt with
        lastAccess := s.dev.time.ticks, state := .checking, inSet := s.dev.dirtyPages, checkTarget := s.dev.fireTarget,
        targetMoved := false } } : Dev).answer 0)) ∧
    (s.dev.cmt.state = .checking →
      let c := s.dev.check s.dev.cmt.checkTarget
      let pass := (c.result == 0 || c.result == 5) && !s.dev.cmt.targetMoved
      Completes .checkDone s (fun t => t.cmt.state = (if pass then .checked else .staging) ∧
        t.rd CMT_CHECK_RESULT = (if (c.result = 0 ∨ c.result = 5) ∧ s.dev.cmt.targetMoved = true then 0
          else (c.result + 16 * c.step + 256 * b2n c.atReq) % 2 ^ 32) ∧
        t.rd CMT_CHECK_ADDR = c.addr % 2 ^ 32 ∧ t.rd CMT_CHECK_ITEM = c.item % 2 ^ 32 ∧ t.rd CMT_QUIESCE_NEED = c.need % 2 ^ 32 ∧
        (∃ e, t.evq = s.dev.evq ++ [e] ∧ e.event = 5) ∧ (pass = true → t.cmt.inSet = s.dev.cmt.inSet) ∧
        (pass = false → t.cmt.inSet = 0) ∧ t.reg.shadow = s.dev.reg.shadow ∧ t.reg.dirty = s.dev.reg.dirty ∧ t.mem = s.dev.mem)) ∧
    (s.dev.mayWrite r CMT_CTRL = true → (s.dev.othersSet r = false ∨ r.role = .sec) →
      (s.dev.cmt.state = .armed ∨ s.dev.cmt.state = .quiescing) →
      Completes (.cmtAbort r) s (fun t => t.cmt.state = .staging ∧ t.rd CMT_STAT = 16 ∧
        t.rd CMT_ABORT_COUNT = satNat (s.dev.rd CMT_ABORT_COUNT + 1) m32 ∧ (∃ e, t.evq = s.dev.evq ++ [e] ∧ e.event = 7) ∧
        t.cmt.inSet = 0 ∧ t.cmt.draining = 0 ∧ t.qry.drain = [] ∧ t.bus.cause = none ∧
        (r.role = .sec → s.dev.cmt.owner.isSome = true → t.cmt.owner = some r) ∧
        t.reg.shadow = s.dev.reg.shadow ∧ t.reg.dirty = s.dev.reg.dirty ∧ t.mem = s.dev.mem)) ∧
    (s.dev.setOpen = true → s.dev.rd CMT_CLAIM_TIMEOUT ≠ 0 →
      max s.dev.cmt.lastAccess s.dev.cmt.entered + 250000 * s.dev.rd CMT_CLAIM_TIMEOUT ≤ s.dev.time.ticks →
      Completes .claimTimeout s (fun t => t = (((s.dev.discardSet.wr CMT_STAT (16 * 6)).bump CMT_ABORT_COUNT).raise pCMT 2) ∧
        t.cmt.state = .idle ∧ t.cmt.owner = none ∧ t.reg.dirty = []))

/-- CMT_FIRE_TARGET_WRITE by the owner, or with no owner, outside ARMED, QUIESCING and FIRING stores the word; a CHECKED set falls back to STAGING with its result cleared, and a write during CHECKING is noted. GO on a checked set whose result and AT_REQ allow it: with neither AT nor QUIESCE the keystone is ARMED to fire 2 us later; with AT and a target less than 2 us ahead it aborts with cause 2; with AT alone it waits ARMED; after a power-fail warning it aborts with cause 5. DRAIN_START of an armed keystone with AT and QUIESCE, at the target less the bound, starts the drain of the pages of CMT_QUIESCE_NEED. DRAIN_DONE, with every such page drained, arms the keystone for 2 us later. QUIESCE_TIMEOUT, with a page undrained at the bound or the target, aborts with cause 3. Where the spec leaves a point open it is the model's reading: log entries 36, 38, 43. -/
def Obligations.TargetArmAndDrain : Prop :=
  ∀ (s : State) (r : Requester), Awake s →
    (∀ (wrap : Bool) (v : Word), let a := if wrap then CMT_FIRE_WRAP else CMT_FIRE_NS
      s.dev.mayWrite r a = true → s.dev.targetHeld r = false →
      (s.dev.cmt.state = .idle ∨ s.dev.cmt.state = .staging →
        Completes (.cmtFireTargetWrite r wrap v) s (· = (s.dev.wr a v.toNat).answer 0)) ∧
      (s.dev.cmt.state = .checked → Completes (.cmtFireTargetWrite r wrap v) s (fun t =>
        t.rd a = v.toNat ∧ t.cmt.state = .staging ∧ t.cmt.inSet = 0 ∧ t.rd CMT_CHECK_RESULT = 0 ∧
        t.reg.dirty = s.dev.reg.dirty ∧ t.reg.shadow = s.dev.reg.shadow ∧ t.mem = s.dev.mem ∧
        ∀ b, b ≠ a → b ≠ CMT_CHECK_RESULT → t.rd b = s.dev.rd b)) ∧
      (s.dev.cmt.state = .checking → Completes (.cmtFireTargetWrite r wrap v) s (· =
        ({ s.dev.wr a v.toNat with cmt := { s.dev.cmt with targetMoved := true } } : Dev).answer 0))) ∧
    (∀ at' quiesce : Bool, s.dev.mayWrite r CMT_ARM = true → s.dev.othersSet r = false → s.dev.cmt.state = .checked →
      (s.dev.rd CMT_CHECK_RESULT % 16 = 5 → quiesce = true) → ((s.dev.rd CMT_CHECK_RESULT).testBit 8 = true → at' = true) →
      Completes (.cmtGo r at' quiesce) s (fun t =>
        t.reg.shadow = s.dev.reg.shadow ∧ t.reg.dirty = s.dev.reg.dirty ∧ t.mem = s.dev.mem ∧ t.bus.cause = none ∧
        t.rd CMT_ARM = 2 * b2n at' + 4 * b2n quiesce ∧
        (s.dev.pwr.pfActive = true → t.cmt.state = .staging ∧ t.rd CMT_STAT = 16 * 5) ∧
        (s.dev.pwr.pfActive = false → at' = true → s.dev.fireTarget < s.dev.ext + 2000 → t.cmt.state = .staging ∧ t.rd CMT_STAT = 16 * 2) ∧
        (s.dev.pwr.pfActive = false → at' = false → quiesce = false → t.cmt.state = .armed ∧ t.cmt.fireTick = s.dev.time.ticks + 500) ∧
        (s.dev.pwr.pfActive = false → at' = true → s.dev.ext + 2000 ≤ s.dev.fireTarget → quiesce = false → t.cmt.state = .armed) ∧
        (s.dev.pwr.pfActive = false → quiesce = true → (at' = false ∨ s.dev.ext + 2000 ≤ s.dev.fireTarget ∧
            s.dev.fireTarget ≤ s.dev.ext + s.dev.rd CMT_QUIESCE_BOUND * 1000) →
          t.cmt.state = .quiescing ∧ t.cmt.draining = s.dev.rd CMT_QUIESCE_NEED) ∧
        (s.dev.pwr.pfActive = false → at' = true → quiesce = true → s.dev.ext + 2000 ≤ s.dev.fireTarget →
          s.dev.ext + s.dev.rd CMT_QUIESCE_BOUND * 1000 < s.dev.fireTarget → t.cmt.state = .armed))) ∧
    (s.dev.cmt.state = .armed → s.dev.cmt.armAt = true → s.dev.cmt.armQuiesce = true → s.dev.cmt.drainBegun = false →
      s.dev.fireTarget ≤ s.dev.ext + s.dev.rd CMT_QUIESCE_BOUND * 1000 →
      Completes .drainStart s (fun t => t.cmt.state = .quiescing ∧ t.cmt.draining = s.dev.rd CMT_QUIESCE_NEED ∧
        t.cmt.drainBegun = true ∧ t.cmt.drainTick = s.dev.time.ticks ∧ t.qry.drain = s.dev.drainGoals ∧
        (s.dev.pwr.queue = [] → t.reg = s.dev.reg) ∧ t.reg.shadow = s.dev.reg.shadow ∧ t.mem = s.dev.mem)) ∧
    (s.dev.cmt.state = .quiescing → s.dev.allDrained = true → Completes .drainDone s (· = { s.dev with cmt := { s.dev.cmt with
      state := .armed, fireTick := s.dev.time.ticks + 500 } })) ∧
    (s.dev.cmt.state = .quiescing → s.dev.allDrained = false →
      (if s.dev.cmt.armAt then s.dev.fireTarget ≤ s.dev.ext
       else s.dev.cmt.drainTick + 250 * s.dev.rd CMT_QUIESCE_BOUND ≤ s.dev.time.ticks) →
      Completes .quiesceTimeout s (fun t => t = s.dev.abortKs 3 ∧ t.cmt.state = .staging ∧ t.rd CMT_STAT = 48))

/-- RECHECK, for an armed keystone not yet rechecked whose fire tick is 1 us (1,000 ns, 250 ticks) ahead or nearer: steps 7 to 9 of R36 are evaluated again on the merged configuration against the load of the moment. If they pass the keystone stays armed and nothing else changes. If one fails, CMT_CHECK_RESULT takes the new result, the keystone aborts with cause 4 RECHECK, and every live word outside the CMT page, every staged word and all of memory stay, so that no part of the set is applied. Where the spec leaves a point open it is the model's reading: log entries 37, 38. -/
def Obligations.RecheckAbortsAPartialLoad : Prop :=
  ∀ (s : State), Awake s → s.dev.cmt.state = .armed → s.dev.cmt.rechecked = false →
    (if s.dev.cmt.armAt then s.dev.fireTarget ≤ s.dev.ext + 1000 ∧ (s.dev.cmt.armQuiesce = true → s.dev.cmt.drainBegun = true)
     else s.dev.cmt.fireTick ≤ s.dev.time.ticks + 250) →
    let c := if s.dev.reg.dirty.isEmpty then { atReq := s.dev.bit CMT_CHECK_RESULT 8 }
             else s.dev.checkTail s.dev.merged (s.dev.bit CMT_CHECK_RESULT 8)
    Completes .recheck s (fun t =>
      (c.result = 0 → t = { s.dev with cmt := { s.dev.cmt with rechecked := true } }) ∧
      (c.result ≠ 0 → t.cmt.state = .staging ∧ bitsOf (t.rd CMT_STAT) 7 4 = 4 ∧
        t.rd CMT_CHECK_RESULT = (c.result + 16 * c.step + 256 * b2n c.atReq) % 2 ^ 32 ∧
        t.rd CMT_ABORT_COUNT = satNat (s.dev.rd CMT_ABORT_COUNT + 1) m32 ∧
        t.reg.shadow = s.dev.reg.shadow ∧ t.reg.dirty = s.dev.reg.dirty ∧ t.mem = s.dev.mem ∧
        ∀ a, onPage pCMT a = false → t.rd a = s.dev.rd a))

/-- KEYSTONE_FIRE at the fire tick of an armed keystone. Where the recheck has passed, or passes now, the state becomes FIRING, nothing is dirty any longer, CMT_LAST_FIRE holds the extended time of the fire, and every dirty word's live value is its staged value before the blocks act on the fire (RST_LC_NEXT stands for the life-cycle state and is not stored); every word that is neither dirty nor one of CMT_LAST_FIRE nor a pending word is unchanged at that point. The device is then what the blocks' own reactions (copying in one tick, log entries 41 to 43) and, for a staged life-cycle change, the change make of it. Where the recheck fails now, the keystone aborts with cause 4 and no live word outside the CMT page changes. Where the spec leaves a point open it is the model's reading: log entries 27, 37, 41, 42, 126. -/
def Obligations.AFireAppliesTheWholeSet : Prop :=
  ∀ (s : State), Awake s → s.dev.cmt.state = .armed →
    (if s.dev.cmt.armAt then s.dev.fireTarget ≤ s.dev.ext ∧ (s.dev.cmt.armQuiesce = true → s.dev.cmt.drainBegun = true)
     else s.dev.cmt.fireTick ≤ s.dev.time.ticks) →
    let c := s.dev.recheck (s.dev.bit CMT_CHECK_RESULT 8)
    let old : Dev := if s.dev.cmt.rechecked then s.dev else { s.dev with cmt := { s.dev.cmt with rechecked := true } }
    let moves : Bool := s.dev.reg.dirty.contains RST_LC_NEXT && s.dev.rdShadow RST_LC_NEXT % 8 != s.dev.lc
    ((s.dev.cmt.rechecked = true ∨ c.result = 0) → Completes .keystoneFire s (fun t => ∃ u : Dev,
      t = (let f := u.firedHooks old s.dev.changedWords; if moves then f.lcFired (s.dev.rdShadow RST_LC_NEXT % 8) else f) ∧
      u.cmt.state = .firing ∧ u.reg.dirty = [] ∧ u.mem = s.dev.mem ∧
      u.rd CMT_LAST_FIRE_NS + 2 ^ 32 * (u.rd CMT_LAST_FIRE_WRAP) = s.dev.ext % 2 ^ 64 ∧
      (∀ a ∈ s.dev.reg.dirty, a ≠ RST_LC_NEXT → a ≠ CMT_LAST_FIRE_NS → a ≠ CMT_LAST_FIRE_WRAP → u.rd a = s.dev.rdShadow a) ∧
      (∀ a, a ∉ s.dev.reg.dirty → onPage pCMT a = false → onPage pPWR a = false → (∀ p, a ≠ PG_EVT_PEND p) → u.rd a = s.dev.rd a))) ∧
    (s.dev.cmt.rechecked = false → c.result ≠ 0 → Completes .keystoneFire s (fun t =>
      t.cmt.state = .staging ∧ t.rd CMT_STAT = 16 * 4 ∧ t.reg.shadow = s.dev.reg.shadow ∧ t.reg.dirty = s.dev.reg.dirty ∧
      t.mem = s.dev.mem ∧ ∀ a, onPage pCMT a = false → t.rd a = s.dev.rd a))

/-- FIRE_COMPLETE of a firing keystone adds one to the generation (24 bits), stores the apply latency, counts the fire, raises event 6 and returns to IDLE with no owner; nothing else changes. BOUNDARY_APPLY of a page or a lane ends the hold of the words the last fire copied there: from then on the live word governs, and every other held word stays. That the words of the copy change in the tick of KEYSTONE_FIRE and the generation moves when the fire completes is the model's reading (log entry 41). Where the spec leaves a point open it is the model's reading: log entries 41, 44. -/
def Obligations.FireEndsAndBoundaries : Prop :=
  ∀ (s : State), Awake s →
    (∀ latency : Fin 2501, s.dev.cmt.state = .firing → Completes (.fireComplete latency) s (fun t =>
      t.rd CMT_GEN = (s.dev.fld CMT_GEN 23 0 + 1) % 2 ^ 24 ∧ t.rd CMT_APPLY_LAT = latency.val ∧
      t.rd CMT_FIRE_COUNT = satNat (s.dev.rd CMT_FIRE_COUNT + 1) m32 ∧ (∃ e, t.evq = s.dev.evq ++ [e] ∧ e.event = 6) ∧
      t.cmt.state = .idle ∧ t.cmt.owner = none ∧ t.cmt.inSet = 0 ∧ t.mem = s.dev.mem ∧ t.reg.shadow = s.dev.reg.shadow ∧
      ∀ a, a ≠ CMT_GEN → a ≠ CMT_APPLY_LAT → a ≠ CMT_FIRE_COUNT → a ≠ PG_EVT_PEND pCMT → t.rd a = s.dev.rd a)) ∧
    (∀ p : Fin 32, Completes (.boundaryApply (.page p)) s (fun t => t = s.dev.boundary (onPage p.val) ∧
      (∀ a, onPage p.val a = true → t.gov a = s.dev.rd a) ∧ (∀ a, onPage p.val a = false → t.gov a = s.dev.gov a) ∧
      ∀ a, t.rd a = s.dev.rd a)) ∧
    (∀ n : Fin 512, Completes (.boundaryApply (.lane n)) s (fun t => t = s.dev.boundary (onLane n.val) ∧
      (∀ a, onLane n.val a = true → t.gov a = s.dev.rd a) ∧ (∀ a, onLane n.val a = false → t.gov a = s.dev.gov a) ∧
      ∀ a, t.rd a = s.dev.rd a))

/-- ADD, REMOVE, SUSPEND, RESUME, RESEQ, LOOKUP and FREE written while no command runs and no set changes the layout leave the device as it was but for the running command. REG_CMD_DONE ends the command and stores its result: 7 while the configuration is invalid; 2 for an address the lookup does not find and 1 for ADD of one it finds, with memory and every other register as they were; LOOKUP stores index and state in ING_REG_INDEX; SUSPEND of a LIVE and RESUME of a SUSPENDED entry change the state in the table and in the record, in the other state the result is 6; REMOVE leaves a tombstone; RESEQ marks the index; ADD takes the next new index (or the head of the free list), writes the entry and a cleared record, counts it and stores its index; FREE puts a tombstone's index at the head of the free list. Where the spec leaves a point open it is the model's reading: log entry 2. -/
def Obligations.RegistryCommands : Prop :=
  ∀ (s : State) (r : Requester), Awake s →
    (s.dev.mayWrite r ING_REG_CMD = true → s.dev.ing.cmd = 0 → s.dev.regLocked = false →
      ∀ c ∈ [(Instr.regAdd r, 1), (Instr.regRemove r, 2), (Instr.regSuspend r, 3), (Instr.regResume r, 4), (Instr.regReseq r, 5),
        (Instr.regLookup r, 6), (Instr.regFree r, 7)],
      Completes c.1 s (· = ({ s.dev with ing := { s.dev.ing with cmd := c.2 } } : Dev).answer 0)) ∧
    (let addr := s.dev.rd64 ING_REG_ADDR_LO
     let k := s.dev.ing.cmd
     let ends := fun (P : Dev → Prop) => Completes .regCmdDone s (fun t => t.ing.cmd = 0 ∧ P t)
     let same := fun (res : Nat) (t : Dev) => t.rd ING_REG_STAT = 16 * res ∧ t.mem = s.dev.mem ∧
       ∀ a, a ≠ ING_REG_STAT → t.rd a = s.dev.rd a
     (k ≠ 0 → ingCfgInvalid s.dev = true → ends (same 7)) ∧
     (ingCfgInvalid s.dev = false →
      (s.dev.lookup addr = none → (2 ≤ k ∧ k ≤ 6) → ends (same 2)) ∧
      (∀ h, s.dev.lookup addr = some h →
        (k = 1 → ends (same 1)) ∧
        (k = 2 → ends fun t => t.rd ING_REG_STAT = 0 ∧ t.mem = (s.dev.setEntryState h stTOMBSTONE).mem) ∧
        (k = 3 → h.state = stLIVE → ends fun t => t.rd ING_REG_STAT = 0 ∧ t.mem = (s.dev.setEntryState h stSUSPENDED).mem) ∧
        (k = 3 → h.state ≠ stLIVE → ends (same 6)) ∧
        (k = 4 → h.state = stSUSPENDED → ends fun t => t.rd ING_REG_STAT = 0 ∧ t.mem = (s.dev.setEntryState h stLIVE).mem) ∧
        (k = 4 → h.state ≠ stSUSPENDED → ends (same 6)) ∧
        (k = 5 → ends fun t => h.idx ∈ t.ing.reseq ∧ same 0 t) ∧
        (k = 6 → ends fun t => t.rd ING_REG_STAT = 0 ∧ t.rd ING_REG_INDEX = (h.idx + 2 ^ 29 * h.state) % 2 ^ 32 ∧
          t.mem = s.dev.mem ∧ ∀ a, a ≠ ING_REG_STAT → a ≠ ING_REG_INDEX → t.rd a = s.dev.rd a)) ∧
      (∀ sl, k = 1 → s.dev.lookup addr = none → s.dev.indexFull = false →
        s.dev.freeSlot s.dev.probeMax (homeSlot addr s.dev.hashLog) = some sl →
        let head := s.dev.fld ING_REG_FREE_HEAD 24 0
        let fresh := head = 0x01FFFFFF
        let i := if fresh then s.dev.fld ING_REG_HWM 25 0 else head
        let gen := if fresh then 1 else (s.dev.recGet i rREG_GEN 4 + 1) % 2 ^ 32
        let w := i + 2 ^ 29
        ends fun t => t.rd ING_REG_STAT = 0 ∧ t.rd ING_REG_INDEX = w % 2 ^ 32 ∧
          t.rd ING_REG_COUNT = (s.dev.rd ING_REG_COUNT + 1) % 2 ^ 32 ∧
          (fresh → t.rd ING_REG_HWM = (i + 1) % 2 ^ 32 ∧ t.rd ING_REG_FREE_HEAD = s.dev.rd ING_REG_FREE_HEAD) ∧
          (¬ fresh → t.rd ING_REG_HWM = s.dev.rd ING_REG_HWM ∧ t.rd ING_REG_FREE_HEAD = bitsOf (s.dev.recGet i rADDR 8) 24 0) ∧
          t.mem = ((s.dev.stBytes (s.dev.hashAddr sl) (leBytes 8 addr ++ leBytes 4 w ++ leBytes 4 gen)).stBytes (s.dev.recBase i)
            (leBytes 8 addr ++ leBytes 4 w ++ leBytes 4 (s.dev.rd ING_REG_ATTR0) ++ leBytes 4 (s.dev.rd ING_REG_ATTR1) ++
             leBytes 4 gen ++ leBytes 8 s.dev.ext ++ zeroBytes 352)).mem) ∧
      (k = 7 → let i := addr % 2 ^ 25
        i < s.dev.fld ING_REG_HWM 25 0 → s.dev.recState i = stTOMBSTONE → s.dev.recGet i rNEWEST 8 = 0 →
        ends fun t => t.rd ING_REG_STAT = 0 ∧ t.rd ING_REG_FREE_HEAD = i ∧ t.rd ING_REG_COUNT = s.dev.rd ING_REG_COUNT - 1 ∧
          t.mem = ((s.dev.recPut i rADDR 8 (s.dev.fld ING_REG_FREE_HEAD 24 0)).recPut i rIDX_STATE 4 i).mem)))

/-- READING_INTAKE of a ring that the role feeds, while ING may take input, the ring is not empty and leave of class 6 stands (and, where TRF allocates for the record, of class 8): the consumer index moves on by one, the oldest record of 48 bytes at that index goes to the armature stream, passes stages 2 to 8 as the shared operation gives them, the leave is returned, and full batches close. While ING may take no input (disabled, stalled by the exception ring, after a power-fail warning, held by the live fence), or from a ring that the role does not feed, nothing changes but that full batches close. In STANDBY the stream of the active feeds ING. EXC_CONS_WRITE stores the index and lets waiting exceptions go to the ring; with none waiting and the ring no longer full nothing else changes. Where the spec leaves a point open it is the model's reading: log entries 2, 61, 71, 72, 73, 74. -/
def Obligations.IntakeAndExceptions : Prop :=
  ∀ (s : State) (r : Requester), Awake s →
    (∀ ring : Fin 8, s.dev.red.state ≠ .standby → s.dev.ingTakes = true → s.dev.pairSlave = false →
      roleFeeds s.dev.role ring = true → s.dev.inLog ring ≠ 0 → s.dev.inCount ring ≠ 0 →
      let cons := s.dev.rd (ING_IN_CONS ring)
      let rec' := s.dev.ldBytes (s.dev.rd64 (ING_IN_BASE_LO ring) + 48 * (cons % 2 ^ s.dev.inLog ring)) 48
      let d := s.dev.request 6 ingClient
      d.granted 6 ingClient = true →
      (d.trfAllocates (Reading.ofBytes rec').t = false → Completes (.readingIntake ring none) s (· =
        (((((d.wr (ING_IN_CONS ring) (cons + 1)).mirror (.record ring rec')).ingProcess ring rec').giveBack 6 ingClient).closeFullBatches))) ∧
      (d.trfAllocates (Reading.ofBytes rec').t = true →
        let e := d.request 8 trfClient
        e.granted 8 trfClient = true → Completes (.readingIntake ring none) s (· =
        ((((((e.wr (ING_IN_CONS ring) (cons + 1)).mirror (.record ring rec')).ingProcess ring rec').giveBack 6 ingClient).giveBack 8
          trfClient).closeFullBatches)))) ∧
    (∀ (ring : Fin 8) native, s.dev.red.state ≠ .standby → (s.dev.ingTakes = false ∨ roleFeeds s.dev.role ring = false) →
      Completes (.readingIntake ring native) s (· = s.dev.closeFullBatches)) ∧
    (∀ (ring : Fin 8) native, s.dev.red.state = .standby → Completes (.readingIntake ring native) s (· = s.dev.feedAll)) ∧
    (∀ v : Word, s.dev.mayWrite r ING_EXC_CONS = true →
      Completes (.excConsWrite r v) s (fun t => t = (s.dev.wr ING_EXC_CONS v.toNat).excFlush.answer 0 ∧
        (s.dev.ing.exc = [] → s.dev.ing.stallTick = none → (s.dev.wr ING_EXC_CONS v.toNat).excBlocked = false →
          t = (s.dev.wr ING_EXC_CONS v.toNat).answer 0)))

/-- On a field module whose ING runs with no power-fail warning. BATCH_HOLD_EXPIRE, with the first record of the open batch HOLD_MS old, the module neither islanded nor replaying, fewer than 64 batches outstanding and a link key to seal under: one batch of the oldest records, MAX_RECORDS at most, closes with the next sequence number, its header, ciphertext and tag as R68 lays them out, becomes outstanding and is sent. ACK_TIMEOUT sends every outstanding batch again, the oldest alone while islanded. ISLAND_TIMEOUT islands the module. REPLAY_SEND sends one batch of the backlog, marked as replay, and the next not before its records' time at ING_REPLAY_RATE. Where the spec leaves a point open it is the model's reading: log entries 2, 74, 77. -/
def Obligations.BatchesGoOut : Prop :=
  ∀ s : State, Awake s → s.dev.batchRuns = true →
    (let closed := fun (n : Nat) (replay : Bool) (ct : Bytes) =>
       let recs := s.dev.ing.unsent.take n
       let stn := s.dev.fld TRK_STN 9 0 + 2 ^ 15 * b2n replay
       let b : Batch := {
         seq := s.dev.ing.nextSeq, bytes := batchHeader stn recs.length s.dev.ing.nextSeq s.dev.ext ++ ct
         count := recs.length, journalled := (recs.filter (·.journalled)).length }
       let first := s.dev.ing.outstanding.isEmpty
       ({ s.dev with ing := { s.dev.ing with
         unsent := s.dev.ing.unsent.drop n, outstanding := s.dev.ing.outstanding ++ [b], nextSeq := (s.dev.ing.nextSeq + 1) % 2 ^ 32,
         ackTick := if first then s.dev.time.ticks else s.dev.ing.ackTick,
         sendTick := if first then s.dev.time.ticks else s.dev.ing.sendTick } } : Dev).sendBatch b
     let sealed := fun (n : Nat) (replay : Bool) =>
       let recs := s.dev.ing.unsent.take n
       let stn := s.dev.fld TRK_STN 9 0 + 2 ^ 15 * b2n replay
       s.dev.linkSeal (ackNonce stn 0 s.dev.ing.nextSeq) (batchHeader stn recs.length s.dev.ing.nextSeq s.dev.ext) (recs.flatMap (·.body))
     (∀ w ws ct, s.dev.ing.unsent = w :: ws → s.dev.ing.islanded = false → s.dev.ing.replaying = false → s.dev.maxRecords ≠ 0 →
       w.tick + 250000 * s.dev.holdMs ≤ s.dev.time.ticks → s.dev.ing.outstanding.length < 64 → sealed s.dev.maxRecords false = some ct →
       Completes .batchHoldExpire s (fun t => t = closed s.dev.maxRecords false ct)) ∧
     (∀ ct, let n := min s.dev.maxRecords s.dev.ing.unsent.length
       s.dev.ing.replaying = true → s.dev.ing.islanded = false → s.dev.ing.replayTick ≤ s.dev.time.ticks → n ≠ 0 →
       s.dev.ing.outstanding.length < 64 → sealed n true = some ct →
       Completes .replaySend s (fun t => let u := closed n true ct
         t = { u with ing := { u.ing with
           replayTick := u.time.ticks + ceilDiv (n * 250000000) (u.rd ING_REPLAY_RATE)
           replaying := !u.ing.unsent.isEmpty } }))) ∧
    (s.dev.ing.outstanding ≠ [] → max s.dev.ing.ackTick s.dev.ing.sendTick + 250000 * s.dev.rd ING_ACK_TIMEOUT ≤ s.dev.time.ticks →
      Completes .ackTimeout s (fun t => t = (if s.dev.ing.islanded then s.dev.ing.outstanding.take 1 else s.dev.ing.outstanding).foldl
        Dev.sendBatch { s.dev with ing := { s.dev.ing with sendTick := s.dev.time.ticks } })) ∧
    (s.dev.ing.outstanding ≠ [] → s.dev.ing.islanded = false → s.dev.ing.ackTick + 250000 * s.dev.rd ING_ISLAND_TIMEOUT ≤ s.dev.time.ticks →
      Completes .islandTimeout s (· = { s.dev with ing := { s.dev.ing with islanded := true, replaying := false } }))

/-- BATCH_RECEIVE at a head-end or combined module with ING running, no warning, no pair slave and room in the journal: the oldest datagram of the BATCH lane to the batch port leaves its queue; a tag that fails counts in ING_BATCH_FAIL_COUNT; the batch that the station's sequence expects is taken into ring 7, or counted as BUSY where the ring has no room; an older one is counted as a duplicate, a later one as a gap, and the last in-order one is acknowledged again. BATCH_ACK_SEND sends the first acknowledgement that is mirrored and journalled. BATCH_ACK_RECEIVE at a field module: the acknowledgement's batches leave the outstanding ones and the module is islanded no longer; a tag that fails counts in TRK_ACK_FAIL. Where the spec leaves a point open it is the model's reading: log entries 2, 71, 75, 118. -/
def Obligations.BatchesAndAcknowledgements : Prop :=
  ∀ s : State, Awake s → s.dev.starts pING = true → s.dev.pwr.pfActive = false →
    (∀ lane f, s.dev.batchLane = some lane → s.dev.engineFront lane = some f →
      (s.dev.role ≠ 0 → s.dev.pairSlave = false → s.dev.jrnFull = false → udpPort f.data = s.dev.rd TRK_BATCH_PORT →
        let d := s.dev.popFront (2 * lane + 1)
        let p := udpPayload f.data
        let n := p.length - 32
        let seq := leAt p 4 4
        let stn := leAt p 0 2 % 1024
        (p.length < 32 → Completes .batchReceive s (· = d.bump ING_BATCH_FAIL_COUNT)) ∧
        (∀ e o, 32 ≤ p.length → d.linkOpen (ackNonce (leAt p 0 2) 0 seq) (p.take 16) (slice p 16 n) (p.drop (16 + n)) = (e, o) →
          (o = none → Completes .batchReceive s (· = e.bump ING_BATCH_FAIL_COUNT)) ∧
          (∀ pt, o = some pt → Completes .batchReceive s (fun t => t =
            if seq = Assoc.get 0 e.ing.stations stn then
              if e.inLog 7 = 0 ∨ 2 ^ e.inLog 7 < e.inCount 7 + leAt p 2 2 then e.bump ING_BATCH_BUSY_COUNT
              else e.takeBatch stn seq (leAt p 2 2) (recordsOf (leAt p 2 2) pt)
            else if seqLe seq (Assoc.get 0 e.ing.stations stn) then (e.bump ING_BATCH_DUP_COUNT).ackAgain stn (Assoc.get 0 e.ing.stations stn)
            else (e.bump ING_BATCH_GAP_COUNT).ackAgain stn (Assoc.get 0 e.ing.stations stn))))) ∧
      (s.dev.role = 0 → udpPort f.data = s.dev.rd TRK_BATCH_PORT + 1 →
        let d := s.dev.popFront (2 * lane + 1)
        let p := udpPayload f.data
        let stn := leAt p 0 2
        let seq := leAt p 4 4
        (p.length ≠ 32 → Completes .batchAckReceive s (· = d.bump TRK_ACK_FAIL)) ∧
        (∀ e o, p.length = 32 → d.linkOpen (ackNonce stn 1 seq) (p.take 16) [] (p.drop 16) = (e, o) →
          (o = none → Completes .batchAckReceive s (· = e.bump TRK_ACK_FAIL)) ∧
          (∀ pt, o = some pt → stn % 1024 = e.fld TRK_STN 9 0 → Completes .batchAckReceive s (fun t =>
            let back := e.ing.islanded && !e.ing.unsent.isEmpty
            t = ({ e with ing := { e.ing with
              outstanding := e.ing.outstanding.filter (fun b => !seqLe b.seq seq), ackedSeq := seq, ackTick := e.time.ticks, islanded := false,
              replaying := e.ing.replaying || back,
              replayTick := if back then e.time.ticks else e.ing.replayTick } } : Dev).closeFullBatches))))) ∧
    (∀ a tag, s.dev.pairSlave = false → s.dev.jrnFull = false → s.dev.ing.acks.find? s.dev.ackReady = some a →
      s.dev.linkSeal (ackNonce a.station 1 a.seq) (ackHeader a.station a.seq) [] = some tag →
      Completes .batchAckSend s (fun t => t = ({ s.dev with ing := { s.dev.ing with
        acks := s.dev.ing.acks.filter fun b => !(b.station == a.station && seqLe b.seq a.seq) } } : Dev).sendDatagram
          a.station (s.dev.rd TRK_BATCH_PORT + 1) (ackHeader a.station a.seq ++ tag)))

/-- EPOCH_BOUNDARY with EPC running and the time base at or past the next boundary: EPC_EPOCH_NO takes its number, event 28 is raised last, the boundary counts as fired, and with sealing on in a role that seals the epoch, with its bounds, its worst class and its STEPPED mark, joins the unsealed ones; no memory changes. Before the boundary nothing changes. SEAL_INSTANT at or past the instant of the oldest unsealed epoch takes the seal to LEAVE and asks for leave of class 7. SEAL_LEAVE_GRANTED with the leave seals the pending amendments of the sealed epochs in ascending order and goes to FINALISE. Where the spec leaves a point open it is the model's reading: log entries 2, 67, 69, 85. -/
def Obligations.BoundaryAndSealBegin : Prop :=
  ∀ s : State, Awake s →
    (s.dev.runs pEPC = true → s.dev.nextBoundary ≤ s.dev.ext →
      let b := s.dev.nextBoundary
      let cfg := s.dev.govEpoch EPC_EPOCH_CFG
      let late : Bool := decide (s.dev.epc.stepFrom < b) && decide (b ≤ s.dev.epc.stepTo)
      let e : EpochRec := {
        no := s.dev.nextNo, tStart := (if s.dev.epochLen ≤ b then b - s.dev.epochLen else 0), tEnd := b, length := s.dev.epochLen
        len := bitsOf cfg 2 0, slot := bitsOf (s.dev.govEpoch EPC_SIGN_SLOT) 7 0, seals := cfg.testBit 16 && s.dev.role != 0
        worst := s.dev.epc.worst, stepped := s.dev.epc.stepped || late, gen := s.dev.fld CMT_GEN 23 0 }
      Completes .epochBoundary s (fun t => t.rd64 EPC_EPOCH_NO_LO = s.dev.nextNo % 2 ^ 64 ∧ t.epc.lastFired = some b ∧
        t.mem = s.dev.mem ∧ t.epc.unsealed = (if e.seals then s.dev.epc.unsealed ++ [e] else s.dev.epc.unsealed) ∧
        t.epc.stepped = late ∧ t.epc.state = s.dev.epc.state ∧ t.time = s.dev.time ∧
        (∃ x, t.evq = s.dev.evq ++ [x] ∧ x.event = 28))) ∧
    (s.dev.runs pEPC = true → s.dev.ext < s.dev.nextBoundary → Completes .epochBoundary s (· = s.dev)) ∧
    (∀ e rest, s.dev.epc.unsealed = e :: rest → s.dev.sealRuns = true → s.dev.epc.state = .idle →
      e.tEnd + s.dev.settle * e.length ≤ s.dev.ext →
      Completes .sealInstant s (· = ({ s.dev with epc := { s.dev.epc with
        state := .leave, instant := e.tEnd + s.dev.settle * e.length } } : Dev).request 7 sealClient)) ∧
    (∀ d, s.dev.sealRuns = true → s.dev.epc.state = .leave → (s.dev.request 7 sealClient).granted 7 sealClient = true →
      Dev.amendAll (s.dev.request 7 sealClient).sealedEpochs [] (s.dev.request 7 sealClient) = some d →
      Completes .sealLeaveGranted s (· = { d with epc := { d.epc with state := .finalise } }))

/-- With EPC able to take steps of a seal. SEAL_FINALISE under leave: every known endpoint below EPC_WORK_CAP has its entry, in leaf order, those above are counted in EPC_UNCOVERED, the epoch leaves the unsealed ones and becomes the seal's job, and the state is WAIT_BAL where BAL's epoch cadence was on, else HASH (with no closing due). BAL_EPOCH_REPORT with BAL's report in and its suspicions written, or BAL disabled, adds the zone entries in leaf order. SEAL_HASH_DONE of an epoch whose set is free, under leave: the root is the Merkle root of the leaves, leaves and inner nodes stand in the set, the set's epoch number is stored, the state is WAIT_SIGN and the leave ends. SEAL_SIGNED with KEY able to sign and no amendment bare: the signed ashlar enters the chain with the next sequence number, its header stands in its set, and the state is EXPORT. Where the spec leaves a point open it is the model's reading: log entries 2, 65, 66, 70, 83, 84, 85. -/
def Obligations.SealToSignature : Prop :=
  ∀ s : State, Awake s → s.dev.sealRuns = true →
    (∀ e rest, s.dev.epc.unsealed = e :: rest → s.dev.epc.state = .finalise → (s.dev.request 7 sealClient).granted 7 sealClient = true →
      let d := s.dev.request 7 sealClient
      let all := d.endpoints known
      let mine := (all.filter fun i => decide (i < d.rd EPC_WORK_CAP)).map fun i => (i, d.valueAt i e.tEnd)
      let leaves := sortEntries (mine.map fun x => d.finalEntry e x.1 x.2)
      let u := d.wr EPC_UNCOVERED (all.length - mine.length)
      (d.rd64 TRF_PEND_CLOSE_LO ≠ e.tEnd ∨ d.trf.closing = []) →
      Completes .sealFinalise s (fun t => t = { u with epc := { u.epc with
        unsealed := rest, job := some (newAshlar 0 e leaves), closing := none, zones := [], balDone := false,
        state := if u.balEpochOn e.tEnd then .waitBal else .hash } })) ∧
    (∀ j, s.dev.epc.job = some j → s.dev.epc.state = .waitBal →
      (s.dev.epc.balDone = true ∧ s.dev.bal.susp = [] ∨ s.dev.en pBAL = false) →
      Completes .balEpochReport s (· = { s.dev with epc := { s.dev.epc with
        job := some { j with leaves := sortEntries (j.leaves ++ s.dev.epc.zones) }, zones := [], state := .hash } })) ∧
    (∀ j, s.dev.epc.job = some j → s.dev.epc.state = .hash → j.typ = 0 → (s.dev.request 7 sealClient).granted 7 sealClient = true →
      let d := s.dev.request 7 sealClient
      let k := d.epc.nextSet
      let e : Dev := { d with epc := { d.epc with
        ashlars := d.epc.ashlars.map fun (a : Ashlar) => if a.setNo = some k then { a with setNo := none } else a, nextSet := 1 - k } }
      let j' : Ashlar := { j with root := merkleRoot j.leaves, digest := d.configDigest j.epoch.tEnd }
      d.setFree k = true → ∀ u x y, (e.putFill k 224).putInSet k j.leaves = some (u, x, y) →
      let v := u.wr64 (if k = 0 then EPC_SET_EPOCH0_LO else EPC_SET_EPOCH1_LO) j.epoch.no
      let j'' : Ashlar := { j' with leafAddr := x, nodeAddr := y, setNo := some k }
      Completes .sealHashDone s (· =
        (({ v with epc := { v.epc with job := some j'', state := .waitSign } } : Dev).ownRoot j'').giveBack 7 sealClient)) ∧
    (∀ j, s.dev.epc.job = some j → s.dev.epc.state = .waitSign → s.dev.pairSlave = false → s.dev.en pKEY = true →
      (∀ a ∈ s.dev.epc.ashlars, a.header.isEmpty = false) → s.dev.useSlot j.epoch.slot [2] 0 = 0 → s.dev.key.rngFault = false →
      let seq := s.dev.rd64 EPC_SEAL_SEQ_LO + 1
      let text := s.dev.headerText j seq j.epoch.slot s.dev.prevHash
      let sig := ecdsaSign (s.dev.slot j.epoch.slot).key (sha256 text) (beNat (s.dev.freeBytes 32))
      let a : Ashlar := { j with header := text ++ sig, sealSeq := seq }
      let u := (((s.dev.tookFree 32).bump KEY_SIGN_COUNT).keepAshlar a).headerToSet a
      Completes .sealSigned s (· = { u with epc := { u.epc with state := .exporting } }))

/-- SEAL_EXPORT with room on the export ring and the mirror acknowledged: the oldest waiting descriptor's 256 bytes stand in the ring's slot, the producer index moves on, the ashlar keeps the index; when it was the last one and carries the newest sequence, the seal ends with event 29. EXP_CONS_WRITE stores the index. FENCE_HOLD starts the live fence (one that stands keeps its start) and clears FENCE_EXPIRED; FENCE_RELEASE ends it unless OBJ holds it for a group. FENCE_EXPIRE after EPC_FENCE_MAX ends it and sets FENCE_EXPIRED. Where the spec leaves a point open it is the model's reading: log entries 2, 84, 85. -/
def Obligations.ExportAndLiveFence : Prop :=
  ∀ (s : State) (r : Requester), Awake s →
    (∀ x rest, s.dev.epc.descs = x :: rest → s.dev.sealRuns = true → s.dev.pairSlave = false → s.dev.expFull = false →
      s.dev.mirrored x.mirror = true →
      let prod := s.dev.rd EPC_EXP_PROD
      let d := (s.dev.stBytes (s.dev.rd64 EPC_EXP_BASE_LO + 256 * (prod % 2 ^ s.dev.expLog)) x.bytes).wr EPC_EXP_PROD (prod + 1)
      let u : Dev := { d with epc := { d.epc with
        descs := rest, ashlars := d.epc.ashlars.map fun (a : Ashlar) => if a.sealSeq = x.sealSeq then { a with exportNo := some prod } else a } }
      (∀ j, s.dev.epc.job = some j → s.dev.epc.state = .exporting → s.dev.rd64 EPC_SEAL_SEQ_LO = x.sealSeq → rest = [] →
        Completes .sealExport s (· = u.sealEnd j)) ∧
      ((s.dev.epc.job = none ∨ s.dev.epc.state ≠ .exporting ∨ s.dev.rd64 EPC_SEAL_SEQ_LO ≠ x.sealSeq ∨ rest ≠ []) →
        Completes .sealExport s (· = u))) ∧
    (∀ v : Word, s.dev.mayWrite r EPC_EXP_CONS = true → Completes (.expConsWrite r v) s (· = (s.dev.wr EPC_EXP_CONS v.toNat).answer 0)) ∧
    (s.dev.mayWrite r EPC_LIVE_FENCE = true → Completes (.fenceHold r) s (fun t => t.epc.fence = some (s.dev.epc.fence.getD s.dev.time.ticks) ∧
      t.epc.expired = false ∧ t.rd EPC_LIVE_FENCE = 1 ∧ t.mem = s.dev.mem ∧ t.ingTakes = false ∧
      (∀ a, a ≠ EPC_LIVE_FENCE → t.rd a = s.dev.rd a))) ∧
    (s.dev.mayWrite r EPC_LIVE_FENCE = true → Completes (.fenceRelease r) s (fun t => t.rd EPC_LIVE_FENCE = 0 ∧
      t.epc.fence = (if s.dev.objFence then s.dev.epc.fence else none) ∧ t.epc.expired = s.dev.epc.expired ∧ t.mem = s.dev.mem ∧
      (∀ a, a ≠ EPC_LIVE_FENCE → t.rd a = s.dev.rd a))) ∧
    (∀ t0, s.dev.epc.fence = some t0 → t0 + 250 * s.dev.rd EPC_FENCE_MAX ≤ s.dev.time.ticks →
      Completes .fenceExpire s (fun t => t.epc.fence = none ∧ t.epc.expired = true ∧ t.rd EPC_LIVE_FENCE = 0 ∧ t.mem = s.dev.mem ∧
        (∀ g, s.dev.obj.group = some g → g.view = 0 → ∃ h, t.obj.group = some h ∧ h.expired = true ∧ h.fenced = false) ∧
        (∀ a, a ≠ EPC_LIVE_FENCE → t.rd a = s.dev.rd a)))

/-- TBL_VALIDATE with no validation running starts one at TRF_TBL_ADDR and changes nothing else. TRF_TBL_VALIDATE_DONE ends it: a table in DRAM without a failing scheme gives result 0 and its address stands in TRF_TBL_OK; otherwise the lowest failing scheme's code and offset stand in TRF_TBL_STAT and TRF_TBL_OK stays. TRF_SWITCH, where a period of a scheme in use has ended since the last one: each such scheme's bit is set in TRF_SWITCH_MAP and event 31 is raised once, none while the class is INVALID. TRF_DEMAND_END, where an evaluation point of a scheme in use has been passed, raises event 33 once. Where the spec leaves a point open it is the model's reading: log entries 2, 60, 62. -/
def Obligations.TariffCommands : Prop :=
  ∀ (s : State) (r : Requester), Awake s →
    (s.dev.mayWrite r TRF_TBL_CMD = true → s.dev.trf.job = none → Completes (.tblValidate r) s
      (· = ({ s.dev with trf := { s.dev.trf with job := some (s.dev.rd64 TRF_TBL_ADDR_LO) } } : Dev).answer 0)) ∧
    (∀ base, s.dev.trf.job = some base →
      let d : Dev := { s.dev with trf := { s.dev.trf with job := none } }
      let fails := (List.range 256).findSome? fun k => (d.checkScheme (base + 0x2000 * k)).map fun f => (k, f.1, f.2)
      (inDram base 0x200000 = true → fails = none → Completes .trfTblValidateDone s (fun t => t.trf = d.trf ∧
        t.rd TRF_TBL_STAT = 0 ∧ t.rd64 TRF_TBL_OK_LO = base % 2 ^ 64 ∧ t.mem = s.dev.mem ∧
        ∀ a, a ≠ TRF_TBL_STAT → a ≠ TRF_TBL_OK_LO → a ≠ TRF_TBL_OK_HI → t.rd a = s.dev.rd a)) ∧
      (∀ k code off, inDram base 0x200000 = true → fails = some (k, code, off) → Completes .trfTblValidateDone s
        (· = d.wr TRF_TBL_STAT (2 * code + 256 * k + 65536 * off))) ∧
      (inDram base 0x200000 = false → Completes .trfTblValidateDone s (· = d.wr TRF_TBL_STAT 6))) ∧
    (s.dev.runs pTRF = true →
      let due := s.dev.schemesInUse.filter fun k => !(s.dev.switches (s.dev.scheme s.dev.ext k) s.dev.trf.switchDone s.dev.ext).isEmpty
      (due ≠ [] → Completes .trfSwitch s (fun t => t.trf.switchDone = s.dev.ext ∧ t.mem = s.dev.mem ∧
        (s.dev.cls = .invalid → t.evq = s.dev.evq ∧ t.reg = s.dev.reg) ∧
        (s.dev.cls ≠ .invalid → (∃ x, t.evq = s.dev.evq ++ [x] ∧ x.event = 31) ∧
          ∀ k ∈ due, (t.rd (TRF_SWITCH_MAP (k / 32))).testBit (k % 32) = true))) ∧
      (due = [] → Completes .trfSwitch s (· = s.dev)) ∧
      ((∃ k ∈ s.dev.schemesInUse, s.dev.evalCount (s.dev.scheme s.dev.ext k) s.dev.trf.demandDone < s.dev.evalCount (s.dev.scheme s.dev.ext k) s.dev.ext) →
        Completes .trfDemandEnd s (fun t => t.trf.demandDone = s.dev.ext ∧ t.mem = s.dev.mem ∧
          (∃ x, t.evq = s.dev.evq ++ [x] ∧ x.event = 33) ∧ ∀ a, a ≠ PG_EVT_PEND pTRF → t.rd a = s.dev.rd a)))

/-- OBJ_GET, OBJ_SET, OBJ_SUSPEND, OBJ_RESUME, OBJ_RESEQ and ACK_SUSPECT each take the oldest waiting request of their kind when OBJ may start, its configuration is valid, no power-fail warning has fired and the response ring has room. For a request outside a group, in the LIVE view, whose decision is to serve: the consumer index moves on, the grant counter of its role counts; a GET stores the attribute's bytes in the requester's buffer; a SET stores the buffer's bytes at the attribute's source; a method runs the registry command or acknowledges the zone's suspicion; SET and ACTION leave an audit record; the response carries the tag, result 0, the sequence and the length. A request denied for a right, a protection or the life cycle is counted, changes nothing else and is answered with its reason. Where the spec leaves a point open it is the model's reading: log entries 86, 87. -/
def Obligations.ObjectRequests : Prop :=
  ∀ (s : State), Awake s → s.dev.starts pOBJ = true → objCfgInvalid s.dev = false → s.dev.pwr.pfActive = false → s.dev.rspFull = false →
    s.dev.reqLog ≠ 0 → s.dev.reqCount ≠ 0 → s.dev.obj.group = none →
    let q := s.dev.reqAt 0
    let c := s.dev.wr OBJ_REQ_CONS (s.dev.rd OBJ_REQ_CONS + 1)
    let d : Dev := { c with obj := { c.obj with arrivals := c.obj.arrivals.tail } }
    let decided := d.decideReq (s.dev.obj.arrivals.headD s.dev.ext) q
    let g := d.bump (OBJ_GRANT_COUNT q.role)
    let answered := fun (i : Instr) (x : Dev) (res n : Nat) =>
      Completes i s (· = (x.iff (res == oVIEW_UNAVAILABLE) (·.bump OBJ_UNAVAIL_COUNT)).respond q res (x.reqSeq q (if q.viewSeq = 0 then s.dev.lastSeal else q.viewSeq)) n)
    q.group = 0 → 1 ≤ q.op → q.op ≤ 3 → q.view ≤ 1 →
    (∀ o, decided = .inl o →
      (∀ b, q.op = opGET → q.view = 0 → ¬ (q.cls = 3 ∧ q.id = 6) → g.liveAttr q o = some b → b.length ≤ q.dataLen → inDram q.dataAddr b.length = true →
        answered .objGet (g.stBytes q.dataAddr b) oOK b.length) ∧
      (∀ b, q.op = opGET → q.view = 1 → g.sealedAttr q o (if q.viewSeq = 0 then s.dev.lastSeal else q.viewSeq) = .inl b →
        b.length ≤ q.dataLen → inDram q.dataAddr b.length = true → answered .objGet (g.stBytes q.dataAddr b) oOK b.length) ∧
      (q.op = opGET → q.view = 0 → g.liveAttr q o = none → ¬ (q.cls = 3 ∧ q.id = 6) → answered .objGet g oVIEW_UNAVAILABLE 0) ∧
      (∀ a n, q.op = opSET → q.view = 0 → g.storedAt q o = some (a, n) →
        let want := if q.cls = 4 ∧ q.id = 2 then 8 else n
        want ≤ q.dataLen → inDram q.dataAddr want = true →
        answered .objSet ((g.stBytes a (g.ldBytes q.dataAddr n)).audit q false) oOK want) ∧
      (q.op = opSET → q.view = 1 → answered .objSet g oREAD_ONLY_VIEW 0) ∧
      (∀ i, q.op = opACTION → q.cls = 5 → o = .endpoint i → q.view = 0 → g.ing.cmd = 0 → g.regLocked = false →
        ∀ k ∈ [(Instr.objSuspend, 1, cmdSUSPEND), (Instr.objResume, 2, cmdRESUME), (Instr.objReseq, 3, cmdRESEQ)], q.id = k.2.1 →
        answered k.1 (((g.regCommand k.2.2 q.target).1.mirror (.regCmd k.2.2 0 0 q.target)).audit q false) oOK 0) ∧
      (∀ z, q.op = opACTION → q.cls = 7 → o = .zone z → q.view = 0 → 1 ≤ q.dataLen →
        answered .ackSuspect ((g.balAck (z + 65536 * (g.ld q.dataAddr 1 % 8))).audit q false) oOK 0)) ∧
    (∀ r, decided = .inr r → (r = oDENIED_RIGHT ∨ r = oDENIED_PROTECTION ∨ r = oDENIED_LIFECYCLE) →
      (q.op = opGET → answered .objGet (d.deny q r) r 0) ∧ (q.op = opSET → answered .objSet (d.deny q r) r 0))

/-- OBJ_TBL_VALIDATE with no validation running starts one at OBJ_TBL_ADDR and changes nothing else. OBJ_TBL_VALIDATE_DONE ends it: a table of 16,384 bytes in DRAM without a faulty byte gives 0 and its address stands in OBJ_TBL_OK; otherwise the first faulty byte's offset and its code 1 RANGE or 2 KIND, or 1 for a table outside DRAM. RSP_CONS_WRITE stores the index and nothing else. Where the spec leaves a point open it is the model's reading: log entries 86, 88. -/
def Obligations.ObjectTableAndResponses : Prop :=
  ∀ (s : State) (r : Requester), Awake s →
    (s.dev.mayWrite r OBJ_TBL_CMD = true → s.dev.obj.job = none → Completes (.objTblValidate r) s
      (· = ({ s.dev with obj := { s.dev.obj with job := some (s.dev.rd64 OBJ_TBL_ADDR_LO) } } : Dev).answer 0)) ∧
    (∀ a, s.dev.obj.job = some a →
      let d : Dev := { s.dev with obj := { s.dev.obj with job := none } }
      let bad := fun k => rightsFault k (s.dev.ld (a + k) 1) ≠ 0
      (inDram a 16384 = true → (∀ k < 16384, ¬ bad k) → Completes .objTblValidateDone s (fun t => t.obj = d.obj ∧ t.rd OBJ_TBL_STAT = 0 ∧
        t.rd64 OBJ_TBL_OK_LO = a % 2 ^ 64 ∧ t.mem = s.dev.mem ∧ ∀ b, b ≠ OBJ_TBL_STAT → b ≠ OBJ_TBL_OK_LO → b ≠ OBJ_TBL_OK_HI → t.rd b = s.dev.rd b)) ∧
      (∀ k, inDram a 16384 = true → k < 16384 → bad k → (∀ j < k, ¬ bad j) → Completes .objTblValidateDone s
        (· = d.wr OBJ_TBL_STAT (2 * rightsFault k (s.dev.ld (a + k) 1) + 16 * k))) ∧
      (inDram a 16384 = false → Completes .objTblValidateDone s (· = d.wr OBJ_TBL_STAT 2))) ∧
    (∀ v : Word, s.dev.mayWrite r OBJ_RSP_CONS = true → Completes (.rspConsWrite r v) s (· = (s.dev.wr OBJ_RSP_CONS v.toNat).answer 0))

/-- With BAL able to start, its configuration valid and no power-fail warning. BAL_SAMPLE takes the oldest sample: the consumer index moves on, the 32 bytes go to the armature stream, and the sample is kept by time among the eight newest of its input, or counted as dropped. INVENTORY_FIX of an item in use fixes its contents at its oldest open boundary once both inputs have a later sample or STALE_MAX has passed. BAL_EPOCH_PASS while EPC waits, with no suspicion held and leave of class 9: every zone of the epoch cadence is balanced in order, its entries go to EPC, which then has BAL's report, BAL_EPOCH_LAST and BAL_PASS_US are stored and the leave returned. BAL_FAST_PASS at a fast instant's lag likewise for the fast cadence; once the next instant is due too it is skipped and counted. Where the spec leaves a point open it is the model's reading: log entries 2, 78, 81. -/
def Obligations.BalanceSamplesAndPasses : Prop :=
  ∀ s : State, Awake s → s.dev.balStarts = true →
    (s.dev.pairSlave = false → s.dev.fld BAL_SAMP_CFG 4 0 ≠ 0 → s.dev.waiting BAL_SAMP_PROD BAL_SAMP_CONS ≠ 0 →
      let cons := s.dev.rd BAL_SAMP_CONS
      let x := s.dev.ldBytes (s.dev.rd64 BAL_SAMP_BASE_LO + 32 * (cons % 2 ^ s.dev.fld BAL_SAMP_CFG 4 0)) 32
      Completes .balSample s (fun t => t = ((s.dev.wr BAL_SAMP_CONS (cons + 1)).mirror (.sample x)).balSample x ∧
        t.rd BAL_SAMP_CONS = (cons + 1) % 2 ^ 32 ∧ t.mem = s.dev.mem ∧
        (leAt x 2 1 ≤ 1 ∨ t.rd BAL_SAMPLE_DROP = satNat (s.dev.rd BAL_SAMPLE_DROP + 1) m32))) ∧
    (∀ (item : Fin 16384) (b : Nat), s.dev.openBoundaries.find? (fun b => !((s.dev.fixedOf item).any fun e => e.1 == b)) = some b →
      let i := s.dev.itemAt (s.dev.balTbl b) item
      i.model ≠ 0 → (s.dev.sampledAfter item b = true ∨ b + 1000000000 * i.staleMax ≤ s.dev.ext) →
      Completes (.inventoryFix item) s (· = { s.dev with bal := { s.dev.bal with
        inventory := Assoc.put s.dev.bal.inventory item (s.dev.fixedOf item ++ [(b, s.dev.inventoryAt i b)]) } })) ∧
    (∀ (us : Word) (j : Ashlar), s.dev.epc.job = some j → s.dev.epc.state = .waitBal → s.dev.epc.balDone = false → s.dev.bal.susp = [] →
      let d := s.dev.request 9 balEpochClient
      let tbl := d.balTbl j.epoch.tEnd
      let r := ((d.zones tbl).filter (·.epochEn)).foldl (fun (acc : Dev × List Bytes × Bool) z =>
        let o := acc.1.epochZone tbl (d.overlay j.epoch.tEnd) j.epoch.tStart j.epoch.tEnd j.epoch.length j.leaves z
        (o.dev, acc.2.1 ++ [o.entry], acc.2.2 || o.incomplete)) (d, [], false)
      let e := if r.2.2 then r.1.raise pBAL 1 else r.1
      d.granted 9 balEpochClient = true →
      Completes (.balEpochPass us) s (fun t => t =
        ((({ e with epc := { e.epc with zones := r.2.1, balDone := true } } : Dev).wr64 BAL_EPOCH_LAST_LO j.epoch.no).wr BAL_PASS_US us.toNat).giveBack
          9 balEpochClient)) ∧
    (let f := s.dev.nextFast
     let due := f + 1000000000 * s.dev.rd BAL_FAST_LAG
     s.dev.bit BAL_CFG 1 = true → due ≤ s.dev.ext →
      (due + 60000000000 ≤ s.dev.ext → Completes .balFastPass s (·=
        ({ s.dev with bal := { s.dev.bal with fastDone := f } } : Dev).bump BAL_FAST_SKIP)) ∧
      (s.dev.ext < due + 60000000000 → s.dev.epc.state ≠ .waitBal → s.dev.bal.susp = [] →
        let d := s.dev.request 9 balFastClient
        let e := ((d.zones (d.balTbl f)).filter (·.fastEn)).foldl (fun x z => x.fastZone (d.balTbl f) (d.overlay f) f z) d
        d.granted 9 balFastClient = true →
        Completes .balFastPass s (· =
          (({ e with bal := { e.bal with fastDone := f } } : Dev).wr64 BAL_FAST_LAST_LO f).giveBack 9 balFastClient)))

/-- SUSP_CONS_WRITE stores the index and lets waiting suspicion records go to the ring; with none waiting nothing else changes. BAL_ACK unlatches each named side of the zone's cadence and marks it to start from zero at its next balance, latched or not, and touches no other side. BAL_TBL_VALIDATE with none running starts a validation of BAL_TBL_ADDR with BAL_TBL_CAPV members. BAL_TBL_VALIDATE_DONE ends it: 0 stores address and cap, a failure stores its result, part and element, and leaves BAL_TBL_OK. MAP_REWRITE_DONE ends the rewrite of the membership words; no register changes. That a member outside its zone's run is LINK and the order of the tests are log entry 80. Where the spec leaves a point open it is the model's reading: log entries 79, 80, 82. -/
def Obligations.BalanceTablesAndAlarms : Prop :=
  ∀ (s : State) (r : Requester), Awake s →
    (∀ v : Word, s.dev.mayWrite r BAL_SUSP_CONS = true → Completes (.suspConsWrite r v) s (fun t =>
      t = (suspDrain s.dev.bal.susp (s.dev.wr BAL_SUSP_CONS v.toNat)).answer 0 ∧
      (s.dev.bal.susp = [] → t = (s.dev.wr BAL_SUSP_CONS v.toNat).answer 0))) ∧
    (∀ v : Word, s.dev.mayWrite r BAL_ACK = true → Completes (.balAck r v) s (fun t =>
      let z := bitsOf v.toNat 15 0
      let old := s.dev.zoneSt z
      let new := t.zoneSt z
      let side := fun (named : Bool) (a b : Side) => if named then b = { a with latch := false, reset := true } else b = a
      (v.toNat.testBit 18 = true → side (v.toNat.testBit 16) old.fastHi new.fastHi ∧ side (v.toNat.testBit 17) old.fastLo new.fastLo ∧
        new.epochHi = old.epochHi ∧ new.epochLo = old.epochLo) ∧
      (v.toNat.testBit 18 = false → side (v.toNat.testBit 16) old.epochHi new.epochHi ∧ side (v.toNat.testBit 17) old.epochLo new.epochLo ∧
        new.fastHi = old.fastHi ∧ new.fastLo = old.fastLo) ∧
      t.reg = s.dev.reg ∧ t.mem = s.dev.mem ∧ t.bus.cause = none)) ∧
    (s.dev.mayWrite r BAL_TBL_CMD = true → s.dev.bal.job = none → Completes (.balTblValidate r) s
      (· = ({ s.dev with bal := { s.dev.bal with job := some (s.dev.rd64 BAL_TBL_ADDR_LO, s.dev.rd BAL_TBL_CAPV) } } : Dev).answer 0)) ∧
    (∀ a cap, s.dev.bal.job = some (a, cap) →
      let d : Dev := { s.dev with bal := { s.dev.bal with job := none } }
      (inDram a (0x700000 + 16 * cap) = true → d.checkBlock a cap = none → Completes .balTblValidateDone s (fun t => t.bal = d.bal ∧
        t.rd BAL_TBL_STAT = 0 ∧ t.rd BAL_TBL_FAIL = 0 ∧ t.rd64 BAL_TBL_OK_LO = a % 2 ^ 64 ∧ t.rd BAL_TBL_OK_CAP = cap % 2 ^ 32 ∧
        t.mem = s.dev.mem)) ∧
      (∀ res part e, inDram a (0x700000 + 16 * cap) = true → d.checkBlock a cap = some (res, part, e) →
        Completes .balTblValidateDone s (· = (d.wr BAL_TBL_STAT (2 * res + 16 * part)).wr BAL_TBL_FAIL e)) ∧
      (inDram a (0x700000 + 16 * cap) = false → Completes .balTblValidateDone s (· = (d.wr BAL_TBL_STAT 2).wr BAL_TBL_FAIL 0))) ∧
    (s.dev.bal.mapBusy = true → s.dev.continues pBAL = true → Completes .mapRewriteDone s (fun t =>
      t.bal = { s.dev.bal with mapBusy := false } ∧ t.reg = s.dev.reg ∧
      (balCfgInvalid s.dev = true → t.mem = ((List.range (s.dev.fld ING_REG_HWM 25 0)).foldl
        (fun d i => d.recPutBytes i rZONES (zeroBytes 16)) s.dev).mem)))

/-- START, ACTIVATE, ABORT, ROLLBACK and RELEASE of a slot. On a module without a partner to mirror to they act at once: START with a failing check stores its result alone; one that passes takes the header and the links into the slot. ACTIVATE of a READY firmware campaign takes DST_C_TACT and asks every COMPLETE target. ABORT of a running campaign ends it ABORTED with CANCEL owed to its RECEIVING and COMPLETE targets and event 36. ROLLBACK asks every ACTIVE target of a firmware campaign. RELEASE of an ended one clears the slot and its registers. In another state the result is 4 STATE and nothing else changes. With a mirroring partner the command waits for its acknowledgement. Where the spec leaves a point open it is the model's reading: log entries 89, 90, 91. -/
def Obligations.CampaignCommands : Prop :=
  ∀ (s : State) (r : Requester) (c : Fin 8), Awake s → s.dev.mayWrite r (DST_C_CTRL c) = true →
    (s.dev.mirrors = false →
      let z := s.dev.dslot c
      let state := fun (i : Instr) => Completes i s (· = (s.dev.dResult c drSTATE).answer 0)
      (∀ links : Fin 4, s.dev.startCheck c links ≠ 0 → Completes (.dstStart r c links) s
        (· = (s.dev.dResult c (s.dev.startCheck c links)).answer 0)) ∧
      (∀ links : Fin 4, s.dev.startCheck c links = 0 → Completes (.dstStart r c links) s (fun t => t = (s.dev.dstStart c links).answer 0 ∧
        (t.dslot c).header = s.dev.ldBytes (s.dev.rd64 (DST_C_IMG_LO c)) 128 ∧ t.rd (DST_C_CTRL c) = 256 * links.val ∧
        ([dsDELIVER, dsREADY, dsACTIVATING, dsHALTED, dsDONE].contains (t.dslot c).st) = true)) ∧
      (z.st = dsREADY → z.tariff = false → Completes (.dstActivate r c) s (· =
        (((((s.dev.setDslot c { z with tact := s.dev.rd (DST_C_TACT c) }).queueCtl c msgACTIVATE (s.dev.dIn c [tCOMPLETE])).dEnter c
          dsACTIVATING).dResult c 0).activating c |>.mirrorSlot c).answer 0)) ∧
      (z.st ≠ dsREADY → (z.st = dsIDLE ∨ z.tariff = false) → state (.dstActivate r c)) ∧
      ([dsDELIVER, dsREADY, dsACTIVATING, dsHALTED].contains z.st = true → Completes (.dstAbort r c) s (fun t =>
        (t.dslot c).st = dsABORTED ∧ (t.dslot c).result = 0 ∧ (t.rd DST_DONE_MAP).testBit c = true ∧
        (t.dslot c).ctl = (s.dev.dIn c [tRECEIVING, tCOMPLETE]).foldl (fun l k => Assoc.put l k msgCANCEL) [] ∧
        (∃ e, t.evq = s.dev.evq ++ [e] ∧ e.event = 36) ∧ t.mem = s.dev.mem)) ∧
      ([dsDELIVER, dsREADY, dsACTIVATING, dsHALTED].contains z.st = false → state (.dstAbort r c)) ∧
      ([dsACTIVATING, dsHALTED, dsDONE].contains z.st = true → z.tariff = false →
        let ks := s.dev.dIn c [tACTIVE]
        let d := (s.dev.dropCtl c msgACTIVATE).queueCtl c msgROLLBACK ks
        let d := d.setDslot c { d.dslot c with st := dsROLLING, result := 0, rolled := ks, asked := [] }
        Completes (.dstRollback r c) s (· = ((d.dProgress c).mirrorSlot c).answer 0)) ∧
      ([dsACTIVATING, dsHALTED, dsDONE].contains z.st = false → (z.st = dsIDLE ∨ z.tariff = false) → state (.dstRollback r c)) ∧
      ([dsDONE, dsABORTED, dsSUPERSEDED].contains z.st = true → s.dev.cancelDue c = false → Completes (.dstRelease r c) s (fun t =>
        t.dslot c = {} ∧ t.mem = s.dev.mem ∧ (∀ a, DST_C_IMG_LO c ≤ a → a < DST_C_IMG_LO c + 0x40 → t.rd a = (resetWord a).toNat) ∧
        ∀ a, (a < DST_C_IMG_LO c ∨ DST_C_IMG_LO c + 0x40 ≤ a) → t.rd a = s.dev.rd a)) ∧
      (([dsDONE, dsABORTED, dsSUPERSEDED].contains z.st = false ∨ s.dev.cancelDue c = true) → state (.dstRelease r c))) ∧
    (s.dev.mirrors = true → s.dev.dst.due = [] → s.dev.red.ackedSeq ≤ s.dev.red.nextSeq →
      ∀ k ∈ [(Instr.dstActivate r c, 2), (Instr.dstAbort r c, 3), (Instr.dstRollback r c, 4), (Instr.dstRelease r c, 5)],
      Completes k.1 s (fun t => t.dst.slots = s.dev.dst.slots ∧ t.reg = s.dev.reg ∧ t.mem = s.dev.mem ∧ t.bus.cause = none ∧
        t.dst.due = [{ slot := c.val, cmd := k.2, value := k.2, mirror := s.dev.red.nextSeq + 1 }]))

/-- DST_SEND on a link that DST may use, at its pace, with a next message and leave of the link's class: the framed message goes into its lane's transmit queue, the leave is returned, the next may go after 1 / rate s, and the slot notes the sending; a queue that takes no frame leaves only the leave returned; without leave the denial is counted. DST_REPORT that is a REPORT of 13 bytes or more is counted and taken for every campaign that carries its image and names the meter. CAMPAIGN_DEADLINE of a delivering campaign makes its PENDING and RECEIVING targets UNREACHABLE and ends the delivery; of an ended one it drops the CANCELs still owed. ACT_WAIT_EXPIRE makes the targets silent too long UNREACHABLE. Where the spec leaves a point open it is the model's reading: log entries 2, 89, 90. -/
def Obligations.CampaignTraffic : Prop :=
  ∀ s : State, Awake s →
    (∀ (link : Fin 2) (m : DstMsg), s.dev.dstLink link = true →
      (if link.val = 0 then s.dev.dst.next0 else s.dev.dst.next1) ≤ s.dev.time.ticks → s.dev.nextMsg link = some m →
      let d := s.dev.request (dstClass link) (dstClient link)
      (d.granted (dstClass link) (dstClient link) = false → Completes (.dstSend link) s (· =
        ({ d with dst := { d.dst with leaveWait := true } } : Dev).bump DST_LEAVE_DENY)) ∧
      (d.granted (dstClass link) (dstClient link) = true →
        let p := d.enginePush codeDST m.lane (d.dFrame m)
        let e := p.1.giveBack (dstClass link) (dstClient link)
        let e : Dev := { e with dst := { e.dst with leaveWait := false } }
        let next := e.time.ticks + ceilDiv 250000000 (max 1 (if link.val = 0 then e.rd DST_RATE_RAD else e.rd DST_RATE_PLC))
        (p.2 = false → Completes (.dstSend link) s (· = e)) ∧
        (p.2 = true → Completes (.dstSend link) s (· =
          ({ e with dst := (if link.val = 0 then { e.dst with next0 := next } else { e.dst with next1 := next }) } : Dev).msgSent m link)))) ∧
    (∀ (meter : BitVec 64) (msg : Bytes), s.dev.runs pDST = true → leAt msg 0 1 = msgREPORT → 13 ≤ msg.length →
      let d := s.dev.bump DST_REPORT_COUNT
      ((∀ c, c < 8 → (s.dev.dslot c).st = dsIDLE ∨ (s.dev.dslot c).imageId ≠ leAt msg 1 4) → Completes (.dstReport meter msg) s (· = d)) ∧
      (∀ c k, c < 8 → (s.dev.dslot c).st ≠ dsIDLE → (s.dev.dslot c).imageId = leAt msg 1 4 →
        (d.dTargets c).find? (fun k => d.dEui c k == meter.toNat) = some k → (∀ e, e < 8 → e ≠ c → (s.dev.dslot e).st = dsIDLE) →
        Completes (.dstReport meter msg) s (· = d.dReport c k msg))) ∧
    (∀ c : Fin 8, s.dev.runs pDST = true → s.dev.rd64 (DST_C_DEADLINE_LO c) ≤ s.dev.ext →
      let z := s.dev.dslot c
      (z.st = dsDELIVER → Completes (.campaignDeadline c) s (fun t =>
        let d := (s.dev.dIn c [tPENDING, tRECEIVING]).foldl (fun d k => d.setDState c k tUNREACHABLE) s.dev
        t = ((d.setDslot c { d.dslot c with ctl := (d.dslot c).ctl.filter fun e => e.2 != msgANNOUNCE }).delivered c).mirrorSlot c)) ∧
      ((z.st = dsABORTED ∨ z.st = dsSUPERSEDED) → Completes (.campaignDeadline c) s (fun t =>
        (t.dslot c).ctl = z.ctl.filter (fun e => e.2 != msgCANCEL) ∧ (t.dslot c).st = z.st ∧ t.reg = s.dev.reg ∧ t.mem = s.dev.mem))) ∧
    (∀ c : Fin 8, s.dev.runs pDST = true →
      let st := (s.dev.dslot c).st
      let ks := if st = dsACTIVATING then s.dev.dIn c [tCOMPLETE] else if st = dsROLLING then s.dev.dIn c [tACTIVE] else []
      let gone := ks.filter fun k => match s.dev.silentUntil c k with | none => false | some t => decide (t ≤ (s.dev.ext : Int))
      gone ≠ [] → Completes (.actWaitExpire c) s (· = ((gone.foldl (fun d k => d.setDState c k tUNREACHABLE) s.dev).dProgress c).mirrorSlot c))

/-- On a transmit queue of a lane that is not fenced and that the requester may use. Q_WR adds four bytes to the open frame, opening one where none is; a byte string of 2,048 makes it too long, and a cell that R167 does not allow marks it refused, counted with its reason. COMMIT with a tag within the words written frees the port and puts the frame, cut to its length, with producer, time and sequence, at the end of the queue with result OK; a refused frame gives REFUSED, one too long OVERSIZE, an impossible tag RANGE with the frame left open, none open STATE. ABANDON frees the port. RENEW and CLR_CORR answer OK, CLR_CORR clears the correction count. Other queues, registers and memory stay. Where the spec leaves a point open it is the model's reading: log entries 8, 55. -/
def Obligations.QuarryProducer : Prop :=
  ∀ (s : State) (r : Requester) (q : Fin 1024) (d : Dev), Awake s → s.dev.laneFenced (q / 2) = false →
    s.dev.touchLane (q / 2) (ownerCode r) (if r.role = .ext then r.id.val else 0) = (d, none) →
    let v := s.dev.queue q
    let becomes := fun (t : Dev) (w : Queue) => t.queue q = w ∧ (∀ p, p ≠ q.val → t.queue p = s.dev.queue p) ∧ t.mem = s.dev.mem ∧ t.bus.cause = none
    let only := fun (t : Dev) (w : Queue) => becomes t w ∧ t.reg = s.dev.reg ∧ t.qry.frames = s.dev.qry.frames
    (q.val % 2 = 0 → s.dev.mayWrite r (QRY_Q_WR q) = true → ∀ x : Word,
      let o : OpenFrame := v.port.getD {}
      let need := cellsOf (o.data.length + 4)
      (o.tooLong = true ∨ o.refused = true → Completes (.qWr r q x) s (fun t => only t { v with port := some o, res := qOK })) ∧
      (o.tooLong = false → o.refused = false → o.data.length = 2048 → Completes (.qWr r q x) s (fun t =>
        becomes t { v with port := some { o with tooLong := true }, res := qOK } ∧
        t.rd QRY_OVERSIZE_COUNT = satNat (s.dev.rd QRY_OVERSIZE_COUNT + 1) m32)) ∧
      (o.tooLong = false → o.refused = false → o.data.length ≠ 2048 → need ≤ o.cells → Completes (.qWr r q x) s (fun t =>
        only t { v with port := some { o with data := o.data ++ leBytes 4 x.toNat }, res := qOK })) ∧
      (let e := d.setQueue q { v with port := some o, res := qOK }
       o.tooLong = false → o.refused = false → o.data.length ≠ 2048 → o.cells < need →
       (e.cellWhy q 0 = none → Completes (.qWr r q x) s (fun t =>
         only t { v with port := some { o with data := o.data ++ leBytes 4 x.toNat, cells := need }, res := qOK })) ∧
       (∀ why, e.cellWhy q 0 = some why → Completes (.qWr r q x) s (fun t =>
         becomes t { v with port := some { o with refused := true }, res := qOK } ∧
         t.rd QRY_REFUSE_COUNT = satNat (s.dev.rd QRY_REFUSE_COUNT + 1) m32 ∧ t.rd QRY_REFUSE_LAST = (q.val + 65536 * why) % 2 ^ 32)))) ∧
    (q.val % 2 = 0 → s.dev.mayWrite r (QRY_Q_CMD q) = true → ∀ tag : Fin 32,
      (∀ o, v.port = some o → o.refused = false → o.tooLong = false →
        let words := lastWord o.data.length
        let k := (o.data.length - 32 * (words - 1)) / 4
        let f : Frame := {
          data := o.data.take (32 * (words - 1) + tag.val + 1), producer := ownerCode r, queue := q, t := s.dev.ext, tUnc := 0, fseq := v.fseq
          holders := [q.val], charged := q }
        (4 * (k - 1) < tag.val + 1 → tag.val + 1 ≤ 4 * k → Completes (.qCommit r q tag) s (fun t =>
          becomes t { v with port := none, ids := v.ids ++ [s.dev.qry.nextId], fseq := (v.fseq + 1) % 2 ^ 32, res := qOK } ∧
          t.reg = s.dev.reg ∧ t.frame? s.dev.qry.nextId = some f ∧ t.qry.nextId = s.dev.qry.nextId + 1)) ∧
        (¬ (4 * (k - 1) < tag.val + 1 ∧ tag.val + 1 ≤ 4 * k) → Completes (.qCommit r q tag) s (fun t => only t { v with res := qRANGE }))) ∧
      (∀ o, v.port = some o → o.refused = true → Completes (.qCommit r q tag) s (fun t => only t { v with port := none, res := qREFUSED })) ∧
      (∀ o, v.port = some o → o.refused = false → o.tooLong = true →
        Completes (.qCommit r q tag) s (fun t => only t { v with port := none, res := qOVERSIZE })) ∧
      (v.port = none → Completes (.qCommit r q tag) s (fun t => only t { v with res := qSTATE })) ∧
      (v.port ≠ none → Completes (.qAbandon r q) s (fun t => only t { v with port := none, res := qOK })) ∧
      (v.port = none → Completes (.qAbandon r q) s (fun t => only t { v with res := qSTATE }))) ∧
    (s.dev.mayWrite r (QRY_Q_CMD q) = true →
      Completes (.qRenew r q) s (fun t => only t { v with res := qOK } ∧ t.qry.owners = d.qry.owners) ∧
      Completes (.qClrCorr r q) s (fun t => only t { v with res := qOK, corr := 0 }))

/-- On a receive queue of a lane that is not fenced and that the requester may use, with QRY enabled. ADVANCE moves RD on and gives EMPTY at the end; MARK puts MARK at RD; REWIND puts RD back at MARK; RELEASE frees the frames below MARK, EMPTY where there are none; SEEK sets the aperture index within the frame, RANGE beyond it; FORWARD adds a holder and the frame's number to an enabled even queue with room, without copying, and refuses by R166 otherwise. APERTURE_READ answers the word at the index, latched by a read of offset 0x20, and EMPTY with 0 at the end. Q_COUNT_READ answers occupancy and number of frames and latches QRY_Q_BYTES of the same instant. Where the spec leaves a point open it is the model's reading: log entries 8, 53, 54. -/
def Obligations.QuarryConsumer : Prop :=
  ∀ (s : State) (r : Requester) (q : Fin 1024) (d : Dev), Awake s → s.dev.laneFenced (q / 2) = false → q.val % 2 = 1 →
    s.dev.touchLane (q / 2) (ownerCode r) (if r.role = .ext then r.id.val else 0) = (d, none) →
    let v := s.dev.queue q
    let only := fun (t : Dev) (w : Queue) => t.queue q = w ∧ (∀ p, p ≠ q.val → t.queue p = s.dev.queue p) ∧ t.mem = s.dev.mem ∧
      t.bus.cause = none ∧ t.reg = s.dev.reg ∧ t.qry.frames = s.dev.qry.frames
    (s.dev.mayWrite r (QRY_Q_CMD q) = true → s.dev.en pQRY = true →
      (v.rd < v.ids.length → Completes (.qAdvance r q) s (fun t => only t { v with rd := v.rd + 1, ap := 0, lat := none, res := qOK })) ∧
      (v.ids.length ≤ v.rd → Completes (.qAdvance r q) s (fun t => only t { v with res := qEMPTY })) ∧
      Completes (.qMark r q) s (fun t => only t { v with mark := v.rd, res := qOK }) ∧
      Completes (.qRewind r q) s (fun t => only t { v with rd := v.mark, ap := 0, lat := none, res := qOK }) ∧
      (v.mark = 0 → Completes (.qRelease r q) s (fun t => only t { v with res := qEMPTY })) ∧
      (v.mark ≠ 0 → Completes (.qRelease r q) s (fun t =>
        t = (((d.dropFront q v.mark).1.setQueue q { (d.dropFront q v.mark).1.queue q with res := qOK }).answer 0) ∧
        t.queue q = { v with ids := v.ids.drop v.mark, mark := 0, rd := v.rd - v.mark, res := qOK } ∧ t.mem = s.dev.mem)) ∧
      (∀ (w : Fin 1024) (f : Frame), v.cur.bind s.dev.frame? = some f →
        (w.val % 128 ≤ lastWord f.data.length → Completes (.qSeek r q w) s (fun t => only t { v with ap := w.val % 128, lat := none, res := qOK })) ∧
        (lastWord f.data.length < w.val % 128 → Completes (.qSeek r q w) s (fun t => only t { v with res := qRANGE }))) ∧
      (∀ (dest : Fin 1024) (i : Nat) (f : Frame), v.cur = some i → s.dev.frame? i = some f →
        let z := s.dev.queue dest
        (dest.val % 2 = 1 ∨ f.poisoned = true → Completes (.qForward r q dest) s (fun t => only t { v with res := qRANGE })) ∧
        (dest.val % 2 = 0 → f.poisoned = false → 4 ≤ f.holders.length → Completes (.qForward r q dest) s (fun t => only t { v with res := qSTATE })) ∧
        (dest.val % 2 = 0 → f.poisoned = false → f.holders.length < 4 →
          (s.dev.qQuota dest < s.dev.occ dest + f.cells ∨ (s.dev.qCfg dest).testBit 0 = false) →
          Completes (.qForward r q dest) s (fun t => only t { v with res := qREFUSED })) ∧
        (dest.val % 2 = 0 → f.poisoned = false → f.holders.length < 4 → s.dev.occ dest + f.cells ≤ s.dev.qQuota dest → (s.dev.qCfg dest).testBit 0 = true →
          Completes (.qForward r q dest) s (fun t => t.queue q = { v with res := qOK } ∧ t.queue dest = { z with ids := z.ids ++ [i] } ∧
            t.frame? i = some { f with holders := f.holders ++ [dest.val], shared := true } ∧ t.reg = s.dev.reg ∧ t.mem = s.dev.mem)))) ∧
    (∀ (j : Fin 8) (ecc : Fin 3), s.dev.mayRead r (QRY_Q_AP q j) = true → s.dev.takeLatch (QRY_Q_AP q j) = none →
      (v.cur = none → Completes (.apertureRead r q j ecc) s (fun t => only t { v with res := qEMPTY } ∧ t.bus.data = 0)) ∧
      (∀ i w, v.cur = some i → v.lat = some w → j.val ≠ 0 → Completes (.apertureRead r q j ecc) s (fun t => only t v ∧ t.bus.data = leAt w (4 * j) 4)) ∧
      (∀ i f, v.cur = some i → v.lat = none → s.dev.frame? i = some f → ecc.val = 0 → f.bad.contains v.ap = false →
        Completes (.apertureRead r q j ecc) s (fun t => t.bus.data = leAt (f.word v.ap) (4 * j) 4 ∧
          only t (if j.val = 0 then { v with lat := some (f.word v.ap) } else v)))) ∧
    (s.dev.mayRead r (QRY_Q_COUNT q) = true → s.dev.takeLatch (QRY_Q_COUNT q) = none →
      Completes (.qCountRead r q) s (fun t => only t { v with bytesLatch := some (s.dev.qBytes q) } ∧
        t.bus.data = satNat (s.dev.occ q) 0x3FFFF + 0x40000 * satNat v.ids.length 16383))

/-- LEASE_EXPIRE of a lane whose lease has run out fences it and counts the expiry; one whose lease stands changes nothing. FENCE by SYS or SEC fences the lane, and its sweep begins, or waits behind the one under way in ascending order. SWEEP_DONE of the lane under sweep frees its open frame, its transmit frames, then its receive frames, stores lane and cells in QRY_RECLAIM_LAST, counts the cells, raises event 25, and the next waiting lane begins. UNFENCE of a fenced lane neither under sweep nor waiting gives it back with no owner and both its queues empty with every pointer at the start; while its sweep runs or waits the write is ENGINE_BUSY. Where the spec leaves a point open it is the model's reading: log entries 2, 53, 54, 55. -/
def Obligations.LeasesFencesAndSweep : Prop :=
  ∀ (s : State) (r : Requester) (lane : Fin 512), Awake s →
    (let fenced := fun (t : Dev) => lane.val ∈ t.qry.fenced ∧ t.qry.frames = s.dev.qry.frames ∧ t.qry.queues = s.dev.qry.queues ∧ t.mem = s.dev.mem ∧
       (s.dev.qry.sweeping = none → t.qry.sweeping = some lane.val ∧ t.qry.waiting = s.dev.qry.waiting) ∧
       (s.dev.qry.sweeping ≠ none → t.qry.sweeping = s.dev.qry.sweeping ∧ lane.val ∈ t.qry.waiting)
     (s.dev.leaseOut lane = true → Completes (.leaseExpire lane) s (fun t => fenced t ∧
        t.rd QRY_FENCE_COUNT = satNat (s.dev.rd QRY_FENCE_COUNT + 1) m32 ∧ ∀ a, a ≠ QRY_FENCE_COUNT → t.rd a = s.dev.rd a)) ∧
     (s.dev.leaseOut lane = false → Completes (.leaseExpire lane) s (· = s.dev)) ∧
     (s.dev.mayWrite r QRY_FENCE = true → r.role ≠ .app → r.role ≠ .ext →
       (s.dev.laneFenced lane = false → Completes (.qFence r lane) s (fun t => fenced t ∧ t.reg = s.dev.reg ∧ t.bus.cause = none)) ∧
       (s.dev.laneFenced lane = true → s.dev.qry.sweeping ≠ some lane.val → s.dev.qry.waiting.contains lane.val = false →
         Completes (.qUnfence r lane) s (fun t => t.qry.fenced = s.dev.qry.fenced.erase lane.val ∧ t.qry.owners = Assoc.del s.dev.qry.owners lane.val ∧
           (∀ q, q = 2 * lane.val ∨ q = 2 * lane.val + 1 → t.queue q =
             { s.dev.queue q with ids := [], mark := 0, rd := 0, ap := 0, lat := none, port := none }) ∧ t.reg = s.dev.reg ∧ t.mem = s.dev.mem)) ∧
       (s.dev.qry.sweeping = some lane.val ∨ s.dev.qry.waiting.contains lane.val = true →
         Completes (.qUnfence r lane) s (· = s.dev.violate r QRY_FENCE ENGINE_BUSY true)))) ∧
    (s.dev.qry.sweeping = some lane.val →
      let tx := 2 * lane.val
      let d := s.dev.setQueue tx { s.dev.queue tx with port := none }
      let a := d.dropFront tx (d.queue tx).ids.length
      let b := a.1.dropFront (tx + 1) (a.1.queue (tx + 1)).ids.length
      let freed := (s.dev.queue tx).openCells + a.2 + b.2
      Completes .sweepDone s (fun t => t.rd QRY_RECLAIM_LAST = (lane.val + 512 * satNat freed 0x3FFFF) % 2 ^ 32 ∧
        t.rd QRY_RECLAIM_COUNT = satNat (b.1.rd QRY_RECLAIM_COUNT + freed) m32 ∧ (∃ e, t.evq = b.1.evq ++ [e] ∧ e.event = 25) ∧
        t.qry.sweeping = b.1.qry.waiting.head? ∧ t.qry.waiting = b.1.qry.waiting.tail ∧ t.qry.queues = b.1.qry.queues ∧
        t.qry.frames = b.1.qry.frames ∧ t.mem = s.dev.mem))

/-- For the radio (0) and the power line (1). A send of a lane whose frame fits its kind starts the procedure with NB = 0 and BE = MIN_BE, the MPDU built once; while a procedure runs or an ACK is awaited nothing happens. At a backoff's end a frame that would not end in time is kept and counted DEFER; without leave LEAVE_WAIT is counted and the procedure goes on; on a busy channel CCA_BUSY is counted, BE grows to at most MAX_BE, and after MAX_BACKOFFS the try fails with CA_FAIL; on an idle one the frame goes out and, with AR, waits for its ACK. Without an ACK the frame is tried again, and released with ACK_FAIL and LN_TX_FAIL after MAX_RETRY + 1 tries. An owed ACK goes out with the frame's SEQ. Where the spec leaves a point open it is the model's reading: log entries 2, 92, 93, 94. -/
def Obligations.MeterLinkAccess : Prop :=
  ∀ (s : State) (m : Nat) (lane : Fin 512), Awake s → m < 2 →
    let z := s.dev.mac m
    let quiet := fun (t : Dev) => t.reg = s.dev.reg ∧ t.out = s.dev.out ∧ t.qry = s.dev.qry ∧ t.mem = s.dev.mem
    let counts := fun (t : Dev) (a : Nat) => t.rd a = satNat (s.dev.rd a + 1) m32
    (let send := if m = 0 then Instr.csmaSend lane else Instr.plcCsmaSend lane
     let kind := s.dev.laneKind lane
     (∀ f, s.dev.macSends m = true → z.access = none → z.ackWait = none → s.dev.laneOn lane = true → s.dev.laneLink lane = m + 1 →
       (kind = 0 ∨ kind = 3 ∨ (m = 1 ∧ kind = 1)) → s.dev.txFront? lane = some f →
       ((s.dev.laneTx m lane).mpdu ≠ [] → Completes send s (fun t =>
         t.mac m = { z with access := some { lane := lane, nb := 0, be := s.dev.minBe m } } ∧ quiet t)) ∧
       ((s.dev.laneTx m lane).mpdu = [] → ∀ d,
         (∀ x, s.dev.psduOf m lane false false f.data = (d, some x) → Completes send s (fun t =>
           (t.mac m).access = some { lane := lane, nb := 0, be := d.minBe m } ∧ t.laneTx m lane = { mpdu := x } ∧ t.reg = d.reg ∧ t.mem = d.mem)) ∧
         (s.dev.psduOf m lane false false f.data = (d, none) → Completes send s (fun t =>
           t = d.laneFail m lane ∧ (t.mac m).access = none ∧ t.laneTx m lane = {})))) ∧
     (z.access ≠ none ∨ z.ackWait ≠ none → Completes send s (· = s.dev))) ∧
    (∀ a, z.access = some a →
      let stop := Instr.csmaBackoffEnd (m == 1)
      let p := (s.dev.laneTx m a.lane).mpdu
      let data := ((s.dev.txFront? a.lane).map (·.data)).getD []
      let map := s.dev.plcMap a.lane (s.dev.txTo a.lane data) ((txFlags data).testBit 2)
      let need := s.dev.plcSymbol + s.dev.plcAir map.1 map.2 p.length + 5000000
      let fits : Bool := if m = 0 then s.dev.fitsContention p.length else decide (s.dev.ext + need ≤ s.dev.plcNominal s.dev.plcBcnNow)
      let c : Client := ⟨mPage m, a.lane⟩
      let leave := (s.dev.request (mClass m) c).granted (mClass m) c
      s.dev.macSends m = true → (s.dev.txFront? a.lane).isSome = true →
      (if m = 0 then s.dev.contention = true else need ≤ s.dev.plcPeriod) →
      (∀ busy, fits = false → Completes (stop busy) s (fun t =>
        t.mac m = { z with access := none } ∧ counts t (mDefer m) ∧ (∀ b, b ≠ mDefer m → t.rd b = s.dev.rd b) ∧ t.out = s.dev.out ∧ t.qry = s.dev.qry)) ∧
      (∀ busy, fits = true → leave = false → Completes (stop busy) s (fun t =>
        t.mac m = z ∧ counts t (mLeaveWait m) ∧ t.out = s.dev.out ∧ t.qry = s.dev.qry)) ∧
      (fits = true → leave = true →
        let heard := fun (busy : Bool) => let d := s.dev.request (mClass m) c; if m = 0 then d.ccaCount s.dev.hopChannel busy else d
        (let e := (heard true).giveBack (mClass m) c
         let counts := fun (t : Dev) (a : Nat) => t.rd a = satNat (e.rd a + 1) m32
         (a.nb + 1 ≤ e.maxBackoffs m → Completes (stop true) s (fun t => counts t (mCcaBusy m) ∧ t.out = s.dev.out ∧ t.qry = s.dev.qry ∧
           t.mac m = { z with access := some { lane := a.lane, nb := a.nb + 1, be := min (a.be + 1) (e.maxBe m) } } ∧ t.pwr = e.pwr)) ∧
         (e.maxBackoffs m < a.nb + 1 → Completes (stop true) s (fun t => counts t (mCcaBusy m) ∧ counts t (mCaFail m) ∧ t.out = s.dev.out ∧
           (t.mac m).access = none ∧ t.pwr = e.pwr ∧
           ((s.dev.laneTx m a.lane).tries + 1 ≤ e.maxRetry m → t.qry = s.dev.qry ∧
             t.laneTx m a.lane = { s.dev.laneTx m a.lane with tries := (s.dev.laneTx m a.lane).tries + 1 }) ∧
           (e.maxRetry m < (s.dev.laneTx m a.lane).tries + 1 → t.laneTx m a.lane = {} ∧ counts t (LN_TX_FAIL a.lane))))) ∧
        Completes (stop false) s (fun t => ∃ e : Dev, t = e.giveBack (mClass m) c ∧ (e.mac m).access = none ∧ e.pwr = (heard false).pwr ∧
          (m = 0 → e.out = s.dev.out ++ [{ port := .radio, ext := s.dev.ext, bytes := p }] ∧ counts e RAD_TX_COUNT ∧ e.rad.cca = (heard false).rad.cca) ∧
          (m = 1 → (∃ h : Bytes, h.length = 8 ∧ e.out = s.dev.out ++ [{ port := .plc, ext := s.dev.ext, bytes := h ++ p }]) ∧ counts e PLC_TX_COUNT) ∧
          ((leAt p 0 1).testBit 5 = true → e.qry = s.dev.qry ∧ ∃ w, (e.mac m).ackWait = some w ∧ w.lane = a.lane ∧ w.seq = leAt p 2 1 ∧
            w.frame = s.dev.headId a.lane) ∧
          ((leAt p 0 1).testBit 5 = false → (e.mac m).ackWait = z.ackWait ∧ e.laneTx m a.lane = {} ∧ counts e (LN_TX_OK a.lane))))) ∧
    (m = 0 → s.dev.contention = false → ∀ busy, Completes (.csmaBackoffEnd false busy) s (· = s.dev)) ∧
    (let late := Instr.ackWaitTimeout (m == 1)
     (z.ackWait = none → Completes late s (· = s.dev)) ∧
     (∀ w, z.ackWait = some w →
       (w.frame = none ∨ (m = 0 ∧ s.dev.laneKind w.lane = 2) → Completes late s (fun t => t.mac m = { z with ackWait := none } ∧ quiet t)) ∧
       (w.frame ≠ none → (m = 0 → s.dev.laneKind w.lane ≠ 2) →
         let k := s.dev.laneTx m w.lane
         (k.tries + 1 ≤ s.dev.maxRetry m → Completes late s (fun t => (t.mac m).ackWait = none ∧
           t.laneTx m w.lane = { k with tries := k.tries + 1 } ∧ quiet t)) ∧
         (s.dev.maxRetry m < k.tries + 1 → Completes late s (fun t => (t.mac m).ackWait = none ∧ t.laneTx m w.lane = {} ∧
           counts t (mAckFail m) ∧ counts t (LN_TX_FAIL w.lane) ∧ t.out = s.dev.out ∧ t.mem = s.dev.mem))))) ∧
    (let ack := if m = 0 then Instr.ackTx else Instr.plcAckTx
     (z.ackOwed = none → Completes ack s (· = s.dev)) ∧
     (∀ o, z.ackOwed = some o →
       (s.dev.macSends m = false → Completes ack s (fun t => t.mac m = { z with ackOwed := none } ∧ quiet t)) ∧
       (s.dev.macSends m = true → Completes ack s (fun t => (t.mac m).ackOwed = none ∧ t.qry = s.dev.qry ∧ t.mem = s.dev.mem ∧
         (m = 0 → let fp : Bool := o.contact && !(s.dev.pendingFrames o.src).isEmpty
           t.out = s.dev.out ++ [{ port := .radio, ext := s.dev.ext, bytes := s.dev.ackPsdu 0 o.seq fp }] ∧ counts t RAD_TX_COUNT ∧
           (∀ b, b ≠ RAD_TX_COUNT → t.rd b = s.dev.rd b) ∧ (fp = true → t.rad.indDue = some o.src)) ∧
         (m = 1 → (∃ h : Bytes, h.length = 8 ∧ t.out = s.dev.out ++ [{ port := .plc, ext := s.dev.ext, bytes := h ++ s.dev.ackPsdu 1 o.seq false }]) ∧
           counts t PLC_TX_COUNT ∧ ∀ b, b ≠ PLC_TX_COUNT → t.rd b = s.dev.rd b)))))

/-- SUPERFRAME_START of a running RMC when a new superframe has come: RAD and RMC registers of the boundary class take effect; with BCN_EN and lock the beacon, 34 octets with FCS32 and no security, with its SF_NO, goes out and is counted, otherwise it is missed. SYNTH_UNLOCK clears the lock and counts. A received frame with a bad PHR, or a bad FCS, is counted and dropped, one of another network counted as good and dropped; a good unsecured DATA frame for the device has its ACK owed when AR asks, and goes with a 16-octet header of its source, RSSI and channel into the DEFAULT lane's receive queue; from a connected peer it renews LN_LAST_RX. A scan starts only with RMC disabled, otherwise it is counted refused; its end puts the peak of each masked channel into RAD_SCAN_RES and raises event 61. Where the spec leaves a point open it is the model's reading: log entries 2, 92, 93, 94, 120. -/
def Obligations.RadioBeaconsFramesAndScans : Prop :=
  ∀ s : State, Awake s →
    let counts := fun (t : Dev) (a : Nat) => t.rd a = satNat (s.dev.rd a + 1) m32
    let onlyCounts := fun (t : Dev) (a : Nat) => counts t a ∧ (∀ b, b ≠ a → t.rd b = s.dev.rd b) ∧ t.qry = s.dev.qry ∧ t.mem = s.dev.mem ∧
      t.out = s.dev.out ∧ t.rad.mac = s.dev.rad.mac
    (∀ locked : Bool,
      let due : Bool := s.dev.runs pRMC && decide (s.dev.rad.sfDone < s.dev.sfNow)
      let d := (List.range (s.dev.sfNow - 1 - s.dev.rad.sfDone)).foldl (fun d _ => d.beaconMiss)
        { s.dev with rad := { s.dev.rad with sfDone := s.dev.sfNow, lock := locked } }
      let d := (d.boundary fun a => onPage pRAD a || onPage pRMC a).observe
      (due = false → Completes (.superframeStart locked) s (· = s.dev)) ∧
      (due = true →
        (d.macSends 0 = true → locked = true → (d.gov RMC_NET).testBit 16 = true → ∀ e x, d.beacon = (e, some x) →
          Completes (.superframeStart locked) s (fun t => t.out = s.dev.out ++ [{ port := .radio, ext := s.dev.ext, bytes := x }] ∧
            t.rd RMC_BCN_SENT = satNat (d.rd RMC_BCN_SENT + 1) m32 ∧ t.rad.sfDone = s.dev.sfNow ∧
            (∀ a, (onPage pRAD a || onPage pRMC a) = true → t.gov a = t.rd a) ∧
            ((d.gov RMC_BCN_SEC).testBit 8 = false → (d.gov RAD_PHY).testBit 3 = true →
              x.length = 34 ∧ leAt x 13 4 = (d.sfNow - 1) % 2 ^ 32))) ∧
        ((d.macSends 0 && locked && (d.gov RMC_NET).testBit 16) = false →
          Completes (.superframeStart locked) s (fun t => t = d.beaconMiss ∧ t.rd RMC_BCN_SKIP = satNat (d.rd RMC_BCN_SKIP + 1) m32 ∧
            t.out = s.dev.out ∧ t.rad.sfDone = s.dev.sfNow)))) ∧
    (s.dev.runs pRAD = true → Completes .synthUnlock s (fun t => t.rad = { s.dev.rad with lock := false } ∧ onlyCounts t RAD_SYNTH_UNLOCK)) ∧
    (s.dev.runs pRAD = false → Completes .synthUnlock s (· = s.dev)) ∧
    (∀ f : RadioRx, f.psdu.length ≤ 2047 →
      let n := if f.fcs32 then 4 else 2
      let body := f.psdu.take (f.psdu.length - n)
      (s.dev.macHears 0 = false → Completes (.radFrameRx f) s (· = s.dev)) ∧
      (s.dev.macHears 0 = true →
        (f.phrOk = false ∨ f.psdu.length < 7 → Completes (.radFrameRx f) s (fun t => onlyCounts t RAD_RX_PHR_ERR)) ∧
        (f.phrOk = true → 7 ≤ f.psdu.length → fcsBytes n body ≠ f.psdu.drop (f.psdu.length - n) →
          Completes (.radFrameRx f) s (fun t => onlyCounts t RAD_RX_FCS_ERR ∧ t.rad.rssi = f.rssi.toNat)) ∧
        (f.phrOk = true → 7 ≤ f.psdu.length → fcsBytes n body = f.psdu.drop (f.psdu.length - n) → ∀ x, parseMpdu body = some x →
          (x.net ≠ s.dev.gov RMC_NET % 65536 ∨ x.typ = fBEACON → Completes (.radFrameRx f) s (fun t => onlyCounts t RAD_RX_OK)) ∧
          (x.net = s.dev.gov RMC_NET % 65536 → x.typ = fDATA → x.ver = 1 → (x.dst = none ∨ x.dst = some s.dev.eui) → x.sec = false →
            Completes (.radFrameRx f) s (fun t => counts t RAD_RX_OK ∧ t.mem = s.dev.mem ∧ t.out = s.dev.out ∧
              (x.ar = true → ∃ o, t.rad.mac.ackOwed = some o ∧ o.src = x.src ∧ o.seq = x.seq ∧ o.tick = s.dev.time.ticks) ∧
              (x.ar = false → t.rad.mac.ackOwed = s.dev.rad.mac.ackOwed) ∧
              (∀ l, s.dev.peerOf 0 x.src = none → s.dev.laneOf 1 0 = some l → s.dev.en pQRY = true → s.dev.laneFenced l = false →
                (s.dev.qry.drain.any fun e => e.1 == 2 * l + 1) = false →
                s.dev.cellsWhy (2 * l + 1) (cellsOf (16 + x.payload.length)) = none →
                (t.queue (2 * l + 1)).ids = (s.dev.queue (2 * l + 1)).ids ++ [s.dev.qry.nextId] ∧ counts t (LN_RX_OK l) ∧
                ∃ g, t.frame? s.dev.qry.nextId = some g ∧ g.t = s.dev.ext - f.ago - s.dev.rd RAD_LAT_RX ∧
                  g.data = leBytes 8 x.src ++ [f.rssi, f.margin, BitVec.ofNat 8 f.channel.val] ++ leBytes 1 (rflags 0 x s.dev.cls.code) ++
                    leBytes 4 x.fcnt ++ x.payload) ∧
              (∀ k, s.dev.peerOf 0 x.src = some k → (t.conn k).lastRx = s.dev.time.ticks ∧
                t.rd64 (LN_LAST_RX_LO k) = (s.dev.ext - f.ago - s.dev.rd RAD_LAT_RX) % 2 ^ 64)))))) ∧
    (∀ (r : Requester) (dwell : BitVec 8), s.dev.mayWrite r RAD_SCAN_CMD = true →
      Completes (.scanStart r dwell) s (fun t => t.rd RAD_SCAN_CMD = 256 * dwell.toNat ∧ t.bus.cause = none ∧
        (s.dev.en pRMC = true ∨ s.dev.starts pRAD = false ∨ s.dev.rad.scan ≠ none → t.rad = s.dev.rad ∧ counts t RAD_SCAN_REFUSED) ∧
        (s.dev.en pRMC = false → s.dev.starts pRAD = true → s.dev.rad.scan = none →
          t.rad = { s.dev.rad with scan := some s.dev.time.ticks } ∧ ∀ a, a ≠ RAD_SCAN_CMD → t.rd a = s.dev.rd a))) ∧
    (∀ peaks : List (BitVec 8),
      (s.dev.rad.scan = none → Completes (.radScanDone peaks) s (· = s.dev)) ∧
      (s.dev.rad.scan ≠ none → Completes (.radScanDone peaks) s (fun t => t.rad = { s.dev.rad with scan := none } ∧
        (∃ e, t.evq = s.dev.evq ++ [e] ∧ e.event = 61) ∧
        ∀ c, c < 128 → t.fld (RAD_SCAN_RES (c / 4)) (8 * (c % 4) + 7) (8 * (c % 4)) =
          if (s.dev.rd (RAD_SCAN_MASK (c / 32))).testBit (c % 32) then (peaks.getD c 0).toNat
          else s.dev.fld (RAD_SCAN_RES (c / 4)) (8 * (c % 4) + 7) (8 * (c % 4)))))

/-- LISTEN and DISCONNECT put an enabled connection lane into LISTEN and IDLE. CONNECT_RSP_TX of a lane in LISTEN that owes the response, granted leave and a key, sends the secured response and makes the lane CONNECTED with its first event at the slot it names; without leave it is counted. SUPERVISION_TIMEOUT of a connected lane silent for SUP_TO makes it LOST and raises event 13. CONNECTION_EVENT counts each event passed over, starts the due event, with nothing queued an empty POLL that waits for its ACK, and skips one without a window. INDIRECT_TX sends the oldest frame pending for the meter in contact; without leave it is counted unsent; an expired one is dropped and counted. Where the spec leaves a point open it is the model's reading: log entries 2, 95. -/
def Obligations.ConnectionsAndSleepyMeters : Prop :=
  ∀ (s : State) (lane : Fin 512), Awake s →
    let c := s.dev.conn lane
    (∀ r : Requester, s.dev.mayWrite r (LN_CMD lane) = true → s.dev.isConn lane = true →
      Completes (.laneListen r lane) s (fun t => t.conn lane = { c with st := 1 } ∧ (∀ n, n ≠ lane.val → t.conn n = s.dev.conn n) ∧
        t.reg = s.dev.reg ∧ t.mem = s.dev.mem ∧ t.bus.cause = none) ∧
      Completes (.laneDisconnect r lane) s (fun t => t.conn lane = { c with st := 0 } ∧ (∀ n, n ≠ lane.val → t.conn n = s.dev.conn n) ∧
        t.reg = s.dev.reg ∧ t.mem = s.dev.mem ∧ t.bus.cause = none)) ∧
    (∀ r : Requester, s.dev.mayWrite r (LN_CMD lane) = true → s.dev.laneLink lane = 1 → s.dev.isConn lane = false →
      Completes (.laneListen r lane) s (· = s.dev.answer 0) ∧ Completes (.laneDisconnect r lane) s (· = s.dev.answer 0)) ∧
    (s.dev.rad.connectDue = some lane.val → s.dev.macSends 0 = true → s.dev.isConn lane = true → c.st = 1 →
      let d := ({ s.dev with rad := { s.dev.rad with connectDue := none } } : Dev).request 2 ⟨pRMC, lane.val⟩
      let ci := s.dev.connCi lane
      (d.granted 2 ⟨pRMC, lane.val⟩ = false → Completes (.connectRspTx lane) s (fun t =>
        t.rad = { s.dev.rad with connectDue := none } ∧ t.rd RMC_LEAVE_WAIT = satNat (s.dev.rd RMC_LEAVE_WAIT + 1) m32 ∧ t.out = s.dev.out)) ∧
      (d.granted 2 ⟨pRMC, lane.val⟩ = true →
        let g := s.dev.globalSlot + 4
        let g0 := g + (ci + s.dev.rd (LN_ANCHOR lane) % ci - g % ci) % ci
        let body := leBytes 2 0 ++ leBytes 4 g0 ++ leBytes 2 ci ++ leBytes 2 (s.dev.supTo lane) ++ leBytes 1 (s.dev.fld (LN_HOP lane) 6 0) ++
          leBytes 1 (s.dev.fld (LN_HOP lane) 14 8) ++ (List.range 4).flatMap fun i => leBytes 4 (s.dev.gov (LN_CHMAP lane i))
        (∀ e x, d.frameTo 0 fCONNECT_RSP false false true (some (s.dev.rd64 (LN_PEER_LO lane))) body = (e, some x) →
          Completes (.connectRspTx lane) s (fun t => t.conn lane = { st := 2, next := g0, lastRx := s.dev.time.ticks, ant := c.ant } ∧
            t.out = s.dev.out ++ [{ port := .radio, ext := s.dev.ext, bytes := x ++ fcsBytes s.dev.fcsLen x }] ∧ t.mem = e.mem ∧
            t.granted 2 ⟨pRMC, lane.val⟩ = false)) ∧
        (∀ e, d.frameTo 0 fCONNECT_RSP false false true (some (s.dev.rd64 (LN_PEER_LO lane))) body = (e, none) →
          Completes (.connectRspTx lane) s (fun t => t.conn lane = c ∧ t.out = s.dev.out)))) ∧
    (s.dev.rad.connectDue ≠ some lane.val ∨ s.dev.macSends 0 = false ∨ s.dev.isConn lane = false ∨ c.st ≠ 1 →
      Completes (.connectRspTx lane) s (· = s.dev)) ∧
    (let overD : Bool := s.dev.runs pRMC && c.st == 2 && s.dev.past c.lastRx (25000000 * s.dev.supTo lane)
     (overD = true → Completes (.supervisionTimeout lane) s (fun t => t.conn lane = { c with st := 3 } ∧
       (∀ n, n ≠ lane.val → t.conn n = s.dev.conn n) ∧ (∃ e, t.evq = s.dev.evq ++ [e] ∧ e.event = 13) ∧ t.mem = s.dev.mem ∧
       ∀ a, a ≠ PG_EVT_PEND pRMC → t.rd a = s.dev.rd a)) ∧
     (overD = false → Completes (.supervisionTimeout lane) s (· = s.dev))) ∧
    (let g := s.dev.globalSlot
     let quiet := fun (t : Dev) => t.out = s.dev.out ∧ t.qry = s.dev.qry ∧ t.mem = s.dev.mem
     (s.dev.runs pRMC = true → s.dev.isConn lane = true → c.st = 2 → 0 < s.dev.sfNow → c.last ≠ some g → c.next ≤ g →
       let d := s.dev.boundary (onLane lane)
       let ci := d.connCi lane
       let late := ceilDiv (g - c.next) ci
       let skips := fun (t : Dev) (k : Nat) => t.rd (LN_EVT_SKIP lane) = satNat (satNat (s.dev.rd (LN_EVT_SKIP lane) + late) m32 + k) m32 ∧
         t.rd RMC_EVT_SKIP = satNat (satNat (s.dev.rd RMC_EVT_SKIP + late) m32 + k) m32
       let w := d.eventWindow lane g
       (g < c.next + late * ci → Completes (.connectionEvent lane) s (fun t =>
         t.conn lane = { c with next := c.next + late * ci, evt := c.evt + late } ∧ skips t 0 ∧ quiet t)) ∧
       (g = c.next + late * ci →
         let ran := fun (t : Dev) => t.conn lane = { c with next := g + ci, evt := c.evt + late + 1, last := some g, more := false }
         (w = 0 → Completes (.connectionEvent lane) s (fun t => ran t ∧ skips t 1 ∧ quiet t)) ∧
         (w ≠ 0 → s.dev.macSends 0 = false → Completes (.connectionEvent lane) s (fun t => ran t ∧ skips t 0 ∧ quiet t)) ∧
         (w ≠ 0 → s.dev.macSends 0 = true → s.dev.txFront? lane = none → (s.dev.gov RAD_PHY).testBit 3 = true →
           s.dev.radAir 25 + 1000000 + s.dev.radAir 9 + s.dev.inSlot ≤ w →
           Completes (.connectionEvent lane) s (fun t => ran t ∧ skips t 0 ∧ t.qry = s.dev.qry ∧ t.mem = s.dev.mem ∧
             ∃ p : Bytes, p.length = 25 ∧ t.out = s.dev.out ++ [{ port := .radio, ext := s.dev.ext, bytes := p }] ∧
               leAt p 0 2 = fcWord fPOLL false false true true ∧
               ∃ a, t.rad.mac.ackWait = some a ∧ a.lane = lane.val ∧ a.frame = none ∧ a.seq = leAt p 2 1)))) ∧
     (s.dev.runs pRMC = false ∨ s.dev.isConn lane = false ∨ c.st ≠ 2 ∨ s.dev.sfNow = 0 ∨ (c.last ≠ some g ∧ g < c.next) →
       Completes (.connectionEvent lane) s (· = s.dev))) ∧
    (∀ (addr : Nat), s.dev.rad.indDue = some addr → s.dev.laneOf 1 2 = some lane.val → s.dev.macSends 0 = true →
      let d := ({ s.dev with rad := { s.dev.rad with indDue := none } } : Dev).request 2 ⟨pRMC, lane.val⟩
      ∀ i more, s.dev.pendingFrames addr = i :: more →
      (d.granted 2 ⟨pRMC, lane.val⟩ = false → Completes .indirectTx s (fun t => t.out = s.dev.out ∧ t.qry = s.dev.qry ∧
        t.rad = { s.dev.rad with indDue := none } ∧ t.rd RMC_IND_UNSENT = satNat (s.dev.rd RMC_IND_UNSENT + 1) m32)) ∧
      (d.granted 2 ⟨pRMC, lane.val⟩ = true → ∀ e p, d.psduOf 0 lane (!more.isEmpty) false (((s.dev.frame? i).map (·.data)).getD []) = (e, some p) →
        Completes .indirectTx s (fun t => t.out = s.dev.out ++ [{ port := .radio, ext := s.dev.ext, bytes := p }] ∧ t.rad.indDue = none ∧
          ((leAt p 0 1).testBit 5 = true → ∃ w, t.rad.mac.ackWait = some w ∧ w.lane = lane.val ∧ w.frame = some i ∧ w.seq = leAt p 2 1)))) ∧
    (s.dev.rad.indDue = none → Completes .indirectTx s (· = s.dev)) ∧
    (s.dev.laneOf 1 2 = some lane.val → s.dev.runs pRMC = true →
      let old := s.dev.indirect.filter fun i => match s.dev.frame? i with
        | none => false | some f => decide (f.t + s.dev.fld RMC_IND_CFG 15 0 * 1000000000 ≤ s.dev.ext)
      Completes .indirectExpire s (fun t => t.rd RMC_IND_EXPIRED = satNat (s.dev.rd RMC_IND_EXPIRED + old.length) m32 ∧
        t.rd (LN_TX_FAIL lane) = satNat (s.dev.rd (LN_TX_FAIL lane) + old.length) m32 ∧ t.out = s.dev.out ∧ t.mem = s.dev.mem)) ∧
    (s.dev.laneOf 1 2 = none → Completes .indirectExpire s (· = s.dev))

/-- PLC_BEACON_TX in a new beacon period: boundary-class registers take effect, and under COORD the beacon, 37 octets unsecured with its BCN_NO, goes out at the nominal instant or, aligned, after the first accepted edge, else it is missed. A received frame counts its noise symbols, with event 17 once past BURST_MAX, and is dropped and counted on a bad header, RS failure or FCS; a good unsecured DATA frame from no peer has its ACK owed when AR asks and goes with its 16-octet header into the DEFAULT lane. A tone map due goes out in a TONEMAP frame that waits for its ACK. An edge within 10 % of the mean interval is accepted under ZC_OK, another is a glitch; the eighth interval of 15 to 24 ms in a row sets ZC_OK, and its loss raises event 18. Where the spec leaves a point open it is the model's reading: log entries 2, 92, 96, 120. -/
def Obligations.PowerLine : Prop :=
  ∀ s : State, Awake s →
    let counts := fun (t : Dev) (a : Nat) => t.rd a = satNat (s.dev.rd a + 1) m32
    let keeps := fun (t : Dev) => t.qry = s.dev.qry ∧ t.mem = s.dev.mem ∧ t.rad = s.dev.rad
    (let due : Bool := s.dev.runs pPLC && decide (s.dev.plc.bcnDone < s.dev.plcBcnNow)
     let nominal := s.dev.plcNominal (s.dev.plcBcnNow - 1)
     let edge := (s.dev.plc.zcEdges.filter fun e => decide (nominal ≤ e)).getLast?
     (due = false ∨ (s.dev.zcAligned = true ∧ edge = none ∧ s.dev.pairSlave = false) → Completes .plcBeaconTx s (· = s.dev)) ∧
     (due = true → (s.dev.zcAligned = false ∨ edge ≠ none ∨ s.dev.pairSlave = true) →
       let b := ((List.range (s.dev.plcBcnNow - 1 - s.dev.plc.bcnDone)).foldl (fun d _ => d.plcMiss) s.dev).boundary (onPage pPLC)
       let d := if b.plcPlan = s.dev.plcPlan then b else b.clearMaps
       let d : Dev := { d with plc := { d.plc with bcnDone := s.dev.plcBcnNow, noise := 0, burst := false, tmapDone := [] } }
       let boundaryPassed := fun (t : Dev) => (∀ a, onPage pPLC a = true → t.gov a = t.rd a) ∧ keeps t ∧ t.plc.bcnDone = s.dev.plcBcnNow
       ((d.macSends 1 && (d.gov PLC_BCN).testBit 8) = true →
         ∀ e x, d.plcBeacon (if s.dev.zcAligned then edge.getD nominal else nominal) = (e, some x) →
         Completes .plcBeaconTx s (fun t => boundaryPassed t ∧ t.rd PLC_BCN_SENT = satNat (d.rd PLC_BCN_SENT + 1) m32 ∧
           (∃ h : Bytes, h.length = 8 ∧ t.out = s.dev.out ++ [{ port := .plc, ext := s.dev.ext, bytes := h ++ x }]) ∧
           t.plc.bcnStart = s.dev.ext ∧ t.plc.bcnEnd = s.dev.ext + d.plcAir 0 d.plcUnmasked x.length ∧
           ((d.gov PLC_BCN).testBit 9 = false → x.length = 37 ∧ leAt x 13 4 = (d.plcBcnNow - 1) % 2 ^ 32))) ∧
       ((d.macSends 1 && (d.gov PLC_BCN).testBit 8) = false → Completes .plcBeaconTx s (fun t => boundaryPassed t ∧ t.out = s.dev.out ∧
         (s.dev.pairSlave = false → t.rd PLC_BCN_SKIP = satNat (d.rd PLC_BCN_SKIP + 1) m32 ∧ ∃ v, t.evq = d.evq ++ [v] ∧ v.event = 16) ∧
         (s.dev.pairSlave = true → t = d))))) ∧
    (∀ f : PlcRx, f.psdu.length ≤ 2047 →
      let body := f.psdu.take (f.psdu.length - 4)
      let d := s.dev.plcNoise f.noise
      let heard := fun (t : Dev) (a : Nat) => t = d.bump a ∧ t.rd PLC_NOISE_SYM = satNat (s.dev.rd PLC_NOISE_SYM + f.noise) m32 ∧
        (s.dev.fld PLC_NOISE_CFG 23 8 < s.dev.plc.noise + f.noise → s.dev.plc.burst = false → ∃ v, t.evq = s.dev.evq ++ [v] ∧ v.event = 17) ∧
        (s.dev.plc.noise + f.noise ≤ s.dev.fld PLC_NOISE_CFG 23 8 ∨ s.dev.plc.burst = true → t.evq = s.dev.evq)
      let clear : Bool := !(decide (s.dev.ext - f.ago - 6 * 256 * s.dev.plcSample < s.dev.plc.bcnEnd) && decide (s.dev.plc.bcnStart < s.dev.ext) &&
        decide (0 < s.dev.plc.bcnEnd))
      let bad : Bool := !f.hdrOk || decide (f.psdu.length < 9) || decide (1024 < f.psdu.length) ||
        (f.gmask.toNat &&& s.dev.plcUnmasked) != f.gmask.toNat
      let good : Bool := clear && !bad && f.rsOk
      (s.dev.macHears 1 = false → Completes (.plcFrameRx f) s (· = s.dev)) ∧
      (s.dev.macHears 1 = true →
        (clear = false → Completes (.plcFrameRx f) s (heard · PLC_RX_ABORT)) ∧
        (clear = true → bad = true → Completes (.plcFrameRx f) s (heard · PLC_RX_HDR_ERR)) ∧
        (clear = true → bad = false → f.rsOk = false → Completes (.plcFrameRx f) s (heard · PLC_RX_RS_FAIL)) ∧
        (good = true → fcsBytes 4 body ≠ f.psdu.drop (f.psdu.length - 4) → Completes (.plcFrameRx f) s (heard · PLC_RX_FCS_ERR)) ∧
        (good = true → fcsBytes 4 body = f.psdu.drop (f.psdu.length - 4) → ∀ x, parseMpdu body = some x →
          ((x.typ = fBEACON ∨ x.typ = fPOLL ∨ x.typ = 4 ∨ x.typ = 5) → Completes (.plcFrameRx f) s (heard · PLC_RX_OK)) ∧
          (x.net = s.dev.gov PLC_NET % 65536 → x.typ = fDATA → x.ver = 1 → (x.dst = none ∨ x.dst = some s.dev.eui) → x.sec = false →
            s.dev.peerOf 1 x.src = none → Completes (.plcFrameRx f) s (fun t => counts t PLC_RX_OK ∧ t.mem = s.dev.mem ∧ t.out = s.dev.out ∧
              (x.ar = true → ∃ o, t.plc.mac.ackOwed = some o ∧ o.src = x.src ∧ o.seq = x.seq ∧ o.tick = s.dev.time.ticks) ∧
              (∀ l, s.dev.laneOf 2 0 = some l → s.dev.en pQRY = true → s.dev.laneFenced l = false →
                (s.dev.qry.drain.any fun e => e.1 == 2 * l + 1) = false → s.dev.cellsWhy (2 * l + 1) (cellsOf (16 + x.payload.length)) = none →
                (t.queue (2 * l + 1)).ids = (s.dev.queue (2 * l + 1)).ids ++ [s.dev.qry.nextId] ∧ counts t (LN_RX_OK l) ∧
                ∃ g c, t.frame? s.dev.qry.nextId = some g ∧ g.t = s.dev.ext - f.ago - s.dev.rd PLC_LAT_RX ∧ c < 7 ∧
                  g.data = leBytes 8 x.src ++ (leBytes 1 (s.dev.meanSnr f) ++ leBytes 1 f.modu.val ++ leBytes 1 c) ++
                    leBytes 1 (rflags 0 x s.dev.cls.code) ++ leBytes 4 x.fcnt ++ x.payload)))))) ∧
    (∀ (lane : Fin 512),
      (s.dev.plc.tmapDue.find? (fun e => e.1 == lane.val) = none → Completes (.tonemapTx lane) s (· = s.dev)) ∧
      (∀ w low, s.dev.plc.tmapDue.find? (fun e => e.1 == lane.val) = some (lane.val, w, low) →
        (s.dev.macSends 1 = false ∨ s.dev.plc.mac.ackWait ≠ none ∨ s.dev.plc.tmapDone.contains lane.val = true →
          Completes (.tonemapTx lane) s (· = s.dev)) ∧
        (s.dev.macSends 1 = true → s.dev.plc.mac.ackWait = none → s.dev.plc.tmapDone.contains lane.val = false →
          let body := leBytes 1 (w % 4) ++ leBytes 3 (bitsOf w 18 2) ++ leBytes 1 low ++ zeroBytes 1
          ∀ e x, s.dev.frameTo 1 fTONEMAP false true true (some (s.dev.rd64 (LN_PEER_LO lane))) body = (e, some x) →
          Completes (.tonemapTx lane) s (fun t => t.rd PLC_TMAP_SENT = satNat (e.rd PLC_TMAP_SENT + 1) m32 ∧ t.qry = e.qry ∧ t.mem = e.mem ∧
            (∃ h : Bytes, h.length = 8 ∧ t.out = e.out ++ [{ port := .plc, ext := e.ext, bytes := h ++ (x ++ fcsBytes 4 x) }]) ∧
            t.plc.tmapDone.contains lane.val = true ∧
            ∃ a, t.plc.mac.ackWait = some a ∧ a.lane = lane.val ∧ a.frame = none ∧ a.seq = leAt (x ++ fcsBytes 4 x) 2 1)))) ∧
    (let takes : Bool := s.dev.runs pPLC && s.dev.en pTIM && (List.range 8).any fun n => s.dev.capOn n 2
     let t0 := s.dev.ext
     let last := s.dev.plc.zcEdges.headD 0
     let mean := 10 * s.dev.fld PLC_ZC_STAT 21 0
     let taken := fun (t : Dev) => t.plc.zcEdges.head? = some t0 ∧ t.plc.zcTick = s.dev.time.ticks ∧ t.rd64 PLC_ZC_LAST_LO = t0 % 2 ^ 64
     (takes = false → Completes .zcEdge s (· = s.dev)) ∧
     (takes = true → s.dev.plc.zcOk = true →
       (last ≤ t0 → 9 * mean ≤ 10 * (t0 - last) → 10 * (t0 - last) ≤ 11 * mean → Completes .zcEdge s (fun t => taken t ∧ keeps t ∧
         t.plc.zcEdges = (t0 :: s.dev.plc.zcEdges).take 17 ∧ t.plc.zcOk = true ∧ t.fld PLC_ZC_STAT 21 0 = (zcMean t.plc.zcEdges / 10) % 2 ^ 22)) ∧
       (10 * (t0 - last) < 9 * mean ∨ 11 * mean < 10 * (t0 - last) → Completes .zcEdge s (fun t => counts t PLC_ZC_GLITCH ∧ keeps t ∧
         t.plc = { s.dev.plc with zcPrev := some t0 } ∧ ∀ b, b ≠ PLC_ZC_GLITCH → t.rd b = s.dev.rd b))) ∧
     (takes = true → s.dev.plc.zcOk = false →
       (s.dev.plc.zcPrev = none → Completes .zcEdge s (fun t => t.plc = { s.dev.plc with zcPrev := some t0 } ∧ t.reg = s.dev.reg ∧ keeps t)) ∧
       (∀ p, s.dev.plc.zcPrev = some p →
         (p + 15000000 ≤ t0 → t0 ≤ p + 24000000 → Completes .zcEdge s (fun t => taken t ∧ keeps t ∧
           (s.dev.plc.zcRun < 7 → t.plc.zcOk = false ∧ t.plc.zcRun = s.dev.plc.zcRun + 1) ∧
           (7 ≤ s.dev.plc.zcRun → t.plc.zcOk = true ∧ t.bit PLC_ZC_STAT 31 = true))) ∧
         (t0 < p + 15000000 ∨ p + 24000000 < t0 → Completes .zcEdge s (fun t => t.plc.zcRun = 0 ∧ t.plc.zcOk = false ∧ t.plc.zcEdges = [] ∧
           t.reg = s.dev.reg ∧ keeps t))))) ∧
    (let lost : Bool := s.dev.runs pPLC && s.dev.plc.zcOk && s.dev.past s.dev.plc.zcTick (250000 * s.dev.fld PLC_ZC_CFG 7 0)
     (lost = true → Completes .plcZcLoss s (fun t => t.plc.zcOk = false ∧ t.bit PLC_ZC_STAT 31 = false ∧ t.plc.zcEdges = [] ∧ keeps t ∧
       ∃ v, t.evq = s.dev.evq ++ [v] ∧ v.event = 18)) ∧
     (lost = false → Completes .plcZcLoss s (· = s.dev)))

/-- On an enabled ring port: loss of synchronisation or of HELLO takes the port down, the station wraps, counts it and raises event 21 once; synchronisation and HELLO of a down port start its clean run, whose end sets READY. HELLO_TX at its interval sends a 64-octet HELLO with READY and ADMITTED. ADMIT on the primary visit admits a waiting station or notes the refusal; after 10 s it may ask again. A master-capable station takes GEN + 1 and sends a CLAIM of itself. Where the spec leaves a point open it is the model's reading: log entries 2, 97. -/
def Obligations.RingPortsAndMastership : Prop :=
  ∀ (s : State) (p : Fin 2), Awake s →
    let x := s.dev.rport p
    let on := s.dev.portOn p
    let same := fun (i : Instr) => Completes i s (· = s.dev)
    let keeps := fun (t : Dev) => (∀ q, q < 2 → q ≠ p.val → t.rport q = s.dev.rport q) ∧ t.qry = s.dev.qry ∧ t.mem = s.dev.mem ∧ t.trk.gen = s.dev.trk.gen
    let wraps := fun (t : Dev) => keeps t ∧ t.wrapped = true ∧ t.out = s.dev.out ∧
      (x.down = true → t.reg = s.dev.reg ∧ t.evq = s.dev.evq) ∧
      (x.down = false → t.rd (TRK_LINK_DOWN p) = satNat (s.dev.rd (TRK_LINK_DOWN p) + 1) m32 ∧ ∃ e, t.evq = s.dev.evq ++ [e] ∧ e.event = 21)
    let only := fun (t : Dev) (y : RingPort) => t = s.dev.setRport p y ∧ t.rport p = y ∧ keeps t
    (on = true → x.sync = true → Completes (.pcsSyncLoss p) s (fun t => wraps t ∧
      t.rport p = { x with sync := false, down := true, clean := none, ready := false })) ∧
    (on = false ∨ x.sync = false → same (.pcsSyncLoss p)) ∧
    (on = true → s.dev.helloOk p = false → Completes (.helloTimeout p) s (fun t => wraps t ∧
      t.rport p = { x with down := true, clean := none, ready := false })) ∧
    (on = false ∨ s.dev.helloOk p = true → same (.helloTimeout p)) ∧
    (on = true → Completes (.pcsSyncAcquire p) s (fun t => only t { x with
      sync := true
      clean := if x.down = true ∧ s.dev.helloOk p = true ∧ x.clean = none then some s.dev.time.ticks else x.clean })) ∧
    (on = false → same (.pcsSyncAcquire p)) ∧
    (∀ ready, (on = true → Completes (.helloRx p ready) s (fun t => only t { x with
        helloTick := some s.dev.time.ticks
        peerReady := ready
        clean := if x.down = true ∧ x.sync = true ∧ 0 < s.dev.helloTo ∧ x.clean = none then some s.dev.time.ticks else x.clean })) ∧
      (on = false → same (.helloRx p ready))) ∧
    (∀ t0, x.clean = some t0 → on = true → x.down = true → s.dev.past t0 (250000 * s.dev.rd TRK_UNWRAP_HOLD) = true →
      Completes (.unwrapHoldEnd p) s (fun t => only t { x with ready := true })) ∧
    (x.clean = none ∨ on = false ∨ x.down = false → same (.unwrapHoldEnd p)) ∧
    (on = true → s.dev.past x.helloSent s.dev.helloMs = true → Completes (.helloTx p) s (fun t => keeps t ∧
      t.rport p = { x with helloSent := s.dev.time.ticks } ∧ t.rd (TRK_TX_COUNT p) = satNat (s.dev.rd (TRK_TX_COUNT p) + 1) m32 ∧
      ∃ f : Bytes, f.length = 64 ∧ t.out = s.dev.out ++ [{ port := if p.val = 0 then .trk0 else .trk1, ext := s.dev.ext, bytes := f }] ∧
        leAt f 0 1 = ftHELLO ∧ leAt f 16 2 = s.dev.stn ∧ leAt f 18 1 = b2n x.ready + 2 * b2n s.dev.trk.admitted)) ∧
    (on = false ∨ s.dev.past x.helloSent s.dev.helloMs = false → same (.helloTx p)) ∧
    (∀ res : Fin 3, let asked : Bool := on && s.dev.primaryVisit p == some true && !s.dev.trk.admitted
      (asked = true → Completes (.admitRx p res) s (fun t => t.reg = s.dev.reg ∧ t.out = s.dev.out ∧ t.qry = s.dev.qry ∧ t.trk =
        { s.dev.trk with admitted := res.val == 0, join := res.val + 1, refused := if res.val = 0 then none else some s.dev.time.ticks })) ∧
      (asked = false → same (.admitRx p res))) ∧
    (s.dev.trkOn = true → s.dev.mayAsk = true → Completes .joinRetry s (· = { s.dev with trk := { s.dev.trk with refused := none } })) ∧
    (s.dev.trkOn = false ∨ s.dev.mayAsk = false → same .joinRetry) ∧
    (let may : Bool := s.dev.trkOn && (s.dev.gov TRK_CFG).testBit 0 && (s.dev.red.state == .solo || s.dev.red.state == .active) &&
       s.dev.trk.mayMaster && !s.dev.trk.master
     let o := s.dev.primaryPort
     (may = true → Completes .becomeMaster s (fun t => t.trk = { s.dev.trk with
         master := true
         mayMaster := false
         masterStn := s.dev.stn
         gen := (s.dev.trk.gen + 1) % 65536
         admitted := true
         claimOut := some s.dev.time.ticks
         tokenOut := none } ∧
       t.rd TRK_CLAIMS = satNat (s.dev.rd TRK_CLAIMS + 1) m32 ∧ t.qry = s.dev.qry ∧ t.mem = s.dev.mem ∧
       let f := ringFrame ftCLAIM (1 + 2 * o) 0 s.dev.stn ((s.dev.trk.gen + 1) % 65536) 0 (leBytes 4 0 ++ leBytes 128 (2 ^ s.dev.stn))
       t.out = s.dev.out ++ [{ port := if o = 0 then .trk0 else .trk1, ext := s.dev.ext, bytes := f }])) ∧
     (may = false → same .becomeMaster))

/-- A runt, an overlong frame and one with a bad FCS are counted, forwarded as they came and never reach the quarry; HELLO, TOKEN and CLAIM act as their own commands. On the primary visit unicast DATA for the station is taken off and its good UDP datagram goes into the lane's queue, the station's own comes back undelivered, another's goes on with HOPS + 1 or falls at 2,048; another generation is dropped. A TOKEN for an unadmitted station takes its number along; the secondary visit passes it on. The master's returned token gives TRK_ROT, ROT + 1 and the next token; a lost token or CLAIM gives GEN + 1 and a new CLAIM; its returned CLAIM gives the admitted set. A newer CLAIM is adopted with event 20; a master yields to a lower station. Where the spec leaves a point open it is the model's reading: log entries 2, 97. -/
def Obligations.RingTokenClaimsAndFrames : Prop :=
  ∀ (s : State) (p : Fin 2), Awake s → s.dev.portOn p = true →
    let counts := fun (t : Dev) (a : Nat) => t.rd a = satNat (s.dev.rd a + 1) m32
    let land := fun (q : Nat) => if q = 0 then OutPort.trk0 else OutPort.trk1
    let sent := fun (t : Dev) (q : Nat) (b : Bytes) => t.out = s.dev.out ++ [{ port := land q, ext := s.dev.ext, bytes := b }]
    let keeps := fun (t : Dev) => t.qry = s.dev.qry ∧ t.mem = s.dev.mem
    let o := s.dev.primaryPort
    let stn := s.dev.stn
    (∀ (f : Bytes) (code : Bool) (ago res : Nat),
      let rx := Instr.trkFrameRx p f code ago res
      let n := f.length
      let asItCame := fun (t : Dev) => keeps t ∧ t.trk = s.dev.trk ∧ match s.dev.primaryVisit p with
        | none => t.out = s.dev.out
        | some pr => sent t (if pr then o else 1) f
      let bad : Bool := code || leAt f (n - 4) 4 != crc32 (f.take (n - 4))
      (n < 64 → Completes rx s (fun t => counts t (TRK_RX_RUNT p) ∧ asItCame t)) ∧
      (2068 < n ∨ (64 ≤ n ∧ n ≤ 2068 ∧ bad = false ∧ n ≠ max 64 (20 + leAt f 10 2)) → Completes rx s (fun t => counts t (TRK_RX_LONG p) ∧ asItCame t)) ∧
      (64 ≤ n → n ≤ 2068 → bad = true → Completes rx s (fun t => counts t (TRK_RX_FCS_ERR p) ∧ asItCame t)) ∧
      (64 ≤ n → n ≤ 2068 → bad = false → n = max 64 (20 + leAt f 10 2) →
        let src := leAt f 4 2 % 1024
        let dst := leAt f 2 2 % 1024
        let all := (leAt f 1 1).testBit 0
        (leAt f 0 1 = ftHELLO → exec rx s = exec (.helloRx p ((leAt f 18 1).testBit 0)) s) ∧
        (∀ k : RingToken, leAt f 0 1 = ftTOKEN → k.secondary = (leAt f 1 1).testBit 1 → k.src.val = src → k.gen.toNat = leAt f 6 2 →
          k.hops.val = leAt f 8 2 % 2048 → k.rot.toNat = leAt f 16 4 → k.unwrap = (leAt f 20 1).testBit 0 → k.join.toNat = leAt f 21 2 →
          exec rx s = exec (if src = stn ∧ s.dev.primaryVisit p = some true then .tokenReturn p k else .tokenRx p k) s) ∧
        (leAt f 0 1 = ftDATA → s.dev.primaryVisit p = some true →
          (leAt f 6 2 ≠ s.dev.trk.gen → Completes rx s (fun t => counts t (TRK_RX_GEN_DROP p) ∧ keeps t ∧ t.out = s.dev.out)) ∧
          (leAt f 6 2 = s.dev.trk.gen →
            (src = stn → all = false → Completes rx s (fun t => counts t TRK_TX_UNDELIV ∧ keeps t ∧ t.out = s.dev.out)) ∧
            (src ≠ stn → all = false → dst ≠ stn →
              let g := s.dev.transparent f res
              (leAt g 8 2 + 1 < 2048 → Completes rx s (fun t => counts t (TRK_TX_COUNT o) ∧ keeps t ∧ sent t o (reframe g (leAt g 8 2 + 1) (o == 1)))) ∧
              (2047 ≤ leAt g 8 2 → Completes rx s (fun t => counts t (TRK_HOP_DROP p) ∧ keeps t ∧ t.out = s.dev.out))) ∧
            (src ≠ stn → all = false → dst = stn → s.dev.trk.admitted = false → Completes rx s (· = s.dev)) ∧
            (src ≠ stn → all = false → dst = stn → s.dev.trk.admitted = true →
              let b := slice f 16 (leAt f 10 2)
              (isUdp6 b = false → Completes rx s (fun t => counts t TRK_RX_NOT_UDP ∧ keeps t ∧ t.out = s.dev.out)) ∧
              (isUdp6 b = true → beAt b 46 2 ≠ udp6Csum b → Completes rx s (fun t => counts t TRK_RX_CSUM_BAD ∧ keeps t ∧ t.out = s.dev.out)) ∧
              (isUdp6 b = true → beAt b 46 2 = udp6Csum b → ∀ l, s.dev.trunkLane (udpPort b) = some l → s.dev.en pQRY = true →
                s.dev.laneFenced l = false → (s.dev.qry.drain.any fun e => e.1 == 2 * l + 1) = false → s.dev.cellsWhy (2 * l + 1) (cellsOf b.length) = none →
                Completes rx s (fun t => counts t (LN_RX_OK l) ∧ counts t (TRK_RX_OK p) ∧ t.out = s.dev.out ∧
                  (t.queue (2 * l + 1)).ids = (s.dev.queue (2 * l + 1)).ids ++ [s.dev.qry.nextId] ∧
                  ∃ g, t.frame? s.dev.qry.nextId = some g ∧ g.data = b ∧ g.t = s.dev.ext - ago - s.dev.rd (TRK_LAT_RX p)))))))) ∧
    (∀ k : RingToken,
      let out := fun (t : Dev) (join : Nat) (unwrap : Bool) (q : Nat) =>
        sent t q (reframe (tokenFrame k join unwrap) (k.hops.val + 1) (q == 1)) ∧ counts t (TRK_TX_COUNT q) ∧ keeps t
      (s.dev.primaryVisit p = none → Completes (.tokenRx p k) s (· = s.dev)) ∧
      (s.dev.primaryVisit p ≠ none → k.gen.toNat ≠ s.dev.trk.gen → Completes (.tokenRx p k) s (fun t =>
        counts t (TRK_RX_GEN_DROP p) ∧ keeps t ∧ t.out = s.dev.out ∧ t.trk = s.dev.trk)) ∧
      (k.gen.toNat = s.dev.trk.gen → k.hops.val + 1 < 2048 →
        (s.dev.primaryVisit p = some false → Completes (.tokenRx p k) s (fun t => out t k.join.toNat k.unwrap 1 ∧ t.trk = s.dev.trk)) ∧
        (s.dev.primaryVisit p = some true → k.src.val ≠ stn → s.dev.isMaster = false →
          (s.dev.trk.admitted = false → Completes (.tokenRx p k) s (fun t => t.trk = { s.dev.trk with masterStn := k.src } ∧
            out t (if k.join.toNat = 0xFFFF ∧ s.dev.mayAsk = true then stn else k.join.toNat) k.unwrap o)) ∧
          (s.dev.trk.admitted = true → s.dev.trunkWaiting = [] → Completes (.tokenRx p k) s (fun t =>
            t.trk = { s.dev.trk with masterStn := k.src, unwrapReq := s.dev.unwrapReady } ∧
            out t k.join.toNat (k.unwrap || s.dev.unwrapReady) o))) ∧
        (s.dev.primaryVisit p = some true → s.dev.isMaster = true → stn < k.src.val → Completes (.tokenRx p k) s (fun t =>
          counts t TRK_MASTER_CONFLICT ∧ t.out = s.dev.out ∧ t.trk = s.dev.trk ∧ keeps t)) ∧
        (s.dev.primaryVisit p = some true → s.dev.isMaster = true → k.src.val < stn → Completes (.tokenRx p k) s (fun t =>
          t.trk.master = false ∧ t.isMaster = false ∧ t.trk.masterStn = k.src.val)))) ∧
    (∀ k : RingToken, s.dev.primaryVisit p = some true → k.src.val = stn → s.dev.isMaster = true → ∀ t0, s.dev.trk.tokenOut = some t0 →
      (k.gen.toNat ≠ s.dev.trk.gen → Completes (.tokenReturn p k) s (fun t => counts t (TRK_RX_GEN_DROP p) ∧ t.trk = s.dev.trk ∧ keeps t)) ∧
      (k.gen.toNat = s.dev.trk.gen →
        let took := fun (t : Dev) => t.rd TRK_ROT = (s.dev.time.ticks - t0) / 250 % 2 ^ 32 ∧ t.trk.rot = (k.rot.toNat + 1) % 2 ^ 32 ∧ keeps t
        (1024 ≤ k.join.toNat → k.unwrap = false → s.dev.trunkWaiting = [] → Completes (.tokenReturn p k) s (fun t => took t ∧
          t.trk.gen = s.dev.trk.gen ∧ t.trk.tokenOut = some s.dev.time.ticks ∧ t.trk.masterStn = stn ∧
          sent t o (ringFrame ftTOKEN (1 + 2 * o) 0 stn s.dev.trk.gen 0 (tokenBytes ((k.rot.toNat + 1) % 2 ^ 32) s.dev.unwrapReady 0xFFFF)))) ∧
        (1024 ≤ k.join.toNat → k.unwrap = true → Completes (.tokenReturn p k) s (fun t => took t ∧ t.trk.gen = (s.dev.trk.gen + 1) % 65536 ∧
          t.trk.claimOut = some s.dev.time.ticks ∧ t.rd TRK_CLAIMS = satNat (s.dev.rd TRK_CLAIMS + 1) m32 ∧
          sent t o (ringFrame ftCLAIM (1 + 2 * o) 0 stn ((s.dev.trk.gen + 1) % 65536) 0 (claimBytes true [stn])))) ∧
        (∀ join : Nat, k.join.toNat = join → join < 1024 → k.unwrap = false → s.dev.trunkWaiting = [] →
          let r := if s.dev.trk.members.contains join then 2 else if s.dev.fld TRK_MAX_STN 10 0 ≤ s.dev.trk.members.length then 1 else 0
          Completes (.tokenReturn p k) s (fun t => took t ∧ t.trk.members = (if r = 0 then addStation join s.dev.trk.members else s.dev.trk.members) ∧
            (r ≠ 0 → counts t TRK_JOIN_REFUSED) ∧ ∃ w, let f := ringFrame ftADMIT (2 * o) join stn s.dev.trk.gen 0 (leBytes 1 r)
            t.out = s.dev.out ++ [{ port := land o, ext := s.dev.ext, bytes := f }, w])))) ∧
    (∀ t0, let again := fun (t : Dev) => t.trk.gen = (s.dev.trk.gen + 1) % 65536 ∧ t.trk.claimOut = some s.dev.time.ticks ∧ t.trk.tokenOut = none ∧
        counts t TRK_CLAIMS ∧ keeps t ∧ sent t o (ringFrame ftCLAIM (1 + 2 * o) 0 stn ((s.dev.trk.gen + 1) % 65536) 0 (claimBytes false [stn]))
      s.dev.isMaster = true → s.dev.past t0 (250 * s.dev.rd TRK_TOKEN_TO) = true →
      (s.dev.trk.tokenOut = some t0 → Completes .tokenTimeout s (fun t => again t ∧ counts t TRK_TOKEN_LOST ∧
        ∃ e, t.evq = s.dev.evq ++ [e] ∧ e.event = 20)) ∧
      (s.dev.trk.claimOut = some t0 → Completes .claimReturnTimeout s (fun t => again t ∧ t.evq = s.dev.evq))) ∧
    (s.dev.trk.tokenOut = none → Completes .tokenTimeout s (· = s.dev)) ∧
    (s.dev.trk.claimOut = none → Completes .claimReturnTimeout s (· = s.dev)) ∧
    (∀ c : RingClaim,
      (s.dev.primaryVisit p = some true → c.src.val = stn → s.dev.isMaster = true → s.dev.trk.claimOut ≠ none → c.gen.toNat = s.dev.trk.gen →
        Completes (.claimReturn p c) s (fun t => (∀ n, n ∈ t.trk.members ↔ ∃ m ∈ c.members, m.val = n) ∧
          t.rd TRK_MEMBERS = t.trk.members.length % 2 ^ 32 ∧ t.trk.claimOut = none ∧ t.trk.tokenOut = some s.dev.time.ticks ∧ keeps t ∧
          sent t o (ringFrame ftTOKEN (1 + 2 * o) 0 stn s.dev.trk.gen 0 (tokenBytes s.dev.trk.rot s.dev.unwrapReady 0xFFFF)))) ∧
      ((s.dev.rport p).down = false → s.dev.newer c.gen.toNat = true → s.dev.isMaster = false → c.src.val ≠ stn → c.unwrap = false →
        c.hops.val + 1 < 2048 →
        let ms := c.members.map (·.val)
        let ms := if s.dev.trk.admitted then addStation stn ms else ms
        Completes (.claimRx p c) s (fun t => t.trk.gen = c.gen.toNat ∧ t.trk.members = ms ∧ keeps t ∧ (∃ e, t.evq = s.dev.evq ++ [e] ∧ e.event = 20) ∧
          (let q := if p.val = 1 ∨ s.dev.trk.p1.down = true then o else 1
           sent t q (reframe (claimFrame c ms) (c.hops.val + 1) (q == 1))))) ∧
      ((s.dev.rport p).down = false → s.dev.newer c.gen.toNat = false → c.gen.toNat ≠ s.dev.trk.gen → Completes (.claimRx p c) s (fun t =>
        counts t (TRK_RX_GEN_DROP p) ∧ t.trk = s.dev.trk ∧ keeps t ∧ t.out = s.dev.out)))

/-- With LINK up a received runt, overlong frame, bad FCS or unaccepted address is counted and dropped; PAUSE under PAUSE_RX holds transmission; an accepted frame goes without FCS behind its 16-octet header into its lane, stamped at the SFD less UPL_LAT_RX. A lane's head frame goes out padded, with its checksums and FCS, counted; in a PAUSE nothing does. A change of LINK raises event 23. The oldest frame of the MGMT lane is taken: one that does not open is counted AUTH_FAIL, an old SEQ REPLAY, the last SEQ resends the cached reply, a greater one runs its operations as EXT accesses. EN = 1 with fitting slots clears SEQ and the cached reply, otherwise EN stays 0; an idle session loses EN. Where the spec leaves a point open it is the model's reading: log entries 2, 77, 98, 99. -/
def Obligations.Uplink : Prop :=
  ∀ s : State, Awake s →
    let counts := fun (t : Dev) (a : Nat) => t.rd a = satNat (s.dev.rd a + 1) m32
    let onlyCounts := fun (t : Dev) (a : Nat) => counts t a ∧ (∀ b, b ≠ a → t.rd b = s.dev.rd b) ∧ t.qry = s.dev.qry ∧ t.mem = s.dev.mem ∧ t.out = s.dev.out
    (∀ (f : Bytes) (ago : Nat),
      let rx := Instr.uplFrameRx f ago
      let n := f.length
      let b := f.take (n - 4)
      (s.dev.runs pUPL = false ∨ s.dev.bit UPL_STAT 0 = false → Completes rx s (· = s.dev)) ∧
      (s.dev.runs pUPL = true → s.dev.bit UPL_STAT 0 = true →
        (n < 64 → Completes rx s (fun t => onlyCounts t UPL_RX_RUNT ∧ t.upl = s.dev.upl)) ∧
        (1522 < n → Completes rx s (fun t => onlyCounts t UPL_RX_LONG ∧ t.upl = s.dev.upl)) ∧
        (64 ≤ n → n ≤ 1522 → leAt f (n - 4) 4 ≠ crc32 b → Completes rx s (fun t => onlyCounts t UPL_RX_FCS_ERR ∧ t.upl = s.dev.upl)) ∧
        (64 ≤ n → n ≤ 1522 → leAt f (n - 4) 4 = crc32 b →
          (isPause f = true → (s.dev.gov UPL_CFG).testBit 2 = true → Completes rx s (fun t => onlyCounts t UPL_PAUSE_RX ∧
            t.upl.pauseEnd = s.dev.time.ticks + beAt f 16 2 * s.dev.quantumNs / 4)) ∧
          (isPause f = false ∨ (s.dev.gov UPL_CFG).testBit 2 = false →
            (s.dev.uplAccepts f = false → Completes rx s (fun t => onlyCounts t UPL_RX_FILTERED ∧ t.upl = s.dev.upl)) ∧
            (s.dev.uplAccepts f = true → ∀ l, s.dev.uplLane b = some l → s.dev.en pQRY = true → s.dev.laneFenced l = false →
              (s.dev.qry.drain.any fun e => e.1 == 2 * l + 1) = false → s.dev.cellsWhy (2 * l + 1) (cellsOf (16 + b.length)) = none →
              Completes rx s (fun t => counts t (LN_RX_OK l) ∧ counts t UPL_RX_OK ∧ t.out = s.dev.out ∧ t.mem = s.dev.mem ∧
                (t.queue (2 * l + 1)).ids = (s.dev.queue (2 * l + 1)).ids ++ [s.dev.qry.nextId] ∧
                ∃ g, t.frame? s.dev.qry.nextId = some g ∧ g.t = s.dev.ext - ago - s.dev.rd UPL_LAT_RX ∧
                  g.data = leBytes 1 (uplFlags b) ++ leBytes 2 (if ethTagged b then beAt b 14 2 else 0) ++ zeroBytes 13 ++ b)))))) ∧
    (∀ lane : Fin 512,
      let sends : Bool := s.dev.linkStarts pUPL && s.dev.bit UPL_STAT 0 && !decide (s.dev.time.ticks < s.dev.upl.pauseEnd) &&
        s.dev.laneLink lane == 5 && s.dev.laneOn lane
      (sends = false ∨ s.dev.txFront? lane = none → Completes (.uplFrameTx lane) s (· = s.dev)) ∧
      (sends = true → ∀ q, s.dev.txFront? lane = some q →
        let z := uplFill (leAt q.data 0 1) (q.data.drop 16)
        let f := z.1 ++ zeroBytes (60 - z.1.length)
        Completes (.uplFrameTx lane) s (fun t => t.out = s.dev.out ++ [{ port := .upl, ext := s.dev.ext, bytes := f ++ leBytes 4 (crc32 f) }] ∧
          counts t UPL_TX_COUNT ∧ counts t (LN_TX_OK lane) ∧ t.mem = s.dev.mem ∧
          (t.queue (2 * lane)).ids = (s.dev.queue (2 * lane)).ids.drop 1 ∧
          (z.2 = true → counts t UPL_CSUM_SKIP) ∧ (z.2 = false → t.rd UPL_CSUM_SKIP = s.dev.rd UPL_CSUM_SKIP)))) ∧
    (∀ (link : Bool) (speed : Fin 3) (done : Bool),
      (s.dev.runs pUPL = true → Completes (.uplLink link speed done) s (fun t => t.rd UPL_STAT = b2n link + 2 * speed.val + 8 * b2n done ∧
        t.qry = s.dev.qry ∧ t.upl = s.dev.upl ∧
        (s.dev.bit UPL_STAT 0 ≠ link → ∃ e, t.evq = s.dev.evq ++ [e] ∧ e.event = 23) ∧ (s.dev.bit UPL_STAT 0 = link → t.evq = s.dev.evq))) ∧
      (s.dev.runs pUPL = false → Completes (.uplLink link speed done) s (· = s.dev))) ∧
    (∀ l x, s.dev.laneOf 5 2 = some l → s.dev.runs pUPL = true → s.dev.engineFront l = some x →
      let d := s.dev.popFront (2 * l + 1)
      let f := x.data.drop 16
      (mgmtParse f = none → Completes .mgmtRequest s (· = d.bump UPL_MGMT_AUTH_FAIL)) ∧
      (∀ q, mgmtParse f = some q →
        (d.mgmtOpen q = none → Completes .mgmtRequest s (· = d.bump UPL_MGMT_AUTH_FAIL)) ∧
        ((16 ≤ q.ses ∨ d.bit (UPL_SES_CTRL q.ses) 0 = false ∨ q.ver ≠ 1 ∨ q.ops = 0 ∨ 64 < q.ops) → d.mgmtOpen q = none) ∧
        (∀ ops, d.mgmtOpen q = some ops →
          (q.seq < d.rd (UPL_SES_SEQ q.ses) → Completes .mgmtRequest s (· = d.bump UPL_MGMT_REPLAY)) ∧
          (q.seq = d.rd (UPL_SES_SEQ q.ses) → (d.session q.ses).reply = none → Completes .mgmtRequest s (· = d.bump UPL_MGMT_REPLAY)) ∧
          (∀ g, q.seq = d.rd (UPL_SES_SEQ q.ses) → (d.session q.ses).reply = some g → Completes .mgmtRequest s (fun t =>
            t = ((d.setSession q.ses { d.session q.ses with tick := s.dev.time.ticks }).pushFrame (2 * l) 0 g s.dev.ext 0).1 ∧
            (t.session q.ses).tick = s.dev.time.ticks ∧ (t.session q.ses).reply = some g)) ∧
          (d.rd (UPL_SES_SEQ q.ses) < q.seq → Completes .mgmtRequest s (fun t => t = d.mgmtExecute f q ops ∧
            (t.session q.ses).tick = t.time.ticks))))) ∧
    (s.dev.laneOf 5 2 = none → Completes .mgmtRequest s (· = s.dev)) ∧
    (∀ (r : Requester) (k : Fin 16) (v : Word), s.dev.mayWrite r (UPL_SES_CTRL k) = true →
      let w := v.toNat &&& 0x0FFFFF01
      (v.toNat.testBit 0 = false → Completes (.uplSesCtrlWrite r k v) s (fun t => t.rd (UPL_SES_CTRL k) = w ∧ t.upl = s.dev.upl ∧ t.bus.cause = none ∧
        ∀ a, a ≠ UPL_SES_CTRL k → t.rd a = s.dev.rd a)) ∧
      (v.toNat.testBit 0 = true → s.dev.sesSlots w = false → Completes (.uplSesCtrlWrite r k v) s (fun t => t.rd (UPL_SES_CTRL k) = w - 1 ∧
        t.bit (UPL_SES_CTRL k) 0 = false ∧ t.upl = s.dev.upl ∧ ∀ a, a ≠ UPL_SES_CTRL k → t.rd a = s.dev.rd a)) ∧
      (v.toNat.testBit 0 = true → s.dev.sesSlots w = true → Completes (.uplSesCtrlWrite r k v) s (fun t => t.rd (UPL_SES_CTRL k) = w ∧
        t.rd (UPL_SES_SEQ k) = 0 ∧ (t.session k).reply = none ∧ (t.session k).tick = s.dev.time.ticks ∧
        ∀ a, a ≠ UPL_SES_CTRL k → a ≠ UPL_SES_SEQ k → t.rd a = s.dev.rd a))) ∧
    (∀ k : Fin 16,
      let idle : Bool := s.dev.bit (UPL_SES_CTRL k) 0 && s.dev.runs pUPL && s.dev.past (s.dev.session k).tick (250000000 * s.dev.rd UPL_SES_IDLE)
      (idle = true → Completes (.sessionIdle k) s (fun t => t.bit (UPL_SES_CTRL k) 0 = false ∧ t.upl = s.dev.upl ∧
        ∀ a, a ≠ UPL_SES_CTRL k → t.rd a = s.dev.rd a)) ∧
      (idle = false → Completes (.sessionIdle k) s (· = s.dev)))

/-- An enabled entry whose due instant has come waits, in order of time and number, and while it still waits is counted in FB_SKIP. A free bus that may start sends first the head of its lane's transmit queue, else the first waiting entry, with POLL_CNT + 1 stored, its request with the protocol's check going out. A response is judged: OK and EXCEPTION go without check behind their 16-octet header into the lane's receive queue and end the transaction; another result, like no start bit in time, is counted and sent again until RETRIES are used, then its result and CONSEC_FAIL + 1 are stored, event 22 for a timeout and event 60 otherwise, and the boundary-class registers take effect. A broadcast ends OK after FB_TURN. Where the spec leaves a point open it is the model's reading: log entries 2, 100. -/
def Obligations.FieldBus : Prop :=
  ∀ (s : State) (n : Fin 4), Awake s →
    let b := s.dev.fbus n
    let lane := s.dev.fld (FB_LANE n) 8 0
    let port := OutPort.fb n
    let counts := fun (t : Dev) (a : Nat) => t.rd a = satNat (s.dev.rd a + 1) m32
    (∀ e : Fin 1024,
      let due : Bool := s.dev.fbRuns n && decide (e.val < s.dev.pollLen n) && (s.dev.ld (s.dev.pollAddr n e) 2).testBit 0
      let fresh : Bool := match s.dev.pollInstant n e with
        | none => false
        | some t => decide (b.since < t) && decide (Assoc.get 0 b.handled e < t)
      ((due && fresh) = false → Completes (.pollDue n e) s (· = s.dev)) ∧
      (due = true → fresh = true → ∀ t0, s.dev.pollInstant n e = some t0 →
        let h := { b with handled := Assoc.put b.handled e t0 }
        ((b.waiting.any fun y => y.entry == e.val) = true → Completes (.pollDue n e) s (fun t => t.fbus n = h ∧ counts t (FB_SKIP n) ∧ t.mem = s.dev.mem)) ∧
        ((b.waiting.any fun y => y.entry == e.val) = false → Completes (.pollDue n e) s (fun t =>
          t.fbus n = { h with waiting := insertDue { entry := e, due := t0 } b.waiting } ∧ t.reg = s.dev.reg ∧ t.mem = s.dev.mem ∧
          t0 ≤ s.dev.ext)))) ∧
    (let starts : Bool := s.dev.fbStarts n && b.trans.isNone
     let head := if s.dev.laneLink lane = 6 + n.val ∧ s.dev.laneOn lane = true then s.dev.txFront? lane else none
     (starts = false ∨ (head = none ∧ b.waiting = []) → Completes (.fbTransactionStart n) s (· = s.dev)) ∧
     (starts = true → ∀ q, head = some q → Completes (.fbTransactionStart n) s (fun t =>
        let mbus := (leAt q.data 0 1).testBit 0
        t.out = s.dev.out ++ [{ port := port, ext := s.dev.ext, bytes := withCheck mbus (q.data.drop 16) }] ∧ t.mem = s.dev.mem ∧
        (t.queue (2 * lane)).ids = (s.dev.queue (2 * lane)).ids.drop 1 ∧ (t.fbus n).waiting = b.waiting ∧
        ∃ x, (t.fbus n).trans = some x ∧ x.entry = none ∧ x.mbus = mbus ∧ x.bcast = (leAt q.data 0 1).testBit 1 ∧ x.req = q.data.drop 16 ∧
          x.retries = leAt q.data 3 1 ∧ x.tries = 0 ∧ x.tmo = if leAt q.data 1 2 = 0 then s.dev.rd (FB_TMO n) else leAt q.data 1 2)) ∧
     (starts = true → head = none → ∀ e rest, b.waiting = e :: rest → Completes (.fbTransactionStart n) s (fun t =>
        let a := s.dev.pollAddr n e.entry
        let fl := s.dev.ld a 2
        let req := s.dev.ldBytes (s.dev.ld (a + 8) 8) (s.dev.ld (a + 2) 2)
        let cnt := (s.dev.ld (a + 0x18) 4 + 1) % 2 ^ 32
        t.out = s.dev.out ++ [{ port := port, ext := s.dev.ext, bytes := withCheck (fl.testBit 1) req }] ∧ counts t (FB_POLL_COUNT n) ∧
        t.mem = (s.dev.st (a + 0x18) 4 cnt).mem ∧ t.qry = s.dev.qry ∧ (t.fbus n).waiting = rest ∧
        ∃ x, (t.fbus n).trans = some x ∧ x.entry = some e.entry ∧ x.mbus = fl.testBit 1 ∧ x.bcast = fl.testBit 2 ∧ x.req = req ∧
          x.retries = s.dev.ld (a + 0x16) 1 ∧ x.pollCnt = cnt ∧ x.tries = 0 ∧
          x.tmo = if s.dev.ld (a + 0x14) 2 = 0 then s.dev.rd (FB_TMO n) else s.dev.ld (a + 0x14) 2))) ∧
    (∀ t0 : FbTrans, b.trans = some t0 →
      let again := fun (t : Dev) (r : Nat) => counts t (fbCounter n r) ∧ counts t (FB_RETRY n) ∧ t.qry = s.dev.qry ∧ t.mem = s.dev.mem ∧
        t.out = s.dev.out ++ [{ port := port, ext := s.dev.ext, bytes := withCheck t0.mbus t0.req }] ∧
        (∃ x, (t.fbus n).trans = some x ∧ x.tries = t0.tries + 1 ∧ x.req = t0.req ∧ x.retries = t0.retries)
      let ended := fun (t d : Dev) (r : Nat) =>
        let a := s.dev.pollAddr n (t0.entry.getD 0)
        (t.fbus n).trans = none ∧ counts t (fbCounter n r) ∧ t.out = s.dev.out ∧ t.qry = d.qry ∧
        (∀ i, onPage (pFB n) i = true → t.gov i = t.rd i) ∧
        (t0.entry ≠ none →
          let e := s.dev.st (a + 0x1C) 1 r
          t.mem = (e.st (a + 0x1D) 1 (if r = 0 ∨ r = 6 then 0 else satNat (s.dev.ld (a + 0x1D) 1 + 1) 255)).mem) ∧
        (t0.entry = none → t.mem = s.dev.mem ∧ counts t (if r = 0 ∨ r = 6 then LN_TX_OK lane else LN_TX_FAIL lane)) ∧
        (r ≠ 0 → r ≠ 6 → t.rd (FB_LAST_ERR n) = (t0.entry.getD 0 + 65536 * r) % 2 ^ 32) ∧
        (r = 0 ∨ r = 6 ∨ r = 8 → t.evq = s.dev.evq) ∧
        (r ≠ 0 → r ≠ 6 → r ≠ 8 → ∃ v, t.evq = s.dev.evq ++ [v] ∧ v.event = if r = 1 then 22 else 60)
      (∀ (resp : Bytes) (framing : Bool) (ago : Nat),
        let rx := Instr.fbResponse n resp framing ago
        let r := judge t0.mbus framing t0.req resp
        (t0.bcast = true ∨ s.dev.runs (pFB n) = false → Completes rx s (· = s.dev)) ∧
        (t0.bcast = false → s.dev.runs (pFB n) = true →
          (r ≠ 0 → r ≠ 6 → t0.tries < t0.retries → Completes rx s (again · r)) ∧
          (r ≠ 0 → r ≠ 6 → t0.retries ≤ t0.tries → Completes rx s (ended · s.dev r)) ∧
          (r = 0 ∨ r = 6 →
            let g := leBytes 2 (t0.entry.getD 0xFFFF) ++ leBytes 1 r ++ leBytes 1 (t0.tries + 1) ++ leBytes 4 t0.pollCnt ++ zeroBytes 8 ++ stripCheck t0.mbus resp
            (s.dev.en pQRY = true → s.dev.laneFenced lane = false → (s.dev.qry.drain.any fun e => e.1 == 2 * lane + 1) = false →
              s.dev.cellsWhy (2 * lane + 1) (cellsOf g.length) = none → Completes rx s (fun t => counts t (LN_RX_OK lane) ∧
                (∃ u, ended t (s.dev.addFrame (2 * lane + 1) 0 g (s.dev.ext - ago) u) r))) ∧
            ((s.dev.qCfg (2 * lane + 1)).testBit 0 = false → g ≠ [] → Completes rx s (fun t => ended t s.dev 8 ∧
              t.rd QRY_REFUSE_COUNT = satNat (s.dev.rd QRY_REFUSE_COUNT + 1) m32))))) ∧
      (let late : Bool := !t0.bcast && s.dev.runs (pFB n) && s.dev.past t0.sent (250000 * t0.tmo)
       (late = false → Completes (.fbsPollTimeout n) s (· = s.dev)) ∧
       (late = true → t0.tries < t0.retries → Completes (.fbsPollTimeout n) s (again · 1)) ∧
       (late = true → t0.retries ≤ t0.tries → Completes (.fbsPollTimeout n) s (ended · s.dev 1))) ∧
      (let overD : Bool := t0.bcast && s.dev.runs (pFB n) && s.dev.past t0.sent (250000 * s.dev.rd (FB_TURN n))
       (overD = false → Completes (.fbTurnEnd n) s (· = s.dev)) ∧
       (overD = true → Completes (.fbTurnEnd n) s (ended · s.dev 0)))) ∧
    (b.trans = none → (∀ resp framing ago, Completes (.fbResponse n resp framing ago) s (· = s.dev)) ∧
      Completes (.fbsPollTimeout n) s (· = s.dev) ∧ Completes (.fbTurnEnd n) s (· = s.dev))

/-- A pending wrap raises event 8 once and, in SYNCED or HOLDOVER, copies the time base to the RTC. A read of TIM_NS answers it and latches TIM_WRAP. TIM_INC written in MANUAL is stored clamped and CLAMPED tells so; in SERVO and ASSISTED it is ENGINE_BUSY. A step moves the extended time, keeps the fraction, counts, raises event 11, event 8 once across wraps, and takes INVALID to RTC_ONLY with TIM_HOLD_MAX; one below 0 is rejected and counted. A FIRMWARE sample is ignored in INVALID, only counted in MANUAL, and otherwise renews the last offset, ends a loss and, without a step, sets the integral, the clamped rate and LOCKED by R249. Loss of the master raises event 10 and goes on at NOM - i + b; TIM_CLASS_SET in MANUAL sets the class; an uncertainty past TIM_HOLD_MAX is RTC_ONLY. Where the spec leaves a point open it is the model's reading: log entries 2, 4, 56, 57, 59. -/
def Obligations.TimeRatesStepsAndClass : Prop :=
  ∀ (s : State) (r : Requester), Awake s →
    let keeps := fun (t : Dev) => t.mem = s.dev.mem ∧ t.qry = s.dev.qry ∧ t.out = s.dev.out
    let whole : Nat → Nat → Nat := fun lo v => (s.dev.takeLo lo).1.getD (s.dev.rd lo) + 2 ^ 32 * v
    let stored := fun (t : Dev) (raw : Int) =>
      let c : Int := ppbUnits (s.dev.rd TIM_CLAMP)
      let v := clampInt raw (nomInc - c) (nomInc + c)
      t.inc = v.toNat % 2 ^ 64 ∧ t.time.clamped = decide (v ≠ raw)
    (s.dev.time.wrapPend = true → Completes .timWrap s (fun t => t.time.wrapPend = false ∧ t.ext = s.dev.ext ∧ keeps t ∧
      (∃ e, t.evq = s.dev.evq ++ [e] ∧ e.event = 8) ∧
      (if s.dev.time.cls = .synced ∨ s.dev.time.cls = .holdover then
        t.time.rtcValid = true ∧ t.time.rtcCount = nsToRtc s.dev.ext ∧ t.time.rtcCopyUnc = s.dev.unc
       else t.time.rtcValid = s.dev.time.rtcValid ∧ t.time.rtcCount = s.dev.time.rtcCount ∧ t.time.rtcCopyUnc = s.dev.time.rtcCopyUnc))) ∧
    (s.dev.time.wrapPend = false → Completes .timWrap s (· = s.dev)) ∧
    (s.dev.mayRead r TIM_NS = true → s.dev.takeLatch TIM_NS = none → Completes (.timNsRead r) s (fun t => t.bus.data = s.dev.ext % 2 ^ 32 ∧
      t.bus.cause = none ∧ (t.takeLatch TIM_WRAP).map (·.2) = some (s.dev.time.wrap % 2 ^ 32) ∧ t.time = s.dev.time ∧ t.reg.live = s.dev.reg.live)) ∧
    (∀ v : Word, s.dev.mayWrite r TIM_INC_HI = true →
      (s.dev.timMode = 0 → Completes (.timIncWrite r v) s (fun t => stored t (whole TIM_INC_LO v.toNat : Nat) ∧ t.time.masterLost = false ∧
        t.time.lossTick = s.dev.time.ticks ∧ t.time.acc = s.dev.time.acc ∧ t.bus.cause = none ∧ keeps t ∧
        ∀ a, a ≠ TIM_INC_LO → a ≠ TIM_INC_HI → t.rd a = s.dev.rd a)) ∧
      (s.dev.timMode ≠ 0 → Completes (.timIncWrite r v) s (· = s.dev.violate r TIM_INC_HI ENGINE_BUSY true))) ∧
    (∀ v : Word, s.dev.mayWrite r TIM_STEP_HI = true →
      let delta := sext 64 (whole TIM_STEP_LO v.toNat)
      ((s.dev.ext : Int) + delta < 0 → Completes (.timStep r v) s (fun t => t.time = s.dev.time ∧ t.evq = s.dev.evq ∧ keeps t ∧
        t.rd TIM_STEP_REJ = satNat (s.dev.rd TIM_STEP_REJ + 1) m32 ∧ ∀ a, a ≠ TIM_STEP_REJ → t.rd a = s.dev.rd a)) ∧
      (0 ≤ (s.dev.ext : Int) + delta → Completes (.timStep r v) s (fun t =>
        let new := ((s.dev.ext : Int) + delta).toNat
        t.ext = new % 2 ^ 64 ∧ t.time.acc % 2 ^ 32 = s.dev.time.acc % 2 ^ 32 ∧ t.inc = s.dev.inc ∧ keeps t ∧ t.bus.cause = none ∧
        t.rd TIM_STEP_COUNT = satNat (s.dev.rd TIM_STEP_COUNT + 1) m32 ∧
        t.rd TIM_LAST_STEP = enc 32 (clampInt delta (-2147483647) 2147483647) ∧
        (∃ e l, t.evq = s.dev.evq ++ e :: l ∧ e.event = 11 ∧
          (l.filter fun x => x.event == 8).length = if s.dev.ext / 2 ^ 32 < new / 2 ^ 32 then 1 else 0) ∧
        (s.dev.time.cls = .invalid → t.time.cls = .rtcOnly ∧ t.uncRaw = s.dev.rd TIM_HOLD_MAX) ∧
        (s.dev.time.cls ≠ .invalid → t.time.cls = s.dev.time.cls)))) ∧
    (∀ v : Word, s.dev.mayWrite r TIM_OFFSET_HI = true →
      let off := sext 64 (whole TIM_OFFSET_LO v.toNat)
      let sample := Instr.offsetSampleWrite r v
      let counted := fun (t : Dev) => t.rd TIM_SAMPLE_COUNT = satNat (s.dev.rd TIM_SAMPLE_COUNT + 1) m32
      (s.dev.timSrc ≠ 1 ∨ s.dev.time.cls = .invalid ∨ s.dev.en pTIM = false → Completes sample s (fun t => t.reg.live = s.dev.reg.live ∧
        t.time = s.dev.time ∧ t.evq = s.dev.evq ∧ keeps t ∧ t.bus.cause = none)) ∧
      (s.dev.timSrc = 1 → s.dev.time.cls ≠ .invalid → s.dev.en pTIM = true → s.dev.timMode = 0 → Completes sample s (fun t => counted t ∧
        t.time = s.dev.time ∧ keeps t ∧ ∀ a, a ≠ TIM_SAMPLE_COUNT → t.rd a = s.dev.rd a)) ∧
      (s.dev.timSrc = 1 → s.dev.time.cls ≠ .invalid → s.dev.en pTIM = true → s.dev.timMode ≠ 0 → Completes sample s (fun t => counted t ∧ keeps t ∧
        t.rd TIM_LAST_OFFSET = enc 32 (clampInt off (-2147483648) 2147483647) ∧ t.time.masterLost = false ∧ t.time.lossTick = s.dev.time.ticks ∧
        let assisted : Bool := s.dev.timMode == 2
        let steps : Bool := decide (s.dev.rd TIM_STEP_THR < off.natAbs) && s.dev.bit TIM_CORR 4 && !(assisted && (s.dev.rd TIM_ASSIST).testBit 1)
        (steps = true → 0 ≤ (s.dev.ext : Int) - off → t.ext = ((s.dev.ext : Int) - off).toNat % 2 ^ 64 ∧ t.time.integ = 0 ∧ t.time.run = 0 ∧
          t.time.locked = false ∧ (s.dev.time.cls = .synced → t.time.cls = .holdover)) ∧
        (steps = false → t.ext = s.dev.ext ∧
          t.time.integ = (if assisted && (s.dev.rd TIM_ASSIST).testBit 0 then s.dev.time.integ
            else clampInt (s.dev.time.integ + off) (-2147483648) 2147483647) ∧
          (let p := (off * 2 ^ 32) / (2 ^ s.dev.fld TIM_SERVO 5 0 : Nat)
           let i := (t.time.integ * 2 ^ 32) / (2 ^ s.dev.fld TIM_SERVO 13 8 : Nat)
           let b := if assisted then ppbUnitsInt (sext 32 (s.dev.rd TIM_BIAS)) else 0
           stored t ((nomInc : Int) - p - i + b)) ∧
          (off.natAbs ≤ s.dev.fld TIM_LOCK 15 0 → t.time.run = s.dev.time.run + 1 ∧
            t.time.locked = (s.dev.time.locked || decide (s.dev.fld TIM_LOCK 23 16 ≤ s.dev.time.run + 1)) ∧
            (s.dev.time.locked = false → t.time.locked = true → t.time.cls = .synced)) ∧
          (s.dev.fld TIM_LOCK 15 0 < off.natAbs → t.time.run = 0 ∧ t.time.locked = false ∧
            (s.dev.time.locked = true → s.dev.time.cls = .synced → t.time.cls = .holdover)))))) ∧
    (∀ c : Fin 4, s.dev.mayWrite r TIM_CLASS_SET = true →
      (s.dev.timMode ≠ 0 → Completes (.classSet r c) s (· = s.dev.violate r TIM_CLASS_SET ENGINE_BUSY true)) ∧
      (s.dev.timMode = 0 → (c.val = 3 ∨ s.dev.time.cls = .invalid) → Completes (.classSet r c) s (· = s.dev.answer 0)) ∧
      (s.dev.timMode = 0 → c.val ≠ 3 → s.dev.time.cls ≠ .invalid → Completes (.classSet r c) s (fun t => t.time.cls.code = c.val ∧
        t.time.masterLost = false ∧ t.time.lossTick = s.dev.time.ticks ∧ t.ext = s.dev.ext ∧ keeps t ∧ t.bus.cause = none))) ∧
    (let lost : Bool := !s.dev.time.masterLost && s.dev.time.cls != .invalid && s.dev.past s.dev.time.lossTick (250000 * s.dev.rd TIM_MASTER_TO) &&
       s.dev.en pTIM
     (lost = false → Completes .timMasterLoss s (· = s.dev)) ∧
     (lost = true → Completes .timMasterLoss s (fun t => t.time.masterLost = true ∧ t.time.locked = false ∧ t.ext = s.dev.ext ∧ keeps t ∧
       (∃ e l, t.evq = s.dev.evq ++ e :: l ∧ e.event = 10) ∧
       (s.dev.timMode = 0 → t.inc = s.dev.inc) ∧
       (s.dev.timMode ≠ 0 → stored t ((nomInc : Int) - s.dev.integTerm + s.dev.biasTerm)) ∧
       t.time.cls = (if s.dev.time.cls = .synced then .holdover else s.dev.time.cls)))) ∧
    (s.dev.time.cls = .holdover → s.dev.rd TIM_HOLD_MAX < s.dev.uncRaw → Completes .holdMaxExceeded s (fun t => t.time.cls = .rtcOnly ∧
      t.uncRaw = s.dev.uncRaw ∧ t.ext = s.dev.ext ∧ keeps t)) ∧
    (s.dev.time.cls ≠ .holdover ∨ s.dev.uncRaw ≤ s.dev.rd TIM_HOLD_MAX → Completes .holdMaxExceeded s (· = s.dev))

/-- ARM arms a channel with FIRED, OVF and LATE cleared; a target already reached counts LATE and matches. DISARM stops it. A due match sets the channel's bit of TIM_CMP_PEND and FIRED, raises event 9 under EVT_EN, starts its 1 us pulse and the PPS pulse that names it, and disarms a one-shot or PERIOD 0 channel; a NATIVE periodic one adds its period, carrying into TIM_CMP_WRAP, or after a forward step as many as pass the present time. Pulses end at their ticks. An edge stores the extended time, PPS_IN less TIM_LAT_PPS, in every enabled channel of its source, a GPIO edge in the channel that its land names, and adds 1 to its SEQ; a read of TIM_CAP_NS latches the other two, one of TIM_TXTS_NS the head stamp's, and POP removes that. Where the spec leaves a point open it is the model's reading: log entries 2, 4, 58. -/
def Obligations.CompareCaptureAndStamps : Prop :=
  ∀ (s : State) (r : Requester) (ch : Fin 16), Awake s →
    let c := s.dev.cmp ch
    let cfg := s.dev.rd (TIM_CMP_CFG ch)
    let period := s.dev.rd (TIM_CMP_PERIOD ch)
    let target := s.dev.cmpTarget ch
    let keeps := fun (t : Dev) => t.mem = s.dev.mem ∧ t.qry = s.dev.qry ∧ t.out = s.dev.out ∧ t.ext = s.dev.ext
    let fired := { c with fired := true, pulseEnd := some (s.dev.time.ticks + 250), stepped := false }
    let matched := fun (t : Dev) => (t.rd TIM_CMP_PEND).testBit ch = true ∧ keeps t ∧
      (cfg.testBit 2 = true → ∃ e, t.evq = s.dev.evq ++ [e] ∧ e.event = 9) ∧ (cfg.testBit 2 = false → t.evq = s.dev.evq) ∧
      t.time.ppsEnd = (if (s.dev.rd TIM_PPS_OUT).testBit 4 ∧ bitsOf (s.dev.rd TIM_PPS_OUT) 3 0 = ch.val
        then some (s.dev.time.ticks + 250000 * bitsOf (s.dev.rd TIM_PPS_OUT) 15 8) else s.dev.time.ppsEnd)
    (s.dev.mayWrite r (TIM_CMP_CTRL ch) = true →
      (let armed := { c with armed := true, fired := false, ovf := false, late := false, stepped := false, fore := s.dev.foreAt (s.dev.rd (TIM_CMP_NS ch)) }
       let d := s.dev.setCmp ch armed
       (d.cmpReached ch = false → Completes (.cmpArm r ch) s (· = d.answer 0)) ∧
       (d.cmpReached ch = true → Completes (.cmpArm r ch) s (fun t => t.rd TIM_CMP_LATE = satNat (s.dev.rd TIM_CMP_LATE + 1) m32 ∧ t.bus.cause = none ∧
          keeps t ∧
          (s.dev.en pTIM = false → t.time.cmps = s.dev.time.cmps.set ch { d.cmp ch with late := true }) ∧
          (s.dev.en pTIM = true → matched t ∧ (ch.val < s.dev.time.cmps.length → (t.cmp ch).fired = true ∧ (t.cmp ch).late = true))))) ∧
      Completes (.cmpDisarm r ch) s (fun t => t.time = { s.dev.time with cmps := s.dev.time.cmps.set ch { c with armed := false, stepped := false } } ∧
        t.reg = s.dev.reg ∧ t.bus.cause = none ∧ keeps t)) ∧
    (let due : Bool := s.dev.en pTIM && c.armed && s.dev.cmpReached ch
     (due = false → Completes (.timCmp ch) s (· = s.dev)) ∧
     (due = true → (cfg.testBit 1 = false ∨ period = 0) → Completes (.timCmp ch) s (fun t => matched t ∧
       t.time.cmps = s.dev.time.cmps.set ch { fired with armed := false } ∧
       ∀ a, a ≠ TIM_CMP_PEND → a ≠ PG_EVT_PEND pTIM → t.rd a = s.dev.rd a)) ∧
     (due = true → cfg.testBit 1 = true → period ≠ 0 → cfg.testBit 0 = false → Completes (.timCmp ch) s (fun t => matched t ∧
       t.time.cmps = s.dev.time.cmps.set ch fired ∧
       (let next := if c.stepped = true ∧ target + period ≤ (s.dev.ext : Int) then target + (((s.dev.ext : Int) - target) / period + 1) * period
          else target + period
        (t.rd (TIM_CMP_WRAP ch) * 2 ^ 32 + t.rd (TIM_CMP_NS ch) : Int) = next % 2 ^ 64) ∧
       ∀ a, a ≠ TIM_CMP_PEND → a ≠ PG_EVT_PEND pTIM → a ≠ TIM_CMP_NS ch → a ≠ TIM_CMP_WRAP ch → t.rd a = s.dev.rd a)) ∧
     (due = true → cfg.testBit 1 = true → period ≠ 0 → cfg.testBit 0 = true → Completes (.timCmp ch) s (fun t => matched t ∧
       t.rd (TIM_CMP_WRAP ch) = s.dev.rd (TIM_CMP_WRAP ch) ∧
       t.time.cmps = s.dev.time.cmps.set ch { fired with fore := s.dev.foreAt (t.rd (TIM_CMP_NS ch)) }))) ∧
    ((∀ t0, s.dev.time.ppsEnd = some t0 → t0 ≤ s.dev.time.ticks → Completes .ppsPulseEnd s (· = { s.dev with time := { s.dev.time with ppsEnd := none } })) ∧
     (s.dev.time.ppsEnd = none → Completes .ppsPulseEnd s (· = s.dev)) ∧
     (∀ t0, c.pulseEnd = some t0 → t0 ≤ s.dev.time.ticks → Completes (.cmpOutPulseEnd ch) s (· = s.dev.setCmp ch { c with pulseEnd := none })) ∧
     (c.pulseEnd = none → Completes (.cmpOutPulseEnd ch) s (· = s.dev))) ∧
    (let holds := fun (t : Dev) (n : Nat) (x : Nat) => t.rd (TIM_CAP_NS n) = x % 2 ^ 32 ∧ t.rd (TIM_CAP_WRAP n) = x / 2 ^ 32 % 2 ^ 32 ∧
       t.rd (TIM_CAP_SEQ n) = (s.dev.rd (TIM_CAP_SEQ n) + 1) % 2 ^ 32
     let same := fun (t : Dev) (n : Nat) => t.rd (TIM_CAP_NS n) = s.dev.rd (TIM_CAP_NS n) ∧ t.rd (TIM_CAP_WRAP n) = s.dev.rd (TIM_CAP_WRAP n) ∧
       t.rd (TIM_CAP_SEQ n) = s.dev.rd (TIM_CAP_SEQ n)
     let takes := fun (t : Dev) (hit : Nat → Bool) (x : Nat) => ∀ n, n < 8 → if hit n = true then holds t n x else same t n
     (∀ e, s.dev.en pTIM = false → Completes (.captureEdge e) s (· = s.dev)) ∧
     (s.dev.en pTIM = true →
       (∀ (land : Fin 32) (rising : Bool),
         let a := s.dev.pinArg land
         let n := bitsOf a 2 0
         let hit : Bool := s.dev.pinFunc land == 2 && decide (land.val < 16) && (a.testBit 4 != rising) && s.dev.capOn n 0
         (hit = true → Completes (.captureEdge (.gpio land rising)) s (fun t => takes t (fun k => k == n) s.dev.ext ∧ t.time = s.dev.time ∧ t.evq = s.dev.evq)) ∧
         (hit = false → Completes (.captureEdge (.gpio land rising)) s (· = s.dev))) ∧
       Completes (.captureEdge .radio) s (fun t => takes t (fun n => s.dev.capOn n 3) s.dev.ext ∧ t.time = s.dev.time ∧ t.evq = s.dev.evq) ∧
       Completes (.captureEdge .plc) s (fun t => takes t (fun n => s.dev.capOn n 4) s.dev.ext ∧ t.time = s.dev.time ∧ t.evq = s.dev.evq) ∧
       (∀ rising, Completes (.captureEdge (.zcIn rising)) s (fun t =>
         takes t (fun n => s.dev.capOn n 2 && s.dev.bit (TIM_CAP_CFG n) 3 == !rising) s.dev.ext ∧ t.time = s.dev.time ∧ t.evq = s.dev.evq)) ∧
       (∀ rising,
         let edge := s.dev.ext - s.dev.rd TIM_LAT_PPS
         let hit := fun n => s.dev.capOn n 1 && s.dev.bit (TIM_CAP_CFG n) 3 == !rising
         let pps := Instr.captureEdge (.ppsIn rising)
         ((s.dev.timSrc ≠ 0 ∨ (List.range 8).any hit = false) → Completes pps s (fun t => takes t hit edge ∧ t.time = s.dev.time)) ∧
         (s.dev.timSrc = 0 → (List.range 8).any hit = true →
           (s.dev.time.ppsPrev = none → Completes pps s (fun t => takes t hit edge ∧ t.time = { s.dev.time with ppsPrev := some edge })) ∧
           (∀ p, s.dev.time.ppsPrev = some p →
             (edge < p + 900000000 ∨ p + 1100000000 < edge → Completes pps s (fun t => takes t hit edge ∧
               t.time = { s.dev.time with ppsPrev := some edge } ∧ t.rd TIM_SAMPLE_REJ = satNat (s.dev.rd TIM_SAMPLE_REJ + 1) m32)) ∧
             (p + 900000000 ≤ edge → edge ≤ p + 1100000000 → Completes pps s (fun t =>
               t = ({ s.dev.capture 1 edge (some (!rising)) with time := { s.dev.time with ppsPrev := some edge } } : Dev).offsetSample
                 (ppsOffset edge (s.dev.rd TIM_PPS_PHASE)) ∧
               (s.dev.time.cls ≠ .invalid → t.rd TIM_SAMPLE_COUNT = satNat (s.dev.rd TIM_SAMPLE_COUNT + 1) m32)))))))) ∧
    (∀ n : Fin 8, s.dev.mayRead r (TIM_CAP_NS n) = true → s.dev.takeLatch (TIM_CAP_NS n) = none → Completes (.capNsRead r n) s (fun t =>
      t.bus.data = s.dev.rd (TIM_CAP_NS n) ∧ t.bus.cause = none ∧ t.reg.live = s.dev.reg.live ∧
      (t.takeLatch (TIM_CAP_WRAP n)).map (·.2) = some (s.dev.rd (TIM_CAP_WRAP n)) ∧
      (t.takeLatch (TIM_CAP_SEQ n)).map (·.2) = some (s.dev.rd (TIM_CAP_SEQ n)))) ∧
    (s.dev.mayRead r TIM_TXTS_NS = true → s.dev.takeLatch TIM_TXTS_NS = none → ∀ x l, s.dev.time.txts = x :: l → Completes (.txtsNsRead r) s (fun t =>
      t.bus.data = x.ext % 2 ^ 32 ∧ t.time = s.dev.time ∧
      (t.takeLatch TIM_TXTS_WRAP).map (·.2) = some (x.ext / 2 ^ 32 % 2 ^ 32) ∧ (t.takeLatch TIM_TXTS_INFO).map (·.2) = some (x.info % 2 ^ 32))) ∧
    (s.dev.mayWrite r TIM_TXTS_POP = true → Completes (.txtsPop r) s (fun t => t.time = { s.dev.time with txts := s.dev.time.txts.tail } ∧
      t.reg = s.dev.reg ∧ t.bus.cause = none ∧ keeps t))

/-- For each of the twenty operations. Nothing happens while KEY may not start, its page is CFG_INVALID, the ring is disabled or empty, or while the job in front names another operation. A job of no operation ends with RANGE; one that ring 1 may not submit ends with DENIED, counted in KEY_USE_VIOL, shown in KEY_VIOL_LAST with event 39; a job of P-256 or of more than 64 KiB waits for leave of class 10, and gives it back. Every job that runs ends: STATUS, OUT_LEN and DONE_T are written and KEY_JOB_CONS advances by one. Where the spec leaves a point open it is the model's reading: log entries 47, 51. -/
def Obligations.KeyJobRings : Prop :=
  ∀ (s : State) (r : Fin 2) (k : Fin 20), Awake s →
    let ops : List (Fin 2 → Instr) := [.generateJob, .deriveJob, .importKey, .invalidateJob, .saveJob, .keyLoad, .attestJob, .pubkeyJob, .signJob,
      .verifyJob, .aeadSeal, .aeadOpen, .macGen, .macCheck, .hashJob, .ecdhDerive, .deriveBlob, .rewrap, .epRekey, .randomJob]
    let c := (ops.getD k .hashJob) r
    let a := s.dev.jobAddr r
    let j := Job.ofBytes (s.dev.ldBytes a 64)
    let w : Client := ⟨pKEY, r⟩
    let asks := s.dev.jobNeedsLeave j
    let b := if asks = true then s.dev.request 10 w else s.dev
    let ready := s.dev.starts pKEY = true ∧ keyCfgInvalid s.dev = false ∧ s.dev.fld (KEY_JOB_CFG r) 4 0 ≠ 0 ∧ s.dev.jobCount r ≠ 0
    let ended := fun (x e : Dev) (res out : Nat) =>
      e.mem = (((x.st (a + 3) 1 res).st (a + 0x14) 4 out).st (a + 0x30) 8 x.ext).mem ∧
      e.rd (KEY_JOB_CONS r) = (x.rd (KEY_JOB_CONS r) + 1) % 2 ^ 32 ∧ e.key = x.key ∧ e.free = x.free ∧ e.qry = x.qry ∧ e.out = x.out ∧
      e.time = x.time ∧
      (∀ p, p ≠ KEY_JOB_CONS r → p ≠ KEY_USE_VIOL → p ≠ KEY_VIOL_LAST → p ≠ PG_EVT_PEND pKEY → e.rd p = x.rd p) ∧
      (res = 2 ∨ res = 3 ∨ res = 8 → e.rd KEY_USE_VIOL = satNat (x.rd KEY_USE_VIOL + 1) m32 ∧ (∃ v, e.evq = x.evq ++ [v] ∧ v.event = 39)) ∧
      (res = 5 → e.rd KEY_USE_VIOL = x.rd KEY_USE_VIOL ∧ ∃ v, e.evq = x.evq ++ [v] ∧ v.event = 38) ∧
      (res ≠ 2 → res ≠ 3 → res ≠ 8 → res ≠ 5 → e.evq = x.evq ∧ e.rd KEY_USE_VIOL = x.rd KEY_USE_VIOL ∧ e.rd KEY_VIOL_LAST = x.rd KEY_VIOL_LAST)
    let named := 1 ≤ j.op ∧ j.op ≤ 20
    let ring0 := (1 ≤ j.op ∧ j.op ≤ 6) ∨ j.op = 16
    let by0 : Nat := if r.val = 0 then 0 else s.dev.key.ring1Role
    (¬ready → Completes c s (· = s.dev)) ∧
    (ready → named → j.op ≠ k.val + 1 → Completes c s (· = s.dev)) ∧
    (ready → ¬named → Completes c s (fun t => ended s.dev t 1 0)) ∧
    (ready → j.op = k.val + 1 → ring0 → r.val ≠ 0 → Completes c s (fun t => ended s.dev t 8 0 ∧
      t.rd KEY_VIOL_LAST = ((if j.op = 4 ∨ j.op = 5 then j.dest else j.slot) + 256 * j.op + 65536 * 8 + 1048576 * by0) % 2 ^ 32)) ∧
    (ready → j.op = k.val + 1 → (ring0 → r.val = 0) → asks = true → b.granted 10 w = false → Completes c s (· = b)) ∧
    (ready → j.op = k.val + 1 → (ring0 → r.val = 0) → (asks = true → b.granted 10 w = true) → Completes c s (fun t =>
      ∃ (x e : Dev) (res out : Nat), t = (if asks = true then e.giveBack 10 w else e) ∧ res ≤ 11 ∧ ended x e res out ∧
        x.rd (KEY_JOB_CONS r) = b.rd (KEY_JOB_CONS r) ∧ x.ext = b.ext ∧ x.time = b.time ∧ x.qry = b.qry ∧ x.out = b.out ∧
        (res = 2 ∨ res = 3 ∨ res = 8 → e.rd KEY_VIOL_LAST =
          ((if j.op = 4 ∨ j.op = 5 ∨ j.op = 7 then j.dest else j.slot) + 256 * j.op + 65536 * res + 1048576 * by0) % 2 ^ 32)))

/-- On ring 0. A job that fills slot 0, 1, 3 (or 2, but by LOAD) is DENIED, one in RAW or SCRAPPED is LIFECYCLE, one whose slot is not EMPTY is SLOT_BUSY, an ATTR outside R257 and R258 is RANGE; the key used is tested by R258 and R271. GENERATE fills DEST with random bytes (a free value) as GENERATED under parent 3; DERIVE and ECDH_DERIVE with the KDF of R260 under SLOT; IMPORT with the opened package, BINDING for another device and AUTH_FAIL for a bad tag; each sets the generation one on. SAVE writes the 128-byte blob under slot 0 and LOAD restores one into its own slot if its parent is VALID with the recorded generation. INVALIDATE of slots 4 up empties the slot one generation on, orphans every VALID descendant, drops the cached keys under it, raises event 38 if there were any, and counts. The blob's inner layout and the order of tests are the model's choice (log 48). Where the spec leaves a point open it is the model's reading: log entries 25, 47, 48, 49, 50. -/
def Obligations.KeysMadeLoadedAndWiped : Prop :=
  ∀ s : State, Awake s →
    let r : Fin 2 := 0
    let a := s.dev.jobAddr r
    let j := Job.ofBytes (s.dev.ldBytes a 64)
    let w : Client := ⟨pKEY, r⟩
    let asks := s.dev.jobNeedsLeave j
    let b := if asks = true then s.dev.request 10 w else s.dev
    let ready := s.dev.starts pKEY = true ∧ keyCfgInvalid s.dev = false ∧ s.dev.fld (KEY_JOB_CFG r) 4 0 ≠ 0 ∧ s.dev.jobCount r ≠ 0 ∧
      (asks = true → b.granted 10 w = true)
    let ended := fun (x e : Dev) (res out : Nat) =>
      e.mem = (((x.st (a + 3) 1 res).st (a + 0x14) 4 out).st (a + 0x30) 8 x.ext).mem ∧
      e.rd (KEY_JOB_CONS r) = (x.rd (KEY_JOB_CONS r) + 1) % 2 ^ 32 ∧ e.key = x.key ∧ e.free = x.free ∧ e.qry = x.qry ∧ e.out = x.out ∧
      e.time = x.time ∧
      (∀ p, p ≠ KEY_JOB_CONS r → p ≠ KEY_USE_VIOL → p ≠ KEY_VIOL_LAST → p ≠ PG_EVT_PEND pKEY → e.rd p = x.rd p) ∧
      (res = 2 ∨ res = 3 ∨ res = 8 → e.rd KEY_USE_VIOL = satNat (x.rd KEY_USE_VIOL + 1) m32 ∧ (∃ v, e.evq = x.evq ++ [v] ∧ v.event = 39)) ∧
      (res = 5 → e.rd KEY_USE_VIOL = x.rd KEY_USE_VIOL ∧ ∃ v, e.evq = x.evq ++ [v] ∧ v.event = 38) ∧
      (res ≠ 2 → res ≠ 3 → res ≠ 8 → res ≠ 5 → e.evq = x.evq ∧ e.rd KEY_USE_VIOL = x.rd KEY_USE_VIOL ∧ e.rd KEY_VIOL_LAST = x.rd KEY_VIOL_LAST)
    let ends := fun (c : Instr) (x : Dev) (res out : Nat) =>
      Completes c s (fun t => ∃ e : Dev, t = (if asks = true then e.giveBack 10 w else e) ∧ ended x e res out)
    let use := fun (n : Nat) (algs : List Nat) (usage : Nat) =>
      let z := b.slot n
      if z.st = 0 then 4 else if chainValid b.key.slots 257 n = false then 5
      else if z.alg ∉ algs ∨ z.usage ≠ usage then 2
      else if 1 ≤ b.lc ∧ b.lc ≤ 4 ∧ z.scope.testBit (b.lc - 1) = true then 0 else 3
    let inD : Bool := inDram j.inAddr j.inLen
    let auxD : Bool := inDram j.auxAddr j.auxLen
    let input := b.ldBytes j.inAddr j.inLen
    let aux := b.ldBytes j.auxAddr j.auxLen
    let bad := fun (n : Nat) (load : Bool) =>
      if n = 0 ∨ n = 1 ∨ n = 3 ∨ (n = 2 ∧ load = false) then 8
      else if b.lc = 0 ∨ b.lc = 5 then 3 else if (b.slot n).st ≠ 0 then 9 else 0
    let filled := fun (x : Dev) (attr origin parent : Nat) (key : Bytes) => x.setSlot j.dest { st := 1, alg := bitsOf attr 4 2, usage := bitsOf attr 6 5, origin := origin, scope := bitsOf attr 12 9, parent := parent, gen := ((b.slot j.dest).gen + 1) % 2 ^ 24, key := key }
    let attrOk := fun (v : Nat) => v &&& 0xFFFFE183 = 0 ∧ bitsOf v 4 2 ≤ 3 ∧ (bitsOf v 4 2 = 2 → bitsOf v 6 5 ≠ 2) ∧
      (bitsOf v 4 2 = 3 → bitsOf v 6 5 ≤ 1)
    let bytes := fun (v : Nat) => if bitsOf v 4 2 = 0 then 16 else 32
    let derives := fun (c : Instr) (prf lc : Bytes) (origin : Nat) =>
      let label := lc.takeWhile (· != 0#8)
      let ctx := (lc.dropWhile (· != 0#8)).drop 1
      (1 ≤ label.length ∧ label.length ≤ 32 ∧ 1 ≤ ctx.length ∧ ctx.length ≤ 32 →
        ends c (filled b j.attr origin j.slot (kdf prf label ctx (8 * bytes j.attr))) 0 0) ∧
      (¬(1 ≤ label.length ∧ label.length ≤ 32 ∧ 1 ≤ ctx.length ∧ ctx.length ≤ 32) → ends c b 11 0)
    let writes := fun (c : Instr) (x : Dev) (bs : Bytes) =>
      (j.outLen < bs.length → ends c x 11 0) ∧
      (bs.length ≤ j.outLen → inDram j.outAddr bs.length = false → ends c x 1 0) ∧
      (bs.length ≤ j.outLen → inDram j.outAddr bs.length = true → ends c (x.stBytes j.outAddr bs) 0 bs.length)
    ready →
    (j.op = 1 → let c := Instr.generateJob r
     (bad j.dest false ≠ 0 → ends c b (bad j.dest false) 0) ∧
     (bad j.dest false = 0 →
       (¬attrOk j.attr → ends c b 1 0) ∧
       (attrOk j.attr → b.key.rngFault = true → ends c b 10 0) ∧
       (attrOk j.attr → b.key.rngFault = false → ends c (filled (b.tookFree (bytes j.attr)) j.attr 1 3
         (if bitsOf j.attr 4 2 = 2 then beBytes 32 (beNat (b.freeBytes 32) % (p256n - 1) + 1) else b.freeBytes (bytes j.attr))) 0 0))) ∧
    (j.op = 2 → let c := Instr.deriveJob r
     (bad j.dest false ≠ 0 → ends c b (bad j.dest false) 0) ∧
     (bad j.dest false = 0 →
       (¬attrOk j.attr → ends c b 1 0) ∧
       (attrOk j.attr →
         (use j.slot [0, 1] 3 ≠ 0 → ends c b (use j.slot [0, 1] 3) 0) ∧
         (use j.slot [0, 1] 3 = 0 → (auxD = false → ends c b 1 0) ∧
           (auxD = true → derives c (b.slot j.slot).key aux (b.slot j.slot).origin))))) ∧
    (j.op = 16 → let c := Instr.ecdhDerive r
     (bad j.dest false ≠ 0 → ends c b (bad j.dest false) 0) ∧
     (bad j.dest false = 0 →
       (¬attrOk j.attr → ends c b 1 0) ∧
       (attrOk j.attr →
         (use j.slot [2] 3 ≠ 0 → ends c b (use j.slot [2] 3) 0) ∧
         (use j.slot [2] 3 = 0 →
           (auxD = false → ends c b 1 0) ∧ (auxD = true → j.auxLen < 64 → ends c b 11 0) ∧
           (auxD = true → 64 ≤ j.auxLen → ecdh (b.slot j.slot).key (aux.take 64) = none → ends c b 1 0) ∧
           (∀ x, auxD = true → 64 ≤ j.auxLen → ecdh (b.slot j.slot).key (aux.take 64) = some x → derives c x (aux.drop 64) 2))))) ∧
    (j.op = 3 → let c := Instr.importKey r
     (bad j.dest false ≠ 0 → ends c b (bad j.dest false) 0) ∧
     (bad j.dest false = 0 →
       (inDram j.inAddr 192 = false → ends c b 1 0) ∧
       (inDram j.inAddr 192 = true → j.inLen ≠ 192 → ends c b 11 0) ∧
       (inDram j.inAddr 192 = true → j.inLen = 192 →
         let mode := leAt input 2 1
         let attr := leAt input 4 4
         let u := if mode = 0 then use j.slot [2] 3 else use j.slot [1] 2
         let good := leAt input 0 2 = 1 ∧ mode ≤ 1 ∧ attrOk attr
         (¬good → ends c b 1 0) ∧ (good → u ≠ 0 → ends c b u 0) ∧
         (good → u = 0 → leAt input 8 8 ≠ b.rd64 RMC_EUI_LO → ends c b 7 0) ∧
         (good → u = 0 → leAt input 8 8 = b.rd64 RMC_EUI_LO →
           let opens := fun (k : Bytes) => gcmOpen k (slice input 0x50 12) (input.take 0x60) (slice input 0x60 32) (slice input 0x80 16)
           let byKey := fun (k : Bytes) =>
             (opens k = none → ends c b 6 0) ∧ (∀ p, opens k = some p → ends c (filled b attr 2 j.slot (p.take (bytes attr))) 0 0)
           (mode = 1 → byKey (b.slot j.slot).key) ∧
           (mode = 0 → ecdh (b.slot j.slot).key (slice input 0x10 64) = none → ends c b 1 0) ∧
           (∀ x, mode = 0 → ecdh (b.slot j.slot).key (slice input 0x10 64) = some x →
             byKey (kdf x (ascii "CRN-IMPORT") (slice input 8 8 ++ slice input 4 4) 256)))))) ∧
    (j.op = 5 → let c := Instr.saveJob r
     let n := j.dest
     let z := b.slot n
     let kek := b.slot 0
     (n = 0 ∨ n = 1 ∨ n = 3 → ends c b 8 0) ∧
     (n ≠ 0 → n ≠ 1 → n ≠ 3 → z.st ≠ 1 → ends c b 4 0) ∧
     (n ≠ 0 → n ≠ 1 → n ≠ 3 → z.st = 1 → use 0 [1] 2 ≠ 0 → ends c b (use 0 [1] 2) 0) ∧
     (n ≠ 0 → n ≠ 1 → n ≠ 3 → z.st = 1 → use 0 [1] 2 = 0 → b.key.rngFault = true → ends c b 10 0) ∧
     (n ≠ 0 → n ≠ 1 → n ≠ 3 → z.st = 1 → use 0 [1] 2 = 0 → b.key.rngFault = false →
       let nonce := b.freeBytes 12
       let text := leBytes 4 n ++ leBytes 4 z.attr ++ leBytes 4 z.gen ++ leBytes 4 (b.slot z.parent).gen ++ padTo 32 z.key ++ zeroBytes 16
       writes c (b.tookFree 12) (nonce ++ gcmSeal kek.key nonce [] text ++ zeroBytes 36))) ∧
    (j.op = 6 → let c := Instr.keyLoad r
     (inDram j.inAddr 128 = false → ends c b 1 0) ∧
     (inDram j.inAddr 128 = true → j.inLen ≠ 128 → ends c b 11 0) ∧
     (inDram j.inAddr 128 = true → j.inLen = 128 → use 0 [1] 2 ≠ 0 → ends c b (use 0 [1] 2) 0) ∧
     (inDram j.inAddr 128 = true → j.inLen = 128 → use 0 [1] 2 = 0 →
       let opened := gcmOpen (b.slot 0).key (input.take 12) [] (slice input 12 64) (slice input 76 16)
       (opened = none → ends c b 6 0) ∧
       (∀ p, opened = some p →
         let n := leAt p 0 4 % 256
         let v := leAt p 4 4
         let up := b.slot (bitsOf v 23 16)
         (bad n true ≠ 0 → ends c b (bad n true) 0) ∧
         (bad n true = 0 → (up.st ≠ 1 ∨ up.gen ≠ leAt p 12 4) → ends c b 5 0) ∧
         (bad n true = 0 → up.st = 1 → up.gen = leAt p 12 4 →
           ends c (b.setSlot n { st := 1, alg := bitsOf v 4 2, usage := bitsOf v 6 5, origin := bitsOf v 8 7, scope := bitsOf v 12 9, parent := bitsOf v 23 16, gen := leAt p 8 4 % 2 ^ 24, key := slice p 16 (bytes v) }) 0 0)))) ∧
    (j.op = 4 → let c := Instr.invalidateJob r
     (j.dest < 4 → ends c b 8 0) ∧
     (4 ≤ j.dest → Completes c s (fun t => ∃ x : Dev, ended x t 0 0 ∧ x.mem = b.mem ∧ x.out = b.out ∧
       x.rd KEY_INVAL_COUNT = satNat (b.rd KEY_INVAL_COUNT + 1) m32 ∧
       x.slot j.dest = { gen := ((b.slot j.dest).gen + 1) % 2 ^ 24 } ∧
       (∀ n, n ≠ j.dest → x.slot n = if 4 ≤ n ∧ n < 256 ∧ (b.slot n).st = 1 ∧ hasAncestor b.key.slots j.dest 257 n = true
         then { b.slot n with st := 2, key := [] } else b.slot n) ∧
       x.key.cache = b.key.cache.filter (fun e => e.kek != j.dest) ∧
       (let hit := (∃ e ∈ b.key.cache, e.kek = j.dest) ∨ ∃ n, n ≠ j.dest ∧ 4 ≤ n ∧ n < 256 ∧ (b.slot n).st = 1 ∧ hasAncestor b.key.slots j.dest 257 n = true
        (hit → ∃ v, x.evq = b.evq ++ [v] ∧ v.event = 38) ∧ (¬hit → x.evq = b.evq)))))

/-- For either ring, a job in front that may run. The slot is tested by its state, its ancestors, its algorithm and usage and its scope; buffers outside DRAM end with RANGE and wrong lengths with LENGTH. SIGN writes an ECDSA signature over the 32-byte digest with a random nonce (free bytes) and counts it; VERIFY, AEAD_OPEN and MAC_CHECK end OK or AUTH_FAIL; AEAD_SEAL writes ciphertext and tag under the nonce and data of AUX; MAC_GEN CMAC or HMAC; HASH SHA-256; RANDOM up to 4,096 free bytes; PUBKEY the public key, with the manufacturing record for slot 1; ATTEST the 256-byte mason's mark, signed under slot 1, for a VALID slot. Random data is RNG_FAULT while the generator fails. A result larger than its buffer ends with LENGTH. Where the spec leaves a point open it is the model's reading: log entries 46, 47, 48, 52. -/
def Obligations.CryptographicJobs : Prop :=
  ∀ (s : State) (r : Fin 2), Awake s →
    let a := s.dev.jobAddr r
    let j := Job.ofBytes (s.dev.ldBytes a 64)
    let w : Client := ⟨pKEY, r⟩
    let asks := s.dev.jobNeedsLeave j
    let b := if asks = true then s.dev.request 10 w else s.dev
    let ready := s.dev.starts pKEY = true ∧ keyCfgInvalid s.dev = false ∧ s.dev.fld (KEY_JOB_CFG r) 4 0 ≠ 0 ∧ s.dev.jobCount r ≠ 0 ∧
      (asks = true → b.granted 10 w = true)
    let ended := fun (x e : Dev) (res out : Nat) =>
      e.mem = (((x.st (a + 3) 1 res).st (a + 0x14) 4 out).st (a + 0x30) 8 x.ext).mem ∧
      e.rd (KEY_JOB_CONS r) = (x.rd (KEY_JOB_CONS r) + 1) % 2 ^ 32 ∧ e.key = x.key ∧ e.free = x.free ∧ e.qry = x.qry ∧ e.out = x.out ∧
      e.time = x.time ∧
      (∀ p, p ≠ KEY_JOB_CONS r → p ≠ KEY_USE_VIOL → p ≠ KEY_VIOL_LAST → p ≠ PG_EVT_PEND pKEY → e.rd p = x.rd p) ∧
      (res = 2 ∨ res = 3 ∨ res = 8 → e.rd KEY_USE_VIOL = satNat (x.rd KEY_USE_VIOL + 1) m32 ∧ (∃ v, e.evq = x.evq ++ [v] ∧ v.event = 39)) ∧
      (res = 5 → e.rd KEY_USE_VIOL = x.rd KEY_USE_VIOL ∧ ∃ v, e.evq = x.evq ++ [v] ∧ v.event = 38) ∧
      (res ≠ 2 → res ≠ 3 → res ≠ 8 → res ≠ 5 → e.evq = x.evq ∧ e.rd KEY_USE_VIOL = x.rd KEY_USE_VIOL ∧ e.rd KEY_VIOL_LAST = x.rd KEY_VIOL_LAST)
    let ends := fun (c : Instr) (x : Dev) (res out : Nat) =>
      Completes c s (fun t => ∃ e : Dev, t = (if asks = true then e.giveBack 10 w else e) ∧ ended x e res out)
    let use := fun (n : Nat) (algs : List Nat) (usage : Nat) =>
      let z := b.slot n
      if z.st = 0 then 4 else if chainValid b.key.slots 257 n = false then 5
      else if z.alg ∉ algs ∨ z.usage ≠ usage then 2
      else if 1 ≤ b.lc ∧ b.lc ≤ 4 ∧ z.scope.testBit (b.lc - 1) = true then 0 else 3
    let inD : Bool := inDram j.inAddr j.inLen
    let auxD : Bool := inDram j.auxAddr j.auxLen
    let input := b.ldBytes j.inAddr j.inLen
    let aux := b.ldBytes j.auxAddr j.auxLen
    let writes := fun (c : Instr) (x : Dev) (bs : Bytes) =>
      (j.outLen < bs.length → ends c x 11 0) ∧
      (bs.length ≤ j.outLen → inDram j.outAddr bs.length = false → ends c x 1 0) ∧
      (bs.length ≤ j.outLen → inDram j.outAddr bs.length = true → ends c (x.stBytes j.outAddr bs) 0 bs.length)
    let z := b.slot j.slot
    ready →
    (j.op = 9 → let c := Instr.signJob r
     let u := use j.slot [2] 0
     (u ≠ 0 → ends c b u 0) ∧ (u = 0 → inD = false → ends c b 1 0) ∧ (u = 0 → inD = true → j.inLen ≠ 32 → ends c b 11 0) ∧
     (u = 0 → inD = true → j.inLen = 32 → b.key.rngFault = true → ends c b 10 0) ∧
     (u = 0 → inD = true → j.inLen = 32 → b.key.rngFault = false →
       writes c ((b.tookFree 32).bump KEY_SIGN_COUNT) (ecdsaSign z.key input (beNat (b.freeBytes 32))))) ∧
    (j.op = 10 → let c := Instr.verifyJob r
     let u := use j.slot [2] 1
     (u ≠ 0 → ends c b u 0) ∧ (u = 0 → (inD = false ∨ auxD = false) → ends c b 1 0) ∧
     (u = 0 → inD = true → auxD = true → (j.inLen ≠ 32 ∨ j.auxLen ≠ 64) → ends c b 11 0) ∧
     (u = 0 → inD = true → auxD = true → j.inLen = 32 → j.auxLen = 64 →
       ends c b (if ecdsaVerify (pubOf z.key) input aux = true then 0 else 6) 0)) ∧
    (j.op = 11 → let c := Instr.aeadSeal r
     let u := use j.slot [0, 1] 0
     (u ≠ 0 → ends c b u 0) ∧ (u = 0 → (inD = false ∨ auxD = false) → ends c b 1 0) ∧
     (u = 0 → inD = true → auxD = true → j.auxLen < 12 → ends c b 11 0) ∧
     (u = 0 → inD = true → auxD = true → 12 ≤ j.auxLen → writes c b (gcmSeal z.key (aux.take 12) (aux.drop 12) input))) ∧
    (j.op = 12 → let c := Instr.aeadOpen r
     let u := use j.slot [0, 1] 1
     (u ≠ 0 → ends c b u 0) ∧ (u = 0 → (inD = false ∨ auxD = false) → ends c b 1 0) ∧
     (u = 0 → inD = true → auxD = true → (j.auxLen < 12 ∨ j.inLen < 16) → ends c b 11 0) ∧
     (u = 0 → inD = true → auxD = true → 12 ≤ j.auxLen → 16 ≤ j.inLen →
       let opened := gcmOpen z.key (aux.take 12) (aux.drop 12) (input.take (j.inLen - 16)) (input.drop (j.inLen - 16))
       (opened = none → ends c b 6 0) ∧ (∀ p, opened = some p → writes c b p))) ∧
    (let mac := if z.alg = 3 then hmac z.key input else cmac z.key input
     (j.op = 13 → let c := Instr.macGen r
      let u := use j.slot [0, 1, 3] 0
      (u ≠ 0 → ends c b u 0) ∧ (u = 0 → inD = false → ends c b 1 0) ∧ (u = 0 → inD = true → writes c b mac)) ∧
     (j.op = 14 → let c := Instr.macCheck r
      let u := use j.slot [0, 1, 3] 1
      (u ≠ 0 → ends c b u 0) ∧ (u = 0 → (inD = false ∨ auxD = false) → ends c b 1 0) ∧
      (u = 0 → inD = true → auxD = true → ends c b (if j.auxLen ≠ mac.length then 11 else if aux = mac then 0 else 6) 0))) ∧
    (j.op = 15 → (inD = false → ends (.hashJob r) b 1 0) ∧ (inD = true → writes (.hashJob r) b (sha256 input))) ∧
    (j.op = 20 → let c := Instr.randomJob r
     (4096 < j.outLen → ends c b 11 0) ∧ (j.outLen ≤ 4096 → inDram j.outAddr j.outLen = false → ends c b 1 0) ∧
     (j.outLen ≤ 4096 → inDram j.outAddr j.outLen = true → b.key.rngFault = true → ends c b 10 0) ∧
     (j.outLen ≤ 4096 → inDram j.outAddr j.outLen = true → b.key.rngFault = false →
       ends c ((b.tookFree j.outLen).stBytes j.outAddr (b.freeBytes j.outLen)) 0 j.outLen)) ∧
    (j.op = 8 → let c := Instr.pubkeyJob r
     (z.st = 0 → ends c b 4 0) ∧ (z.st ≠ 0 → chainValid b.key.slots 257 j.slot = false → ends c b 5 0) ∧
     (z.st ≠ 0 → chainValid b.key.slots 257 j.slot = true → z.alg ≠ 2 → ends c b 2 0) ∧
     (z.st ≠ 0 → chainValid b.key.slots 257 j.slot = true → z.alg = 2 → writes c b (pubOf z.key ++
       if j.slot = 1 then leBytes 8 (b.rd64 RMC_EUI_LO) ++ zeroBytes 56 ++ beBytes 64 Config.vendorSig.toNat else []))) ∧
    (j.op = 7 → let c := Instr.attestJob r
     let n := j.dest
     let q := b.slot n
     let top := chainEnd b.key.slots 257 n
     let kcv := if q.alg = 2 then zeroBytes 32 else if q.alg = 3 then hmac q.key [] else cmac q.key (zeroBytes 16) ++ zeroBytes 16
     let text := leBytes 2 1 ++ leBytes 1 b.lc ++ leBytes 1 n ++ leBytes 8 (b.rd64 RMC_EUI_LO) ++ leBytes 4 q.gen ++ leBytes 4 q.attr ++
       leBytes 1 (if top = 0 ∨ top = 3 ∨ n = 1 then 3 else 1) ++ zeroBytes 3 ++ leBytes 8 b.ext ++ padTo 32 aux ++
       (if q.alg = 2 then pubOf q.key else zeroBytes 64) ++ kcv ++ sha256 (pubOf (b.slot 1).key)
     let u := use 1 [2] 0
     (q.st ≠ 1 → ends c b 4 0) ∧ (q.st = 1 → auxD = false → ends c b 1 0) ∧
     (q.st = 1 → auxD = true → (j.auxLen ≠ 32 ∨ j.outLen < 256) → ends c b 11 0) ∧
     (q.st = 1 → auxD = true → j.auxLen = 32 → 256 ≤ j.outLen → u ≠ 0 → ends c b u 0) ∧
     (q.st = 1 → auxD = true → j.auxLen = 32 → 256 ≤ j.outLen → u = 0 → b.key.rngFault = true → ends c b 10 0) ∧
     (q.st = 1 → auxD = true → j.auxLen = 32 → 256 ≤ j.outLen → u = 0 → b.key.rngFault = false →
       writes c ((b.tookFree 32).bump KEY_SIGN_COUNT) (text ++ ecdsaSign (b.slot 1).key (sha256 text) (beNat (b.freeBytes 32)))))

/-- DERIVE_BLOB derives a meter key under SLOT from its EUI-64 and writes blob n under BLOB_KEK with a fresh nonce, updating the cached entry in place; without a BLOB_KEK it is EMPTY_SLOT, with one no longer VALID PARENT_INVALID. REWRAP rewraps its blobs in order and stops at the first that cannot be, with the count done. EP_REKEY writes KEY_REF and clears the record's counters. A frame that waits for its key goes on, the radio's first. A failing health test sets RNG_FAULT and counts; a passing one clears it. GO in RAW or SCRAPPED or within 10 ms of the last is REFUSED, else BUSY; the response then is the AES-CMAC of R272, with DONE. Where the spec leaves a point open it is the model's reading: log entries 2, 47, 50, 92. -/
def Obligations.MeterKeysAndLevelZero : Prop :=
  ∀ (s : State) (r : Fin 2) (q : Requester), Awake s →
    let a := s.dev.jobAddr r
    let j := Job.ofBytes (s.dev.ldBytes a 64)
    let w : Client := ⟨pKEY, r⟩
    let asks := s.dev.jobNeedsLeave j
    let b := if asks = true then s.dev.request 10 w else s.dev
    let ready := s.dev.starts pKEY = true ∧ keyCfgInvalid s.dev = false ∧ s.dev.fld (KEY_JOB_CFG r) 4 0 ≠ 0 ∧ s.dev.jobCount r ≠ 0 ∧
      (asks = true → b.granted 10 w = true)
    let ended := fun (x e : Dev) (res out : Nat) =>
      e.mem = (((x.st (a + 3) 1 res).st (a + 0x14) 4 out).st (a + 0x30) 8 x.ext).mem ∧
      e.rd (KEY_JOB_CONS r) = (x.rd (KEY_JOB_CONS r) + 1) % 2 ^ 32 ∧ e.key = x.key ∧ e.free = x.free ∧ e.qry = x.qry ∧ e.out = x.out ∧
      e.time = x.time ∧
      (∀ p, p ≠ KEY_JOB_CONS r → p ≠ KEY_USE_VIOL → p ≠ KEY_VIOL_LAST → p ≠ PG_EVT_PEND pKEY → e.rd p = x.rd p) ∧
      (res = 2 ∨ res = 3 ∨ res = 8 → e.rd KEY_USE_VIOL = satNat (x.rd KEY_USE_VIOL + 1) m32 ∧ (∃ v, e.evq = x.evq ++ [v] ∧ v.event = 39)) ∧
      (res = 5 → e.rd KEY_USE_VIOL = x.rd KEY_USE_VIOL ∧ ∃ v, e.evq = x.evq ++ [v] ∧ v.event = 38) ∧
      (res ≠ 2 → res ≠ 3 → res ≠ 8 → res ≠ 5 → e.evq = x.evq ∧ e.rd KEY_USE_VIOL = x.rd KEY_USE_VIOL ∧ e.rd KEY_VIOL_LAST = x.rd KEY_VIOL_LAST)
    let ends := fun (c : Instr) (x : Dev) (res out : Nat) =>
      Completes c s (fun t => ∃ e : Dev, t = (if asks = true then e.giveBack 10 w else e) ∧ ended x e res out)
    let use := fun (n : Nat) (algs : List Nat) (usage : Nat) =>
      let z := b.slot n
      if z.st = 0 then 4 else if chainValid b.key.slots 257 n = false then 5
      else if z.alg ∉ algs ∨ z.usage ≠ usage then 2
      else if 1 ≤ b.lc ∧ b.lc ≤ 4 ∧ z.scope.testBit (b.lc - 1) = true then 0 else 3
    let inD : Bool := inDram j.inAddr j.inLen
    let auxD : Bool := inDram j.auxAddr j.auxLen
    let input := b.ldBytes j.inAddr j.inLen
    let aux := b.ldBytes j.auxAddr j.auxLen
    let keeps := fun (t : Dev) => t.mem = s.dev.mem ∧ t.qry = s.dev.qry ∧ t.out = s.dev.out ∧ t.time = s.dev.time
    let kekBad := fun (k : Nat) => if (b.slot k).st ≠ 1 ∨ chainValid b.key.slots 257 k = false then 5 else use k [1] 2
    let kek := b.fld KEY_CFG 7 0
    let noKek := if kek = 0xFF then 4 else kekBad kek
    let n := j.inAddr % 2 ^ 20
    let blob := fun (x : Dev) (n addr : Nat) (key : Bytes) =>
      let nonce := x.freeBytes 12
      let head := leBytes 2 1 ++ leBytes 1 0 ++ leBytes 1 kek ++ leBytes 4 (b.slot kek).gen ++ leBytes 8 addr ++ nonce ++ zeroBytes 4
      let y := (x.tookFree 12).stBytes (x.rd64 KEY_BLOB_BASE_LO + 64 * n) (head ++ gcmSeal (b.slot kek).key nonce head key)
      { y with key := { y.key with cache := y.key.cache.map fun e => if e.blob = n then { blob := n, kek := kek, kekGen := (b.slot kek).gen, addr := addr, key := key } else e } }
    (ready →
     (j.op = 17 → let c := Instr.deriveBlob r
      let u := use j.slot [0, 1] 3
      (noKek ≠ 0 → ends c b noKek 0) ∧ (noKek = 0 → u ≠ 0 → ends c b u 0) ∧
      (noKek = 0 → u = 0 → (b.rd KEY_BLOB_COUNT ≤ n ∨ auxD = false) → ends c b 1 0) ∧
      (noKek = 0 → u = 0 → n < b.rd KEY_BLOB_COUNT → auxD = true → j.auxLen ≠ 8 → ends c b 11 0) ∧
      (noKek = 0 → u = 0 → n < b.rd KEY_BLOB_COUNT → auxD = true → j.auxLen = 8 → b.key.rngFault = true → ends c b 10 0) ∧
      (noKek = 0 → u = 0 → n < b.rd KEY_BLOB_COUNT → auxD = true → j.auxLen = 8 → b.key.rngFault = false →
        ends c (blob b n (leNat aux) (kdf (b.slot j.slot).key (ascii "CRN-EP") aux 128)) 0 1)) ∧
     (j.op = 18 → let c := Instr.rewrap r
      (noKek ≠ 0 → ends c b noKek 0) ∧ (noKek = 0 → b.rd KEY_BLOB_COUNT < n + j.inLen → ends c b 1 0) ∧
      (noKek = 0 → n + j.inLen ≤ b.rd KEY_BLOB_COUNT → b.key.rngFault = true → ends c b 10 0) ∧
      (noKek = 0 → n + j.inLen ≤ b.rd KEY_BLOB_COUNT → b.key.rngFault = false →
        let kekOf := fun (x : Dev) (n : Nat) => kekBad (leNat (x.ldBytes (x.rd64 KEY_BLOB_BASE_LO + 64 * n + 3) 1))
        let after : Nat → Dev := fun m => (List.range m).foldl (fun x i =>
          match x.unwrapBlob (n + i) with | none => x | some e => blob x (n + i) e.addr e.key) b
        ∀ m, m ≤ j.inLen → (∀ i, i < m → kekOf (after i) (n + i) = 0 ∧ ((after i).unwrapBlob (n + i)).isSome = true) →
          (m = j.inLen → ends c (after m) 0 m) ∧
          (m < j.inLen → kekOf (after m) (n + m) ≠ 0 → ends c (after m) (kekOf (after m) (n + m)) m) ∧
          (m < j.inLen → kekOf (after m) (n + m) = 0 → (after m).unwrapBlob (n + m) = none → ends c (after m) 6 m))) ∧
     (j.op = 19 → let c := Instr.epRekey r
      let idx := j.inAddr % 2 ^ 25
      let n := j.inLen % 2 ^ 20
      ((b.rd ING_REG_HWM ≤ idx ∨ b.rd KEY_BLOB_COUNT ≤ n) → ends c b 1 0) ∧
      (idx < b.rd ING_REG_HWM → n < b.rd KEY_BLOB_COUNT →
        let at0 := b.rd64 ING_REC_BASE_LO + 384 * idx + rSECURITY
        ends c ((b.stBytes at0 (zeroBytes 12)).st (at0 + 12) 4 (n + 2 ^ 31)) 0 0))) ∧
    ((s.dev.mac 0).waitKey = [] → (s.dev.mac 1).waitKey = [] → Completes .keyCacheMiss s (· = s.dev)) ∧
    (∀ f rest, (s.dev.mac 0).waitKey = f :: rest →
      let d := s.dev.setMac 0 { s.dev.mac 0 with waitKey := rest }
      (parseMpdu f.mpdu = none → Completes .keyCacheMiss s (· = d)) ∧
      (∀ x, parseMpdu f.mpdu = some x → Completes .keyCacheMiss s (· = d.radSecured x f))) ∧
    (∀ f rest, (s.dev.mac 0).waitKey = [] → (s.dev.mac 1).waitKey = f :: rest →
      let d := s.dev.setMac 1 { s.dev.mac 1 with waitKey := rest }
      (parseMpdu f.mpdu = none → Completes .keyCacheMiss s (· = d)) ∧
      (∀ x, parseMpdu f.mpdu = some x → Completes .keyCacheMiss s (· = d.plcSecured x f))) ∧
    Completes .rngHealthFail s (fun t => t.key = { s.dev.key with rngFault := true } ∧ keeps t ∧
      t.rd KEY_RNG_STAT / 65536 = min (s.dev.rd KEY_RNG_STAT / 65536 + 1) 0xFFFF ∧ ∀ p, p ≠ KEY_RNG_STAT → t.rd p = s.dev.rd p) ∧
    Completes .rngHealthPass s (· = { s.dev with key := { s.dev.key with rngFault := false } }) ∧
    (s.dev.mayWrite q KEY_L0_CMD = true →
      let soon := ∃ t0, s.dev.key.l0Last = some t0 ∧ s.dev.past t0 (250000 * 10) = false
      let refused := soon ∨ s.dev.lc = 0 ∨ s.dev.lc = 5
      Completes (.l0Go q) s (fun t => keeps t ∧ t.bus.cause = none ∧ t.key.l0Last = some s.dev.time.ticks ∧
        t.key.slots = s.dev.key.slots ∧ (∀ p, p ≠ KEY_L0_STAT → t.rd p = s.dev.rd p) ∧
        (refused → t.rd KEY_L0_STAT = 4 ∧ t.key.l0Busy = s.dev.key.l0Busy) ∧ (¬refused → t.rd KEY_L0_STAT = 1 ∧ t.key.l0Busy = true))) ∧
    (s.dev.key.l0Busy = false → Completes .l0Done s (· = s.dev)) ∧
    (s.dev.key.l0Busy = true → Completes .l0Done s (fun t => keeps t ∧ t.key = { s.dev.key with l0Busy := false } ∧ t.rd KEY_L0_STAT = 2 ∧
      (let chal := (List.range 4).flatMap fun i => leBytes 4 (s.dev.rd (KEY_L0_CHAL i))
       let resp := cmac (beBytes 16 Config.attestSecret.toNat) ([0x4C#8, 0x30#8] ++ leBytes 8 (s.dev.rd64 RMC_EUI_LO) ++ leBytes 1 s.dev.lc ++ chal)
       ∀ i, i < 4 → t.rd (KEY_L0_RESP i) = leAt resp (4 * i) 4) ∧
      ∀ p, p ≠ KEY_L0_STAT → (∀ i, i < 4 → p ≠ KEY_L0_RESP i) → t.rd p = s.dev.rd p))

/-- A sample of a channel with an open span adds one to the bin of R278 and updates the extremes, the sum and the count. Each span end reached writes the channel's record, with its SEV if bin 0 or 15 is not 0, and opens the next span. The oldest raising not looked at leaves its queue; an event of the masks, or a firmware code from 0x0100 up, is a condition: it repeats the open record, or closes it and opens one; a lower code is dropped; a record also closes when REC_HOLD has passed. A record takes the next SEQ and a place among 64, or is dropped. Each NOR operation asks leave of class 11: a CLEAR erases every slot, a record goes to the next erased slot, and with none a victim is erased, its unacknowledged records counted, with event 41 and a MARK LOST. The scan finds the records, goes on after the newest SEQ, counts bad slots with event 42 once, writes START_UP and opens PARTIAL spans. LOAD and NEXT fill the window's halves by R283. CLEAR is refused in DEPLOYED, else drops what is open or buffered and writes CLEARED. Where the spec leaves a point open it is the model's reading: log entries 2, 101, 102, 103. -/
def Obligations.ConditionRecorder : Prop :=
  ∀ (s : State) (r : Requester), Awake s →
    let live : Bool := s.dev.runs pREC && s.dev.rcd.ready
    let spanOf := fun (x : Dev) (c : Nat) => (x.rcd.spans.find? fun e => e.1 == c).map (·.2)
    let keeps := fun (t : Dev) => t.mem = s.dev.mem ∧ t.qry = s.dev.qry ∧ t.out = s.dev.out ∧ t.time = s.dev.time
    let add := fun (x : Dev) (mk : Nat → Bytes) => if 64 ≤ x.rcd.buf.length then x.bump REC_DROP
      else { x with rcd := { x.rcd with buf := x.rcd.buf ++ [mk x.rcd.nextSeq], nextSeq := (x.rcd.nextSeq + 1) % 2 ^ 32 } }
    let shut := fun (x : Dev) => match x.rcd.cond with
      | none => x
      | some o => add { x with rcd := { x.rcd with cond := none } } fun seq =>
          recordBytes 2 o.sev seq o.first o.last o.code (o.worst + 8 * b2n o.stepped) o.repeats o.detail
    let expired : Bool := match s.dev.rcd.cond with | none => false | some o => s.dev.past o.tick (s.dev.rd REC_HOLD * 250000000)
    let condition := fun (x : Dev) (code sev tm cls : Nat) (detail : Bytes) =>
      let x := if expired = true then shut x else x
      let fresh : OpenCond := { code := code, sev := sev, first := tm, last := tm, tick := s.dev.time.ticks, detail := detail, repeats := 1, worst := cls }
      match x.rcd.cond with
      | none => { x with rcd := { x.rcd with cond := some fresh } }
      | some o =>
        if o.code = code ∧ o.detail.take 4 = detail.take 4 then { x with rcd := { x.rcd with cond := some { o with repeats := satNat (o.repeats + 1) m32, last := tm, sev := max o.sev sev, worst := max o.worst cls } } }
        else { shut x with rcd := { (shut x).rcd with cond := some fresh } }
    let takes := fun (t : Dev) (c : Nat) (v : Int) => ∀ p, spanOf s.dev c = some p → ∃ n : Span, t.rcd.spans = Assoc.put s.dev.rcd.spans c n ∧
      (let lo := sext 32 (s.dev.rd (REC_CH_LO c))
       let w := s.dev.rd (REC_CH_W c)
       let bin := if v < lo then 0 else if lo + 14 * (w : Int) ≤ v then 15 else 1 + (v - lo).toNat / w
       n.bins = p.bins.set bin (satNat (p.bins.getD bin 0 + 1) m32)) ∧
      n.count = satNat (p.count + 1) m32 ∧ n.sum = clampInt (p.sum + v) (-(2 ^ 63)) (2 ^ 63 - 1) ∧
      (p.count = 0 ∨ v < p.min → n.min = v ∧ n.tMin = s.dev.ext) ∧ (p.count ≠ 0 → p.min ≤ v → n.min = p.min ∧ n.tMin = p.tMin) ∧
      (p.count = 0 ∨ p.max < v → n.max = v ∧ n.tMax = s.dev.ext) ∧ (p.count ≠ 0 → v ≤ p.max → n.max = p.max ∧ n.tMax = p.tMax) ∧
      n.start = p.start ∧ n.next = p.next ∧ n.kind = p.kind ∧ n.part = p.part ∧ n.worst = p.worst ∧ n.stepped = p.stepped
    (∀ (ch : Fin 16) (v : BitVec 32),
      let grown := fun (now last : Nat) => ((if now < last then now else now - last : Nat) : Int)
      let quantity : Int :=
        if ch.val = 0 ∨ ch.val = 2 then v.toNat else if ch.val = 1 ∨ ch.val = 10 ∨ ch.val = 11 then v.toInt
        else if ch.val = 3 then s.dev.rateNow
        else if ch.val = 4 then (quarryCells : Int) - s.dev.rsvSum - s.dev.qry.retired - s.dev.poolFree
        else if ch.val = 5 then grown s.dev.waitTotal s.dev.rcd.waitLast
        else if ch.val = 6 then grown (s.dev.rd MEM_CORR_COUNT) s.dev.rcd.memLast
        else if ch.val = 7 then grown (s.dev.rd QRY_CORR_TOTAL) s.dev.rcd.qryLast
        else if ch.val = 8 then (sext 32 (s.dev.rd TIM_LAST_OFFSET)).natAbs else s.dev.unc
      Completes (.histSample ch v) s (fun t => keeps t ∧ t.reg = s.dev.reg ∧ t.evq = s.dev.evq ∧ t.bus = s.dev.bus ∧
        t.rcd.buf = s.dev.rcd.buf ∧ t.rcd.cond = s.dev.rcd.cond ∧ t.rcd.slots = s.dev.rcd.slots ∧
        t.pwr.vinMv = (if ch.val = 0 then v.toNat else s.dev.pwr.vinMv) ∧ t.pwr.pin = (if ch.val = 2 then v.toNat else s.dev.pwr.pin) ∧
        t.pwr.tempMk = (if ch.val = 1 then v.toInt else s.dev.pwr.tempMk) ∧
        (live = true → ch.val < 12 → takes t ch quantity) ∧
        (live = false ∨ 12 ≤ ch.val ∨ spanOf s.dev ch = none → t.rcd.spans = s.dev.rcd.spans))) ∧
    (∀ (ch : Fin 4) (v : Word), s.dev.mayWrite r (REC_FW_SAMPLE ch) = true →
      Completes (.recFwSampleWrite r ch v) s (fun t => keeps t ∧ t.reg = s.dev.reg ∧ t.evq = s.dev.evq ∧ t.bus.cause = none ∧
        (live = true → s.dev.en pREC = true → takes t (12 + ch.val) v.toInt) ∧
        (live = false ∨ s.dev.en pREC = false ∨ spanOf s.dev (12 + ch.val) = none → t.rcd = s.dev.rcd))) ∧
    (let due := fun (c : Nat) => ∃ p, spanOf s.dev c = some p ∧ p.next ≤ s.dev.ext
     (live = false ∨ (∀ c, c < 16 → ¬due c) → Completes .spanEnd s (· = s.dev)) ∧
     (live = true → (∀ c p, c < 16 → spanOf s.dev c = some p → s.dev.ext < s.dev.spanEnd p.kind p.next) → Completes .spanEnd s
       (· = (List.range 16).foldl (fun x c => match spanOf s.dev c with
         | none => x
         | some p => if s.dev.ext < p.next then x
           else
             let out : Bool := p.bins.getD 0 0 != 0 || p.bins.getD 15 0 != 0
             let x := add x fun seq => recordBytes 1 (if out then s.dev.fld (REC_CH_CFG c) 6 4 else 0) seq p.start p.next (c + 16 * p.kind)
               (p.worst + 4 * b2n p.part + 8 * b2n p.stepped) 0 p.body
             let k := s.dev.chSpan c
             let opened := Assoc.put x.rcd.spans c { start := p.next, next := s.dev.spanEnd k p.next, kind := k, part := false, worst := s.dev.cls.code }
             { x with rcd := { x.rcd with spans := if k = 1 ∨ k = 2 then opened else Assoc.del x.rcd.spans c } }) s.dev))) ∧
    (let on : Bool := live && s.dev.bit REC_CFG 1
     (s.dev.evq = [] → Completes .recCondition s (· = s.dev)) ∧
     (∀ e rest, s.dev.evq = e :: rest →
       let d := { s.dev with evq := rest }
       let masked : Bool := if e.event < 32 then (s.dev.rd REC_EVT_MASK0).testBit e.event else (s.dev.rd REC_EVT_MASK1).testBit (e.event - 32)
       ((on = false ∨ masked = false) → Completes .recCondition s (· = d)) ∧
       (on = true → masked = true → Completes .recCondition s (· = condition d e.event
         (bitsOf (s.dev.rd (REC_SEV (e.event / 8))) (4 * (e.event % 8) + 2) (4 * (e.event % 8))) e.ext e.cls
         (leBytes 4 (d.pgStat e.page) ++ leBytes 4 e.faultAddr ++ leBytes 4 e.faultInfo ++ zeroBytes 4)))) ∧
     (∀ v : Word, s.dev.mayWrite r REC_FW_CODE = true →
       let code := v.toNat % 2 ^ 16
       (s.dev.en pREC = true → code < 0x100 → Completes (.recFwCodeWrite r v) s (· = (s.dev.bump REC_DROP).answer 0)) ∧
       ((s.dev.en pREC = false ∨ (0x100 ≤ code ∧ on = false)) → Completes (.recFwCodeWrite r v) s (· = s.dev.answer 0)) ∧
       (s.dev.en pREC = true → 0x100 ≤ code → on = true → Completes (.recFwCodeWrite r v) s (· = (condition s.dev code (bitsOf v.toNat 18 16) s.dev.ext
         s.dev.cls.code ((List.range 4).flatMap fun i => leBytes 4 (s.dev.rd (REC_FW_DETAIL i)))).answer 0))) ∧
     Completes .condHoldExpire s (· = if s.dev.runs pREC = true ∧ expired = true then shut s.dev else s.dev)) ∧
    (let idle : Bool := (s.dev.rcd.buf.isEmpty && !s.dev.rcd.clearing) || !s.dev.starts pREC || !s.dev.rcd.ready
     let w : Client := ⟨pREC, 0⟩
     let e := s.dev.request 11 w
     let more := fun (x : Dev) => Completes .recNorWrite s (· = (x.giveBack 11 w).recPump (2 * s.dev.rcd.buf.length + 7))
     (idle = true → Completes .recNorWrite s (· = s.dev)) ∧
     (idle = false → e.granted 11 w = false → Completes .recNorWrite s (· = e)) ∧
     (idle = false → e.granted 11 w = true →
       (s.dev.rcd.clearing = true → ∃ x, more x ∧ x.rcd.slots = [] ∧ x.rcd.clearing = false ∧ x.rcd.buf = s.dev.rcd.buf ∧ x.reg = e.reg) ∧
       (∀ b rest n, s.dev.rcd.clearing = false → s.dev.rcd.buf = b :: rest → s.dev.nextSlot = some n → ∃ x, more x ∧ x.rcd.buf = rest ∧
         x.mem = (s.dev.putBytes (recBase + 128 * n) b).mem ∧ x.rcd.pos = some n ∧ x.rd REC_RECORDS = satNat (e.rd REC_RECORDS + 1) m32 ∧
         x.rcd.slots = s.dev.rcd.slots ++ [{ slot := n, seq := leAt b 4 4, sev := leAt b 3 1 % 8, ok := true }]) ∧
       (∀ v, s.dev.rcd.clearing = false → s.dev.rcd.buf ≠ [] → s.dev.nextSlot = none → s.dev.victim.1 = some v →
         let lost := s.dev.rcd.slots.filter fun k => k.ok && k.slot / 512 == v && seqAfter k.seq (s.dev.rd REC_ACK_SEQ)
         ∃ x, more x ∧ x.rd REC_KEPT = s.dev.victim.2 % 2 ^ 32 ∧ x.rcd.slots = s.dev.rcd.slots.filter (fun k => k.slot / 512 != v) ∧
           (lost = [] → x.rcd.buf = s.dev.rcd.buf ∧ x.evq = e.evq ∧ x.rd REC_LOST = e.rd REC_LOST) ∧
           (∀ k, lost.getLast? = some k → x.rd REC_LOST = satNat (e.rd REC_LOST + lost.length) m32 ∧ (∃ y, x.evq = e.evq ++ [y] ∧ y.event = 41) ∧
             (s.dev.rcd.buf.length < 64 → x.rcd.buf = s.dev.rcd.buf ++ [recordBytes 3 0 s.dev.rcd.nextSeq s.dev.ext s.dev.ext 3 s.dev.cls.code 0
               (leBytes 4 lost.length ++ leBytes 4 k.seq)]))))) ∧
    (∀ (erase : Option (Fin 1024)) (decayed : List (Fin 524288 × Bytes)),
      let scan := Instr.recStartupScan erase decayed
      ((s.dev.rcd.ready = true ∨ s.dev.runs pREC = false) → Completes scan s (· = s.dev)) ∧
      (s.dev.rcd.ready = false → s.dev.runs pREC = true →
        let d := s.dev.recDecay decayed
        let d := match erase with | none => d | some n => d.recErase n
        let found := d.recFind (s.dev.rcd.slots.map (·.slot) ++ decayed.map (·.1.val)).eraseDups
        let bad := found.filter fun k => !k.ok
        let seq := match (found.filter (·.ok)).getLast? with | none => s.dev.rcd.nextSeq | some k => (k.seq + 1) % 2 ^ 32
        ∃ x : Dev, Completes scan s (· = x.recWrite) ∧ x.mem = d.mem ∧ x.rcd.ready = true ∧ x.rcd.slots.map (·.slot) = found.map (·.slot) ∧
          x.rd REC_CHECK_FAIL_COUNT = satNat (s.dev.rd REC_CHECK_FAIL_COUNT + bad.length) m32 ∧
          (bad = [] → x.evq = s.dev.evq) ∧ (bad ≠ [] → ∃ y, x.evq = s.dev.evq ++ [y] ∧ y.event = 42) ∧
          (s.dev.rcd.buf.length < 64 → x.rcd.nextSeq = (seq + 1) % 2 ^ 32 ∧ x.rcd.buf = s.dev.rcd.buf ++ [recordBytes 3 0 seq s.dev.ext s.dev.ext 1
            s.dev.cls.code 0 (leBytes 4 (s.dev.rd RST_CAUSE) ++ leBytes 4 s.dev.lc)]) ∧
          (∀ c, c < 16 → (s.dev.chSpan c = 1 ∨ s.dev.chSpan c = 2) →
            let k := s.dev.chSpan c
            spanOf x c = some { start := s.dev.ext, next := s.dev.spanEnd k s.dev.ext, kind := k, part := true, worst := s.dev.cls.code }))) ∧
    (∀ decayed : List (Fin 524288 × Bytes), s.dev.mayWrite r REC_WIN_CMD = true →
      let d := s.dev.recDecay decayed
      let stat := s.dev.rd REC_WIN_STAT
      let next := if stat.testBit 1 then (s.dev.rd (REC_WIN 33) + 1) % 2 ^ 32 else if stat.testBit 0 then (s.dev.rd (REC_WIN 1) + 1) % 2 ^ 32
        else s.dev.rd REC_CURSOR
      let loaded := fun (t : Dev) (cur : Nat) =>
        let good := s.dev.rcd.slots.filter (·.ok)
        let here := good.dropWhile fun k => seqAfter cur k.seq
        let bytes := fun (k : RecSlot) => d.ldBytes (recBase + 128 * k.slot) 128
        let w := t.rd REC_WIN_STAT
        t.bus.cause = none ∧ t.mem = d.mem ∧ t.rd REC_CURSOR = cur ∧
        (∀ k, here.head? = some k → w.testBit 0 = true ∧ w.testBit 2 = recGood (bytes k) ∧ w.testBit 5 = false ∧
          (w.testBit 4 = true ↔ good.head? = some k ∧ k.seq ≠ cur) ∧ ∀ i, i < 32 → t.rd (REC_WIN i) = leAt (bytes k) (4 * i) 4) ∧
        (∀ k, here.tail.head? = some k → w.testBit 1 = true ∧ w.testBit 3 = recGood (bytes k) ∧
          ∀ i, i < 32 → t.rd (REC_WIN (32 + i)) = leAt (bytes k) (4 * i) 4) ∧
        (here = [] → w = 32) ∧ (here.tail = [] → w.testBit 1 = false ∧ w.testBit 3 = false) ∧
        (t.rcd.cond = none ↔ s.dev.rcd.cond = none ∨ cur = s.dev.rcd.nextSeq ∨ seqAfter cur s.dev.rcd.nextSeq = true)
      (live = false → Completes (.recLoad r decayed) s (· = d.answer 0) ∧ Completes (.recNext r decayed) s (· = d.answer 0)) ∧
      (live = true → Completes (.recLoad r decayed) s (fun t => loaded t (s.dev.rd REC_CURSOR)) ∧
        Completes (.recNext r decayed) s (fun t => loaded t next))) ∧
    (s.dev.mayWrite r REC_CLEAR = true →
      (s.dev.lc = 3 → Completes (.recClear r) s (· = s.dev.violate r REC_CLEAR LIFECYCLE true)) ∧
      (s.dev.lc ≠ 3 → live = false → Completes (.recClear r) s (· = s.dev.answer 0)) ∧
      (s.dev.lc ≠ 3 → live = true →
        let newest := match (s.dev.rcd.slots.filter (·.ok)).getLast? with | none => (s.dev.rcd.nextSeq + (2 ^ 32 - 1)) % 2 ^ 32 | some k => k.seq
        let mark := recordBytes 3 0 s.dev.rcd.nextSeq s.dev.ext s.dev.ext 2 s.dev.cls.code 0 (leBytes 4 newest)
        let cleared : RecSt := { s.dev.rcd with cond := none, clearing := true, nextSeq := (s.dev.rcd.nextSeq + 1) % 2 ^ 32, buf := [mark] }
        Completes (.recClear r) s (· = (Dev.recWrite { s.dev with rcd := cleared }).answer 0)))

/-- A due heartbeat goes out on HB_TX, and sealed on the pair link, with the octets of R287 and their CRC. A heartbeat that does not open, whose CRC fails or that another EUI sends changes only its count; a valid one is the partner's last, and the first sets RED_PARTNER_EUI. On a standby or joiner one on path A with its stamps gives the servo the two-way offset. An ACTIVE that hears ACTIVE goes to RESYNC, keeping ARM_VALID if it yields and losing it if the partner wins; a driving claim the partner beats is released. A silent path raises 43 or 44 once. KICK keeps heartbeats going; its expiry stops them, releases ACTIVE_N and leads to RESYNC. YIELD, FORCE (SEC only) and RESTORED act in their states. A claim sends CLAIMING unless the line is low, drives after its wait if it is still high, and after 30 ms unchallenged the module is ACTIVE with event 45. The standby evaluates R290's takeover rule; a line high while driven is finding 6. Where the spec leaves a point open it is the model's reading: log entries 2, 104, 105, 106. -/
def Obligations.PairHeartbeatsAndFence : Prop :=
  ∀ (s : State) (r : Requester), Awake s →
    let on : Bool := s.dev.runs pRED && s.dev.bit RED_CTRL 0 && s.dev.red.state != .solo
    let z := s.dev.red
    let now := s.dev.time.ticks
    let quiet := fun (t : Dev) => t.mem = s.dev.mem ∧ t.out = s.dev.out ∧ t.qry = s.dev.qry ∧ t.time = s.dev.time
    let same := fun (t : Dev) (l : List Nat) => ∀ a, a ∉ l → t.rd a = s.dev.rd a
    let found := fun (t : Dev) (cause epoch : Nat) => t.rd RED_MISMATCH_LAST = cause ∧ t.rd64 RED_MISMATCH_EPOCH_LO = epoch % 2 ^ 64 ∧
      t.rd RED_MISMATCH_COUNT = satNat (s.dev.rd RED_MISMATCH_COUNT + 1) m32 ∧ (∃ e, t.evq = s.dev.evq ++ [e] ∧ e.event = 46) ∧
      same t [RED_MISMATCH_LAST, RED_MISMATCH_EPOCH_LO, RED_MISMATCH_EPOCH_HI, RED_MISMATCH_COUNT, PG_EVT_PEND pRED]
    let resync := fun (x : RedSt) (keep : Bool) => { x with state := .resync, armValid := x.armValid && keep, driving := false, faulted := false, yielding := false, claim := none, resyncing := false, finalHold := false, stream := [], held := [], journalWaits := [], isolated := false, joinTick := now }
    let unfit := fun (x : RedSt) => if x.state ≠ .standby then x else if s.dev.bit RED_CTRL 2 = true then resync x false else { x with suspectArm := true }
    let frame := fun (x : Dev) =>
      let code := match x.red.state with | .solo => 0 | .active => 1 | .standby => 2 | .resync => 3
      let b := leBytes 1 1 ++ leBytes 1 (code + 4 * b2n x.red.armValid + 8 * b2n x.red.yielding + 16 * b2n x.red.claim.isSome +
        32 * b2n (x.bit RED_CTRL 1)) ++ leBytes 2 x.red.hbSeq ++ leBytes 8 x.eui ++ leBytes 4 (x.rd EPC_SEAL_SEQ_LO) ++ leBytes 1 x.role ++ zeroBytes 1
      b ++ leBytes 2 (crc16 b)
    let sends := fun (x : Dev) =>
      let sent : Sent := { port := .hbWire, ext := x.ext, bytes := frame x }
      let more : List Sent := if x.pairSeals = true then [{ port := .pair, ext := x.ext, bytes := frame x }] else []
      let y := { x.red with hbSeq := (x.red.hbSeq + 1) % 65536, hbTickA := now, hbTickB := now, sentExt := x.ext }
      { x with out := x.out ++ sent :: more, red := y }
    let claims := fun (x : Dev) (why : ClaimWhy) => if x.red.driving = true ∨ x.red.outsideLow = true ∨ x.red.claim.isSome = true then x
      else sends { x with red := { x.red with claim := some { why := why, since := now } } }
    let line := fun (low : Bool) => ({ s.dev with red := { z with outsideLow := low } } : Dev)
    let act := fun (c : Instr) (e : RedSt) => Completes c s (· = { s.dev with red := e })
    let nothing := fun (c : Instr) => Completes c s (· = s.dev)
    Completes .hbTx s (· = if on = true ∧ z.kicked = true ∧ s.dev.past z.hbTickA (250000 * s.dev.fld RED_HB 7 0) = true then sends s.dev else s.dev) ∧
    (∀ (b ok : Bool) (h : Heartbeat) (view : Option PairView), let c := Instr.hbRx b ok h view
      let known := s.dev.rd64 RED_PARTNER_EUI_LO
      let heard : Bool := on && (b || s.dev.pairOpens) && ok && (known == 0 || known == h.eui.toNat)
      let wins : Bool := (h.pref && !s.dev.bit RED_CTRL 1) || (h.pref == s.dev.bit RED_CTRL 1 && decide (h.eui.toNat < s.dev.eui))
      (on = false → nothing c) ∧
      (on = true → b = false → s.dev.pairOpens = false → Completes c s (· = s.dev.bump RED_LINK_FAIL)) ∧
      (on = true → (b = true ∨ s.dev.pairOpens = true) → ok = false → Completes c s (· = s.dev.bump RED_HB_CRC_ERR)) ∧
      (on = true → (b = true ∨ s.dev.pairOpens = true) → ok = true → known ≠ 0 → known ≠ h.eui.toNat → nothing c) ∧
      (heard = true → Completes c s (fun t => t.red.partner = some h ∧ t.rd64 RED_PARTNER_EUI_LO = h.eui.toNat ∧ t.qry = s.dev.qry ∧ t.out = s.dev.out ∧
        t.mem = s.dev.mem ∧ t.red.kicked = z.kicked ∧
        (b = true → t.red.lastB = now ∧ t.red.pathB = true ∧ t.red.lastA = z.lastA ∧ t.red.pathA = z.pathA ∧ t.red.view = z.view) ∧
        (b = false → t.red.lastA = now ∧ t.red.pathA = true ∧ t.red.lastB = z.lastB ∧ t.red.pathB = z.pathB ∧ t.red.view = view) ∧
        (let slave : Bool := z.state == .standby || z.state == .resync
         (∀ v a, view = some v → v.arrival = some a → b = false → h.state = 1 → slave = true → s.dev.time.cls ≠ .invalid → s.dev.en pTIM = true →
           t.rd TIM_LAST_OFFSET = enc 32 (clampInt ((((z.sentExt : Int) - a) + ((s.dev.ext : Int) - v.sent)) / 2) (-2147483648) 2147483647)) ∧
         (view = none ∨ b = true ∨ h.state ≠ 1 ∨ slave = false → t.time = s.dev.time)) ∧
        (z.state = .active → h.state = 1 → (z.yielding = true ∨ wins = true) → t.red.state = .resync ∧ t.red.driving = false ∧ t.red.claim = none ∧
          t.red.armValid = (z.armValid && z.yielding) ∧ t.red.stream = []) ∧
        (z.state = .active → h.state = 1 → z.yielding = false → wins = false → t.red.state = .active) ∧
        (z.state ≠ .active → t.red.state = z.state) ∧
        (z.state ≠ .active → (∃ k, z.claim = some k ∧ k.driving.isSome = true) → (h.state = 1 ∨ h.claiming = true) → wins = true →
          t.red.claim = none ∧ t.red.driving = false) ∧
        (z.state ≠ .active → (wins = false ∨ (h.state ≠ 1 ∧ h.claiming = false) ∨ ∀ k, z.claim = some k → k.driving = none) →
          t.red.claim = z.claim ∧ t.red.driving = z.driving)))) ∧
    (let silent := fun (last : Nat) => s.dev.past last (250000 * (10 * s.dev.fld RED_HB 15 8))
     (∀ b : Bool, let lost : Bool := on && (if b then z.pathB && silent z.lastB else z.pathA && silent z.lastA)
       (lost = false → nothing (.hbPathLoss b)) ∧
       (lost = true → Completes (.hbPathLoss b) s (fun t => quiet t ∧ t.red = (if b then { z with pathB := false } else { z with pathA := false }) ∧
         same t [PG_EVT_PEND pRED] ∧ ∃ e, t.evq = s.dev.evq ++ [e] ∧ e.event = if b then 44 else 43)))) ∧
    (∀ o : Bool, (on = true ∧ (o = false ∨ s.dev.pairOpens = false) → Completes (.pairFrameRx o) s (· = s.dev.bump RED_LINK_FAIL)) ∧
      (on = false ∨ (o = true ∧ s.dev.pairOpens = true) → nothing (.pairFrameRx o))) ∧
    (s.dev.mayWrite r RED_KICK = true → Completes (.redKick r) s (· = ({ s.dev with red := { z with kickTick := now, kicked := true } } : Dev).answer 0)) ∧
    (let due : Bool := on && z.kicked && s.dev.past z.kickTick (250000 * s.dev.rd RED_KICK_TO)
     (due = false → nothing .kickTimeout) ∧
     (due = true → (z.state = .active ∨ z.state = .standby) → act .kickTimeout (resync { z with kicked := false } false)) ∧
     (due = true → z.state = .resync → act .kickTimeout { z with kicked := false, driving := false, claim := none })) ∧
    (s.dev.mayWrite r RED_CMD = true →
      (let ready : Bool := on && z.state == .active && (match z.partner with | none => false | some h => h.state == 2)
       Completes (.redYield r) s (· = if ready = true then ({ s.dev with red := { z with yielding := true } } : Dev).answer 0 else s.dev.answer 0)) ∧
      Completes (.redRestored r) s (· = if s.dev.runs pRED = true ∧ z.state = .solo
        then ({ s.dev with red := { z with armValid := true } } : Dev).answer 0 else s.dev.answer 0) ∧
      (∀ low, r.role ≠ .sec → Completes (.redForce r low) s (· = (line low).violate r RED_CMD ROLE_DENIED true)) ∧
      (∀ low, r.role = .sec → Completes (.redForce r low) s
        (· = if on = true ∧ z.state = .resync then (claims (line low) .force).answer 0 else (line low).answer 0))) ∧
    (∀ low, let w := 250000 * s.dev.rd RED_JOIN_WAIT
      Completes (.joinWaitExpire low) s (· = if on = true ∧ z.state = .resync ∧ z.armValid = true ∧ s.dev.past z.joinTick w = true ∧
          s.dev.past z.lastA w = true ∧ s.dev.past z.lastB w = true
        then claims { line low with red := { (line low).red with joinTick := now } } .join else line low)) ∧
    (∀ low, let x := (line low).red
      (z.claim = none → Completes (.fenceClaimWaitEnd low) s (· = line low)) ∧
      (∀ k, z.claim = some k →
        let due : Bool := on && k.driving.isNone && s.dev.past k.since (if s.dev.bit RED_CTRL 1 then 0 else 250000 * 20)
        (due = false → Completes (.fenceClaimWaitEnd low) s (· = line low)) ∧
        (due = true → (z.driving = true ∨ low = true) → act (.fenceClaimWaitEnd low) { x with claim := none, joinTick := now }) ∧
        (due = true → z.driving = false → low = false → act (.fenceClaimWaitEnd low) { x with driving := true, claim := some { k with driving := some now } }))) ∧
    (let won : Bool := on && (match z.claim with | some { driving := some t0, .. } => s.dev.past t0 (250000 * 30) | _ => false)
     (won = false → nothing .redTakeover) ∧
     (won = true → Completes .redTakeover s (fun t => t.red.state = .active ∧ t.red.claim = none ∧ t.red.driving = z.driving ∧ t.red.stream = [] ∧
       t.red.armValid = z.armValid ∧ t.rd64 RED_LAST_TAKEOVER_LO = s.dev.ext % 2 ^ 64 ∧
       t.rd RED_TAKEOVER_COUNT = satNat (s.dev.rd RED_TAKEOVER_COUNT + 1) m32 ∧ t.time = s.dev.time ∧ ∃ e l, t.evq = s.dev.evq ++ e :: l ∧ e.event = 45))) ∧
    (∀ low, let c := Instr.takeoverEval low
      let d := line low
      let held : Bool := z.driving || low
      let yields : Bool := match z.partner with | none => false | some h => h.yield && h.state == 1
      let ring : Bool := s.dev.bit RED_CTRL 3 && (match z.ringSeen with | none => false | some t0 => !s.dev.past t0 (250000 * (10 * s.dev.fld RED_HB 15 8)))
      let plain := { d.red with isolated := false }
      let watches := on = true ∧ z.state = .standby ∧ z.claim = none
      (¬watches → Completes c s (· = d)) ∧
      (watches → yields = true → held = false → Completes c s (· = claims d .takeover)) ∧
      (watches → (yields = false ∨ held = true) →
        (z.pathA = true ∨ z.pathB = true → act c plain) ∧
        (z.pathA = false → z.pathB = false → held = true → Completes c s (fun t => t.red = { d.red with isolated := true } ∧ quiet t ∧ t.evq = s.dev.evq ∧
          same t [RED_ISOLATED_COUNT] ∧ t.rd RED_ISOLATED_COUNT =
            if z.isolated = true then s.dev.rd RED_ISOLATED_COUNT else satNat (s.dev.rd RED_ISOLATED_COUNT + 1) m32)) ∧
        (z.pathA = false → z.pathB = false → held = false → ring = true → act c plain) ∧
        (z.pathA = false → z.pathB = false → held = false → ring = false → Completes c s (· = claims { d with red := plain } .takeover)))) ∧
    ((on = false ∨ (z.driving = true ∧ z.faulted = true) ∨ (z.driving = false ∧ z.state ≠ .standby) → nothing .fenceFault) ∧
     (on = true → z.driving = true → z.faulted = false → Completes .fenceFault s (fun t => found t 6 0 ∧ quiet t ∧ t.red = { z with faulted := true })) ∧
     (on = true → z.driving = false → z.state = .standby → Completes .fenceFault s (fun t => found t 6 0 ∧ quiet t ∧ t.red = unfit z)))

/-- A joiner's or active's heartbeat with a view starts the resynchronisation only when ROLE, EPC_SIGN_SLOT, the digests and the partner stations agree; otherwise its cause is in RED_MISMATCH_LAST, with event 46 once for each cause; RESYNC asks for it again. A standby's armature item is journalled and joins the stream, a joiner's is held; a mirror acknowledgement removes what it covers. The lag limit or a full window makes the armature unfit, and both waits end. Of two roots that meet, a difference of roots is finding 1, of digests finding 2; a match on the active sends BAL's state. A pass of the active asks leave of class 12 and holds ING's apply stage when it takes less than RED_FINAL_MAX; the joiner takes the copy. Its end leaves the joiner STANDBY with ARM_VALID, counted, with event 47. REGION_SYNC puts the region into the stream with BUSY until it is SYNCED. Where the spec leaves a point open it is the model's reading: log entries 2, 75, 104, 105, 106. -/
def Obligations.ArmatureAndResynchronisation : Prop :=
  ∀ (s : State) (r : Requester), Awake s →
    let on : Bool := s.dev.runs pRED && s.dev.bit RED_CTRL 0 && s.dev.red.state != .solo
    let z := s.dev.red
    let now := s.dev.time.ticks
    let quiet := fun (t : Dev) => t.mem = s.dev.mem ∧ t.out = s.dev.out ∧ t.qry = s.dev.qry ∧ t.time = s.dev.time
    let same := fun (t : Dev) (l : List Nat) => ∀ a, a ∉ l → t.rd a = s.dev.rd a
    let found := fun (t : Dev) (cause epoch : Nat) => t.rd RED_MISMATCH_LAST = cause ∧ t.rd64 RED_MISMATCH_EPOCH_LO = epoch % 2 ^ 64 ∧
      t.rd RED_MISMATCH_COUNT = satNat (s.dev.rd RED_MISMATCH_COUNT + 1) m32 ∧ (∃ e, t.evq = s.dev.evq ++ [e] ∧ e.event = 46) ∧
      same t [RED_MISMATCH_LAST, RED_MISMATCH_EPOCH_LO, RED_MISMATCH_EPOCH_HI, RED_MISMATCH_COUNT, PG_EVT_PEND pRED]
    let resync := fun (x : RedSt) (keep : Bool) => { x with state := .resync, armValid := x.armValid && keep, driving := false, faulted := false, yielding := false, claim := none, resyncing := false, finalHold := false, stream := [], held := [], journalWaits := [], isolated := false, joinTick := now }
    let unfit := fun (x : RedSt) => if x.state ≠ .standby then x else if s.dev.bit RED_CTRL 2 = true then resync x false else { x with suspectArm := true }
    let nothing := fun (c : Instr) => Completes c s (· = s.dev)
    let act := fun (c : Instr) (e : RedSt) => Completes c s (· = { s.dev with red := e })
    let begins := fun (x : RedSt) => if x.resyncing = true then x
      else { x with resyncing := true, unfit := false, stream := [], ackedSeq := x.nextSeq, held := [], finalHold := false }
    let cause := fun (h : Heartbeat) (v : PairView) => if h.role.toNat ≠ s.dev.role then 4
      else if v.signSlot.val = s.dev.fld EPC_SIGN_SLOT 7 0 then 5 else if v.digest ≠ s.dev.configDigest s.dev.ext then 2 else 0
    let named := fun (v : PairView) => v.stn.val = s.dev.fld RED_PARTNER_STN 9 0 ∧ v.partnerStn.val = s.dev.stn
    let once := fun (t : Dev) (x : RedSt) (k : Nat) =>
      (k ∈ x.causes → t.red = x ∧ t.rd RED_MISMATCH_LAST = k ∧ t.evq = s.dev.evq ∧ same t [RED_MISMATCH_LAST]) ∧
      (k ∉ x.causes → t.red = { x with causes := x.causes ++ [k] } ∧ found t k 0)
    (∀ (ok : Bool) (h : Heartbeat) (v : PairView), on = true → s.dev.pairOpens = true → ok = true → s.dev.rd64 RED_PARTNER_EUI_LO = h.eui.toNat →
      h.eui.toNat ≠ 0 → z.claim = none → (h.state ≠ 1 ∨ v.arrival = none) →
      let c := Instr.hbRx false ok h (some v)
      let x := { z with partner := some h, lastA := now, pathA := true, view := some v }
      (z.state = .resync → h.state = 1 → cause h v ≠ 0 → Completes c s (fun t => once t x (cause h v) ∧ quiet t)) ∧
      (z.state = .resync → h.state = 1 → cause h v = 0 → named v → act c (begins x)) ∧
      (z.state = .resync → h.state = 1 → cause h v = 0 → ¬named v → act c x) ∧
      (z.state = .resync → h.state ≠ 1 → act c x) ∧ (z.state = .standby → act c x) ∧
      (z.state = .active → h.state = 3 → act c (if cause h v = 0 ∧ named v then begins x else x)) ∧
      (z.state = .active → h.state ≠ 3 → h.state ≠ 1 → act c { x with resyncing := false, finalHold := false })) ∧
    (s.dev.mayWrite r RED_CMD = true →
      (let ready := ∃ h v, z.partner = some h ∧ z.view = some v ∧ on = true ∧ cause h v = 0 ∧ named v ∧
         ((h.state = 1 ∧ (z.state = .resync ∨ z.state = .standby)) ∨ (z.state = .active ∧ (h.state = 2 ∨ h.state = 3)))
       (ready → Completes (.redResyncCmd r) s (· = ({ s.dev with red := begins z } : Dev).answer 0)) ∧
       (¬ready → Completes (.redResyncCmd r) s (· = s.dev.answer 0))) ∧
      (∀ k : Fin 16, let n := 4096 * s.dev.fld (RED_REGION_SIZE k) 22 0
        let base := s.dev.rd64 (RED_REGION_BASE_LO k)
        let runs := s.dev.runs pRED = true ∧ s.dev.mirrors = true ∧ n ≠ 0
        (¬runs → Completes (.regionSync r k) s (· = s.dev.answer 0)) ∧
        (runs → Completes (.regionSync r k) s (fun t => quiet t ∧ t.bus.cause = none ∧ t.evq = s.dev.evq ∧
          t.red = { z with nextSeq := z.nextSeq + 1, stream := z.stream ++ [{ seq := z.nextSeq, tick := now, item := .region k base (s.dev.ldBytes base n) }] } ∧
          (t.rd (RED_REGION_STAT k)).testBit 0 = true ∧ same t [RED_REGION_STAT k])))) ∧
    (∀ k : Fin 16, Completes (.regionSyncDone k) s (· = if s.dev.bit (RED_REGION_STAT k) 0 = true then s.dev.wr (RED_REGION_STAT k) 2 else s.dev)) ∧
    (∀ (seq : Nat) (i : ArmItem), let c := Instr.armatureItem seq i
      let joins : Bool := z.state == .resync && z.resyncing
      (on = false ∨ s.dev.pairOpens = false ∨ (z.state ≠ .standby ∧ joins = false) → nothing c) ∧
      (on = true → s.dev.pairOpens = true → (z.state = .standby ∨ joins = true) →
        let j := s.dev.journalDrive 64
        let w : JournalWait := { seq := seq, write := j.2 }
        let x := { j.1 with red := { z with nextSeq := seq, held := z.held ++ [i], journalWaits := z.journalWaits ++ [w] } }
        Completes c s (fun t => t = x.ackPump.feedAll ∧ t.red.nextSeq = seq ∧
          (joins = true → t.red.held = z.held ++ [i] ∧ t.reg = j.1.reg ∧ t.mem = j.1.mem ∧ t.io = j.1.io) ∧
          (z.state = .standby → z.held = [] → (∀ b, i = .balState b → t.bal.zones = b ∧ t.red.held = []) ∧
            (∀ stn q, i = .batchSeq stn q → Assoc.get 0 t.ing.stations stn = (q + 1) % 2 ^ 32 ∧ t.red.held = []))))) ∧
    (∀ seq, let c := Instr.mirrorAck seq
      (s.dev.mirrors = false ∨ z.nextSeq < seq → nothing c) ∧
      (s.dev.mirrors = true → seq ≤ z.nextSeq → Completes c s (fun t => t =
        ({ s.dev with red := { z with ackedSeq := max z.ackedSeq seq, stream := z.stream.filter fun m => decide (seq < m.seq) } } : Dev).dstPump))) ∧
    (∀ full : Bool, let c := Instr.mirrorLagExpire full
      (on = false ∨ z.state = .resync → nothing c) ∧
      (on = true → z.state = .standby → Completes c s (fun t => found t 3 0 ∧ quiet t ∧ t.red = unfit z)) ∧
      (on = true → z.state = .active →
        let late : Bool := match z.stream with | [] => false | m :: _ => s.dev.mirrors && (full || s.dev.past m.tick (250000 * s.dev.rd RED_LAG_MAX))
        (late = false → nothing c) ∧
        (late = true → ∃ x : Dev, Completes c s (· = x.dstPump) ∧ found x 3 0 ∧ quiet x ∧
          x.red = { z with unfit := true, stream := [], resyncing := false, finalHold := false } ∧ x.mirrors = false))) ∧
    (∀ p : Option PartnerRoot, let c := Instr.rootCompare p
      let all := match p with | none => z.roots | some q => z.roots ++ [{ own := false, epoch := q.epoch, typ := q.typ.val, amend := q.amend, root := q.root, digest := q.digest }]
      (on = false → nothing c) ∧
      (on = true → firstMeeting all all = none → act c { z with roots := all }) ∧
      (∀ a b, on = true → firstMeeting all all = some (a, b) →
        let left := { z with roots := all.filter fun x => x != a && x != b }
        (a.root = b.root → a.digest = b.digest → s.dev.mirrors = false → act c left) ∧
        (a.root = b.root → a.digest = b.digest → s.dev.mirrors = true → act c { left with nextSeq := z.nextSeq + 1, stream := z.stream ++ [{ seq := z.nextSeq, tick := now, item := .balState s.dev.bal.zones }] }) ∧
        (a.root ≠ b.root → a.digest = b.digest → Completes c s (fun t => found t 1 a.epoch ∧ quiet t ∧ t.red = unfit left)) ∧
        (a.root = b.root → a.digest ≠ b.digest → Completes c s (fun t => found t 2 a.epoch ∧ quiet t ∧ t.red = unfit left)) ∧
        (a.root ≠ b.root → a.digest ≠ b.digest → Completes c s (fun t => quiet t ∧ t.rd RED_MISMATCH_LAST = 2 ∧
          t.rd RED_MISMATCH_COUNT = satNat (s.dev.rd RED_MISMATCH_COUNT + 2) m32 ∧ t.red.roots = left.roots)))) ∧
    (∀ (left us : Nat) (copy : Option PairCopy), let c := Instr.resyncPass left us copy
      let w : Client := ⟨pRED, 0⟩
      let e := s.dev.request 12 w
      (on = false ∨ z.resyncing = false ∨ (z.state ≠ .active ∧ copy = none) → nothing c) ∧
      (on = true → z.resyncing = true → z.state = .active →
        (e.granted 12 w = false → Completes c s (· = e)) ∧
        (e.granted 12 w = true → Completes c s (· = Dev.giveBack
          { e with red := { z with copyLeft := left, finalHold := decide (us < s.dev.rd RED_FINAL_MAX) } } 12 w))) ∧
      (∀ k, on = true → z.resyncing = true → z.state ≠ .active → copy = some k → Completes c s (fun t => t.red = { z with copyLeft := left } ∧
        t.dst = k.dst ∧ t.trf = { k.trf with job := s.dev.trf.job } ∧ t.bal.zones = k.bal.zones ∧ t.ing.stations = k.stations ∧
        t.out = s.dev.out ∧ t.qry = s.dev.qry ∧ t.evq = s.dev.evq ∧ t.time = s.dev.time ∧
        (∀ f, k.firstSeq = some f → ∀ a ∈ t.epc.ashlars, a.sealSeq < f ∨ a.setNo.isSome = true)))) ∧
    (let c := Instr.redPairResyncDone
     (on = false ∨ z.resyncing = false → nothing c) ∧
     (on = true → z.resyncing = true → z.state = .active → act c { z with finalHold := false, resyncing := false, copyLeft := 0 }) ∧
     (on = true → z.resyncing = true → z.state ≠ .active → ∃ x : Dev, Completes c s (· = x.feedAll) ∧ quiet x ∧
       x.red = { z with state := .standby, armValid := true, suspectArm := false, resyncing := false, copyLeft := 0, causes := [] } ∧
       x.rd RED_RESYNC_COUNT = satNat (s.dev.rd RED_RESYNC_COUNT + 1) m32 ∧ same x [RED_RESYNC_COUNT, PG_EVT_PEND pRED] ∧
       ∃ e, x.evq = s.dev.evq ++ [e] ∧ e.event = 47))

/-- A warning with VIN under THR drives PFW_N low, raises event 0, counts, latches PWR_PF_STAT, aborts an armed keystone with cause 5, cancels every queued request and starts the panel's off sequence; FLUSH_DONE latches step 6, copies the time base to the RTC and completes the drive's writes; PF_RESET then needs VIN at THR + HYST. A brownout or POR is a FULL reset with its RST_CAUSE bit; power-up goes rail by rail; losing VBAT without VIN clears the plinth. A request of class 15 is BUSY while one is outstanding, else granted, or counted, mapped and queued behind its priority while OVER, a request of its priority or higher waits or its GRANT exceeds the headroom. A grant returned or a request withdrawn serves the queue from its head and stops at the first misfit. The first overdue QUEUED grant overruns: map, count, event 2 on 0 to 1. OVER starts above the effective ceiling and ends 5 % below it. Firmware's requests are stated of class 15, whose kind is QUEUED. Where the spec leaves a point open it is the model's reading: log entries 2, 26, 113, 114, 115. -/
def Obligations.SupplyAndGovernor : Prop :=
  ∀ (s : State) (r : Requester),
    let done := fun (c : Instr) (P : Dev → Prop) => (Awake s ∨ c.aboveLogic = true) → Completes c s P
    let z := s.dev.pwr
    let now := s.dev.time.ticks
    let nothing := fun (c : Instr) => done c (· = s.dev)
    let same := fun (t : Dev) (l : List Nat) => ∀ a, a ∉ l → t.rd a = s.dev.rd a
    let quiet := fun (t : Dev) => t.mem = s.dev.mem ∧ t.out = s.dev.out ∧ t.qry = s.dev.qry ∧ t.time = s.dev.time
    let counts := fun (t : Dev) (a : Nat) => t.rd a = satNat (s.dev.rd a + 1) m32
    let on : Bool := z.upStep != 0
    let grant := fun (c : Nat) => bitsOf (s.dev.clsCfg c) 27 16
    let prio := fun (c : Nat) => bitsOf (s.dev.clsCfg c) 3 1
    let served := fun (t : Dev) (grants queue : List Leave) (overD : Bool) => ∃ n, n ≤ queue.length ∧ t.pwr.queue = queue.drop n ∧
      t.pwr.grants = grants ++ (queue.take n).map (fun q => { cls := q.cls, who := q.who, since := now }) ∧
      (overD = true ∨ z.pfActive = true → n = 0) ∧
      (∀ q, t.pwr.queue.head? = some q → overD = true ∨ z.pfActive = true ∨ t.headroom < (bitsOf (t.clsCfg q.cls) 27 16 : Int)) ∧
      ((∀ q ∈ queue, q.cls < 16) → (∀ q ∈ grants, q.cls < 16) → ∀ k, k < n → ((grants ++ queue.take (k + 1)).foldl (fun m q => m + grant q.cls) 0 : Int) ≤
        (s.dev.ceilEff : Int) - s.dev.staticSum)
    (∀ vin, let c := Instr.pwrFailWarn vin
      let fires : Bool := !z.pfActive && on && decide (vin < 100 * s.dev.fld PWR_PFW 9 0)
      (fires = false → nothing c) ∧
      (fires = true → done c (fun t => t.pwr.pfActive = true ∧ t.pwr.pfTick = now ∧ t.pwr.pfwN = false ∧ t.pwr.flushDone = false ∧
        t.pwr.queue = [] ∧ t.pwr.vinMv = vin ∧ counts t PWR_PFW_COUNT ∧ t.rd PWR_PF_STAT = 9 ∧ t.time = s.dev.time ∧
        (∃ e l, t.evq = s.dev.evq ++ e :: l ∧ e.event = 0) ∧
        (s.dev.cmt.state = .armed ∨ s.dev.cmt.state = .quiescing → t.cmt.state = .staging ∧ t.rd CMT_STAT = 16 * 5 ∧ counts t CMT_ABORT_COUNT) ∧
        (s.dev.cmt.state ≠ .armed → s.dev.cmt.state ≠ .quiescing → t.cmt = s.dev.cmt) ∧
        t.dsp.st = (if s.dev.dsp.st = .rampUp ∨ s.dev.dsp.st = .run then .rampDown else s.dev.dsp.st) ∧
        (s.dev.runs pREC = true → s.dev.rcd.ready = true → t.rcd.cond = none)))) ∧
    (let flushing : Bool := z.pfActive && !z.flushDone
     (flushing = false → nothing .flushDone) ∧
     (flushing = true → done .flushDone (fun t => t.pwr = { z with flushDone := true, flushStep := 6 } ∧
       bitsOf (t.rd PWR_PF_STAT) 4 2 = 6 ∧ (t.rd PWR_PF_STAT).testBit 1 = true ∧ (t.rd PWR_PF_STAT).testBit 0 = (s.dev.rd PWR_PF_STAT).testBit 0 ∧
       (s.dev.cls ≠ .invalid → t.time.rtcValid = true ∧ t.time.rtcCount = nsToRtc s.dev.ext) ∧ (s.dev.cls = .invalid → t.time = s.dev.time) ∧
       (s.dev.bit NVS_STAT 1 = false → t.io.outstanding = [] ∧ t.io.nvsWait = []) ∧
       t.dsp.st = (if s.dev.dsp.st = .rampDown then (if s.dev.dsp.toFault = true then .fault else .off) else s.dev.dsp.st)))) ∧
    (∀ vin, let d : Dev := { s.dev with pwr := { z with vinMv := vin } }
      done (.pfReset vin) (· = if z.pfActive = true ∧ z.flushDone = true ∧ 100 * (s.dev.fld PWR_PFW 9 0 + s.dev.fld PWR_PFW 14 10) ≤ vin
        then d.resetTo false (2 ^ 2) else s.dev)) ∧
    ((on = false → nothing .brownout) ∧
     (on = true → done .brownout (fun t => t.pwr.upStep = 0 ∧ t.jtag = {} ∧ t.rd RST_CAUSE = s.dev.rd RST_CAUSE ||| 2 ∧
       (t.rd PWR_PF_STAT).testBit 9 = true ∧ t.red.driving = false ∧ t.red.state = .solo ∧ t.pwr.grants = [] ∧ t.pwr.pfwN = true ∧
       t.dsp.st = .off ∧ t.rst.fuse = s.dev.rst.fuse ∧
       (∃ d : Dev, t = { d.resetTo false 2 with pwr := { (d.resetTo false 2).pwr with upStep := 0 }, jtag := {} } ∧ d.mem = s.dev.mem ∧ d.time = s.dev.time)))) ∧
    (∀ vin, (on = true → nothing (.por vin)) ∧
      (on = false → done (.por vin) (fun t => t.pwr.upStep = 1 ∧ t.pwr.vinMv = vin ∧ t.rd RST_CAUSE = s.dev.rd RST_CAUSE ||| 1 ∧
        t.rst.phase = .inReset ∧ t.rst.fuse = s.dev.rst.fuse ∧ t.red.state = .solo ∧ t.jtag = s.dev.jtag))) ∧
    (∀ ok : Bool, done (.powerUpStep ok) (· = if z.upStep = 0 ∨ 7 ≤ z.upStep then s.dev
      else { s.dev with pwr := { z with upStep := if ok then z.upStep + 1 else 1 } })) ∧
    (∀ mv, (on = true ∨ 2000 ≤ mv → nothing (.vbatLoss mv)) ∧
      (on = false → mv < 2000 → done (.vbatLoss mv) (fun t => (∀ a ∈ plinthRegs, t.rd a = 0) ∧ same t plinthRegs ∧ t.pwr = { z with vbatMv := mv } ∧
        t.time.rtcValid = false ∧ t.time.rtcCount = 0 ∧ t.rst = { s.dev.rst with lcShadow := 0, vbatLost := true, tamperWaits := false } ∧
        t.mem = s.dev.mem ∧ t.out = s.dev.out))) ∧
    (∀ (c : Fin 16) (page : Fin 32) (tag : Nat),
      let mine := fun (g : Leave) => g.cls == c.val && g.who == ⟨page, tag⟩
      done (.leaveReturn c page tag) (fun t => quiet t ∧ t.evq = s.dev.evq ∧
        served t (z.grants.filter fun g => !mine g) (z.queue.filter fun g => !mine g) z.isOver)) ∧
    (s.dev.mayWrite r PWR_FW_CMD = true →
      let fw : Client := ⟨pPWR, 0⟩
      let has : Bool := z.grants.any fun g => g.cls == 15 && g.who == fw
      let waits : Bool := z.queue.any fun g => g.cls == 15 && g.who == fw
      let mine := fun (g : Leave) => g.cls == 15 && g.who == fw
      let new : Leave := { cls := 15, who := fw, since := now }
      let blocked := z.isOver = true ∨ (∃ q ∈ z.queue, prio q.cls ≤ prio 15) ∨ s.dev.headroom < (grant 15 : Int)
      (has = true ∨ waits = true → done (.fwRequest r) (fun t => quiet t ∧ t.pwr = z ∧ t.evq = s.dev.evq ∧ t.bus.cause = none ∧
        t.rd PWR_FW_STAT = b2n has + 2 * b2n waits + 16 ∧ same t [PWR_FW_STAT])) ∧
      (has = false → waits = false → (s.dev.en pPWR = false ∨ (z.pfActive = false ∧ ¬blocked)) → done (.fwRequest r) (fun t => quiet t ∧
        t.pwr = { z with grants := z.grants ++ [new] } ∧ t.evq = s.dev.evq ∧ counts t PWR_GRANT_COUNT ∧ t.rd PWR_FW_STAT = 1 ∧ t.bus.cause = none ∧
        same t [PWR_FW_STAT, PWR_GRANT_COUNT])) ∧
      (has = false → waits = false → s.dev.en pPWR = true → z.pfActive = true → done (.fwRequest r) (fun t => quiet t ∧ t.pwr = z ∧
        t.rd PWR_FW_STAT = 0 ∧ same t [PWR_FW_STAT])) ∧
      (has = false → waits = false → s.dev.en pPWR = true → z.pfActive = false → blocked → done (.fwRequest r) (fun t => quiet t ∧
        counts t PWR_DENY_COUNT ∧ t.rd PWR_DENY_MAP = s.dev.rd PWR_DENY_MAP ||| 2 ^ 15 ∧ t.rd PWR_FW_STAT = 2 ∧ t.pwr.grants = z.grants ∧
        (∃ a b, z.queue = a ++ b ∧ t.pwr.queue = a ++ new :: b ∧ (∀ q ∈ a, prio q.cls ≤ prio 15) ∧ ∀ q, b.head? = some q → prio 15 < prio q.cls) ∧
        ((s.dev.rd PWR_DENY_MAP).testBit 15 = true → t.evq = s.dev.evq) ∧
        ((s.dev.rd PWR_DENY_MAP).testBit 15 = false → ∃ e, t.evq = s.dev.evq ++ [e] ∧ e.event = 1))) ∧
      done (.fwReturn r) (fun t => quiet t ∧ t.evq = s.dev.evq ∧ t.bus.cause = none ∧
        served t (z.grants.filter fun g => !mine g) (z.queue.filter fun g => !mine g) z.isOver ∧ t.rd PWR_FW_STAT = 0)) ∧
    (let due := fun (g : Leave) => g.cls ∉ [0, 1, 2, 3, 4, 5, 14] ∧ g.overrun = false ∧ 250 * s.dev.rd (PWR_CLS_MAX g.cls) ≤ now - g.since
     ((s.dev.en pPWR = false ∨ ∀ g ∈ z.grants, ¬due g) → nothing .pwrLeaveOverrun) ∧
     (∀ a g b, z.grants = a ++ g :: b → (∀ x ∈ a, ¬due x) → due g → s.dev.en pPWR = true → done .pwrLeaveOverrun (fun t => quiet t ∧
       t.pwr = { z with grants := a ++ { g with overrun := true } :: b } ∧ counts t PWR_OVERRUN_COUNT ∧
       t.rd PWR_OVERRUN_MAP = (s.dev.rd PWR_OVERRUN_MAP ||| 2 ^ g.cls) % 2 ^ 32 ∧
       ((s.dev.rd PWR_OVERRUN_MAP).testBit g.cls = true → t.evq = s.dev.evq) ∧
       ((s.dev.rd PWR_OVERRUN_MAP).testBit g.cls = false → ∃ e, t.evq = s.dev.evq ++ [e] ∧ e.event = 2)))) ∧
    (∀ mean, let d : Dev := { s.dev with pwr := { z with pin := mean } }
      (z.isOver = true ∨ s.dev.en pPWR = false ∨ mean ≤ s.dev.ceilEff → done (.powerOver mean) (· = d)) ∧
      (z.isOver = false → s.dev.en pPWR = true → s.dev.ceilEff < mean → done (.powerOver mean) (fun t => quiet t ∧ t.evq = s.dev.evq ∧
        t.pwr = { d.pwr with isOver := true, overTick := now } ∧ same t [PWR_OVER_COUNT] ∧
        t.rd PWR_OVER_COUNT = satNat (s.dev.rd PWR_OVER_COUNT + s.dev.fld PWR_CEIL 31 24) m32)) ∧
      (z.isOver = false ∨ 95 * s.dev.ceilEff < 100 * mean → done (.powerOverEnd mean) (· = d)) ∧
      (z.isOver = true → 100 * mean ≤ 95 * s.dev.ceilEff → done (.powerOverEnd mean) (fun t => quiet t ∧ t.pwr.isOver = false ∧ t.pwr.pin = mean ∧
        served t z.grants z.queue false ∧ ((∀ q ∈ z.queue, q.cls < 16) →
          t.rd PWR_OVER_COUNT = satNat (s.dev.rd PWR_OVER_COUNT + (now - z.overTick) / 250000) m32))))

/-- A temperature above PWR_THERM.HIGH (in mK) sets THERM_DERATE and raises event 3, once until the derating ends; the grants outstanding are kept as they are, and none of them is marked as overrun. While THERM_DERATE is set the effective ceiling is the ceiling reduced by DERATE %, to the unit of 10 mW, and never below the sum of the static budgets where the ceiling itself is not; otherwise it is the ceiling; PWR_CEIL_EFF reads it. The derating ends when the temperature falls 5 K below HIGH, and not before. A junction above 125 degrees Celsius is a brownout reset. Where the spec leaves a point open it is the model's reading: log entries 2, 114. -/
def Obligations.ThermalDerating : Prop :=
  ∀ (s : State) (r : Requester) (temp : Int),
    let done := fun (c : Instr) (P : Dev → Prop) => (Awake s ∨ c.aboveLogic = true) → Completes c s P
    let z := s.dev.pwr
    let high : Int := 273150 + 1000 * (s.dev.fld PWR_THERM 7 0 : Int)
    let ceiling := if s.dev.fld PWR_CEIL 15 0 = 0 then roleMax s.dev.role else s.dev.fld PWR_CEIL 15 0
    let exact : Int := ceiling * (100 - min 100 (s.dev.fld PWR_THERM 15 8))
    (high < temp → z.thermDerate = false → done (.thermHigh temp) (fun t => t.pwr = { z with tempMk := temp, thermDerate := true } ∧
      (t.pgStat pPWR).testBit 3 = true ∧ (∃ e, t.evq = s.dev.evq ++ [e] ∧ e.event = 3) ∧ t.mem = s.dev.mem ∧ t.time = s.dev.time)) ∧
    ((temp ≤ high ∨ z.thermDerate = true) → done (.thermHigh temp) (· = { s.dev with pwr := { z with tempMk := temp } })) ∧
    ((high - 5000 < temp ∨ z.thermDerate = false) → done (.thermClear temp) (· = { s.dev with pwr := { z with tempMk := temp } })) ∧
    (temp ≤ high - 5000 → z.thermDerate = true → done (.thermClear temp) (fun t => t.pwr.thermDerate = false ∧ t.pwr.tempMk = temp ∧
      (∃ l, t.pwr.grants = z.grants ++ l) ∧ (z.queue = [] → t.pwr = { z with tempMk := temp, thermDerate := false } ∧ t.evq = s.dev.evq ∧ t.reg = s.dev.reg))) ∧
    (z.thermDerate = false → s.dev.ceilEff = ceiling) ∧
    (z.thermDerate = true → min ceiling s.dev.staticSum ≤ s.dev.ceilEff ∧ s.dev.ceilEff ≤ ceiling ∧
      (100 * (s.dev.staticSum : Int) ≤ exact - 100 → -100 < 100 * (s.dev.ceilEff : Int) - exact ∧ 100 * (s.dev.ceilEff : Int) - exact < 100)) ∧
    (s.dev.mayRead r PWR_CEIL_EFF = true → s.dev.takeLatch PWR_CEIL_EFF = none →
      Completes (.regWrite { req := r, addr := PWR_CEIL_EFF, width := 4, write := false, value := 0 }) s
        (fun t => t.bus.cause = none ∧ t.bus.data = satNat s.dev.ceilEff 0xFFFF)) ∧
    (398150 < temp → z.upStep ≠ 0 → done (.thermalReset temp) (fun t => t.pwr.upStep = 0 ∧ t.rd RST_CAUSE = s.dev.rd RST_CAUSE ||| 514 ∧
      (t.rd PWR_PF_STAT).testBit 9 = true ∧ t.red.driving = false ∧ t.red.state = .solo ∧ t.pwr.grants = [] ∧ t.rst.fuse = s.dev.rst.fuse)) ∧
    ((temp ≤ 398150 ∨ z.upStep = 0) → done (.thermalReset temp) (· = s.dev))

/-- A FULL or WARM reset sets its bit in RST_CAUSE, keeps the plinth, the fuses and the NOR and with WARM the DRAM, puts every other register, both SRAMs and every engine back to the reset state, draws a new nonce, and takes the calibration registers from the overlay under CAL_EN. CORE restarts the application cores and acts on RED as a lost kick. Losing the root makes the class INVALID, counts and raises event 4; after CLK_LOSS_TO it resets. Boot completes a begun life-cycle group, reloads the shadow, loads slots 0, 3 and 1, and starts the first acceptable bank in the order of RST_TRIAL, BOOT_SEL and PREF, or waits 60 s. The watchdog warns with event 56 and then resets with SCOPE. Where the spec leaves a point open it is the model's reading: log entries 2, 12, 13, 108, 109, 110, 115, 116, 118. -/
def Obligations.ResetsClocksBootAndWatchdog : Prop :=
  ∀ (s : State) (r : Requester),
    let done := fun (c : Instr) (P : Dev → Prop) => (Awake s ∨ c.aboveLogic = true) → Completes c s P
    let d := s.dev
    let now := d.time.ticks
    let nothing := fun (c : Instr) => done c (· = d)
    let same := fun (t : Dev) (l : List Nat) => ∀ a, a ∉ l → t.rd a = d.rd a
    let fresh := fun (d t : Dev) (warm : Bool) (cause : Nat) =>
      t.rd RST_CAUSE = d.rd RST_CAUSE ||| cause ∧
      (RegMap.rising d.reg.live = true → ∀ a ∈ plinthRegs, a ≠ RST_CAUSE → t.rd a = d.rd a) ∧
      (∀ a, a ∉ plinthRegs → a ∉ calRegs → (∀ i, i < 8 → a ≠ RST_LC_NONCE i) →
        a ∉ [EPC_SEAL_SEQ_LO, EPC_SEAL_SEQ_HI, EPC_SEALED_NO_LO, EPC_SEALED_NO_HI] → t.rd a = Dev.reset.rd a) ∧
      (∀ i, i < 8 → t.rd (RST_LC_NONCE i) = (Config.freeWord (d.free + i)).toNat) ∧
      (∀ a, a ∉ calRegs → t.rdShadow a = Dev.reset.rdShadow a) ∧ t.reg.dirty = [] ∧ t.reg.medium = [] ∧
      t.rst.fuse = d.rst.fuse ∧ t.rst.lcShadow = d.rst.lcShadow ∧ t.rst.phase = .inReset ∧ t.rst.warm = warm ∧ t.rst.authJob = none ∧
      t.red = { outsideLow := d.red.outsideLow } ∧ t.cmt = {} ∧ t.qry = {} ∧ t.key = {} ∧ t.obj = {} ∧ t.dst = {} ∧ t.rad = {} ∧ t.plc = {} ∧
      t.trk = {} ∧ t.upl = {} ∧ t.fb = {} ∧ t.dsp = {} ∧ t.evq = [] ∧ t.pwr.grants = [] ∧ t.pwr.queue = [] ∧ t.sys.secRunning = false ∧
      t.time.ticks = d.time.ticks ∧ t.time.rtcCount = d.time.rtcCount ∧ t.time.cls = .invalid ∧ t.out = d.out ∧
      (Memory.wf d.mem = true →
        (∀ a, t.ldByte a = if regionOf a = .norWindow ∨ (warm = true ∧ regionOf a = .dram) then d.ldByte a else Dev.reset.ldByte a) ∧
        ∀ a ∈ calRegs, t.rd a = if (d.bootCtl.2 && d.overlayOk) = true then (Config.overlayWord d.overlayBytes a).toNat else Dev.reset.rd a)
    let core := fun (t : Dev) (cause : Nat) => t.rd RST_CAUSE = d.rd RST_CAUSE ||| cause ∧ same t [RST_CAUSE] ∧ t.mem = d.mem ∧ t.key = d.key ∧
      t.cmt = d.cmt ∧ t.qry = d.qry ∧ t.rst = d.rst ∧ t.evq = d.evq ∧ t.sys.coreStarts = d.sys.coreStarts + 1 ∧ t.red.kicked = false ∧
      t.red.driving = false ∧ t.red.claim = none ∧
      t.red.state = (if d.red.state = .active ∨ d.red.state = .standby then .resync else d.red.state) ∧
      (d.red.state = .active ∨ d.red.state = .standby → t.red.armValid = false)
    done .pinReset (fresh d · false 8) ∧
    (s.dev.mayWrite r SYS_RST_CMD = true →
      done (.rstCore r) (core · 64) ∧ done (.rstWarm r) (fresh d · true 64) ∧ done (.rstFull r) (fresh d · false 64)) ∧
    (match d.rst.lcReset with
     | none => nothing .lcFuseReset
     | some t0 => (now < t0 + msTicks 1 → nothing .lcFuseReset) ∧ (t0 + msTicks 1 ≤ now → ∃ lc sh,
       (match d.rst.fuse.partialLc with | some x => lc = x ∧ sh = x | none => lc = d.rst.fuse.lc ∧ sh = d.rst.lcShadow) ∧
       done .lcFuseReset (fresh { d with rst := { d.rst with fuse := { d.rst.fuse with lc := lc, partialLc := none }, lcShadow := sh } } · false 128))) ∧
    ((d.clk.rootOk = false → nothing .clkRootLoss) ∧
     (d.clk.rootOk = true → done .clkRootLoss (fun t => t.time.cls = .invalid ∧ t.mem = d.mem ∧ t.qry = d.qry ∧ t.cmt = d.cmt ∧
       t.clk = { d.clk with rootOk := false, sysPll := false, onFallback := true, lossTick := now } ∧
       t.rd CLK_ROOT_LOSS_COUNT = satNat (d.rd CLK_ROOT_LOSS_COUNT + 1) m32 ∧ t.rad.mac.txEnd = min d.rad.mac.txEnd now ∧
       t.plc.mac.txEnd = min d.plc.mac.txEnd now ∧ ∃ l e, t.evq = d.evq ++ l ++ [e] ∧ e.event = 4))) ∧
    (let late := d.clk.lossTick + msTicks (d.rd CLK_LOSS_TO) ≤ now
     ((d.clk.rootOk = true ∨ late) → nothing .rootReturn) ∧
     (d.clk.rootOk = false → ¬late → done .rootReturn (fun t => t.clk = { d.clk with rootOk := true, sysPll := true, onFallback := false } ∧
       t.rd CLK_FALLBACK_US = satNat (d.rd CLK_FALLBACK_US + (now - d.clk.lossTick) / 250) m32 ∧ same t [CLK_FALLBACK_US] ∧
       t.time = d.time ∧ t.mem = d.mem ∧ t.evq = d.evq)) ∧
     ((d.clk.rootOk = true ∨ ¬late) → nothing .clkLossTimeout) ∧
     (d.clk.rootOk = false → late → done .clkLossTimeout (fun t => fresh d t false 16 ∧ t.clk = { d.clk with lossTick := now }))) ∧
    ((d.clk.dramPll = false → nothing .dramPllUnlock) ∧
     (d.clk.dramPll = true → done .dramPllUnlock (fun t => t.clk = { d.clk with dramPll := false } ∧ same t [CLK_DRAM_UNLOCK] ∧
       t.rd CLK_DRAM_UNLOCK = satNat (d.rd CLK_DRAM_UNLOCK + 1) m32 ∧ t.mem = d.mem ∧ t.evq = d.evq)) ∧
     done .dramPllRelock (· = { d with clk := { d.clk with dramPll := true } })) ∧
    (let order := fun (sel : Nat) =>
       let trial := d.rd RST_TRIAL
       let bank := bitNat trial 1
       if trial.testBit 0 = true then (if 0 < bitsOf trial 3 2 then (bank, 1 - bank) else (1 - bank, bank))
       else if sel = 1 then (1 - d.bootCtl.1, d.bootCtl.1) else (d.bootCtl.1, 1 - d.bootCtl.1)
     let head := fun (b : Nat) => ImgHead.ofBytes (d.ldBytes (bankBase b) 512)
     let banks := fun (lc sel : Nat) (t : Dev) =>
       let trial := d.rd RST_TRIAL
       let tries := bitsOf trial 3 2
       let good := fun (b : Nat) =>
         ({ d with rst := { d.rst with fuse := { d.rst.fuse with lc := lc, partialLc := none } } } : Dev).imgResult (bankBase b) false = 0
       let started := fun (b : Nat) => t.rst.phase = .running ∧ t.sys.secRunning = true ∧ t.rd SYS_BOOT_STAT % 2 = b ∧
         (t.rd SYS_BOOT_STAT).testBit 1 = (trial.testBit 0 && decide (0 < tries) && b == bitNat trial 1) ∧
         bitsOf (t.rd SYS_BOOT_STAT) 13 8 = (head b).svn ∧ t.rd SYS_BOOT_VER = (head b).version ∧ t.rd SYS_APP_VECTOR = (head b).appEntry ∧
         ((head b).secOff + (head b).secLen ≤ 0x8000000 → ∀ i, i < (head b).secLen →
           t.ldByte (0x18000000 + i) = d.ldByte (bankBase b + (head b).secOff + i))
       Memory.wf d.mem = true →
         (good (order sel).1 → started (order sel).1) ∧ (¬good (order sel).1 → good (order sel).2 → started (order sel).2) ∧
         (¬good (order sel).1 → ¬good (order sel).2 → t.rst.phase = .noBank ∧ t.rst.phaseTick = now ∧ t.sys.secRunning = d.sys.secRunning) ∧
         (trial.testBit 0 = false → t.rd RST_TRIAL = trial) ∧
         (trial.testBit 0 = true → 0 < tries → bitsOf (t.rd RST_TRIAL) 3 2 = tries - 1 ∧ t.rd RST_TRIAL % 4 = trial % 4) ∧
         (trial.testBit 0 = true → tries = 0 → (t.rd RST_TRIAL).testBit 0 = false ∧ t.rst.trialFailed = true)
     (∀ (sel : Fin 4) (rtc : Nat),
       let lc := d.rst.fuse.partialLc.getD d.rst.fuse.lc
       let shadow := d.rst.fuse.partialLc.getD d.rst.lcShadow
       ((d.rst.phase ≠ .inReset ∨ d.pwr.upStep < 7) → nothing (.bootRun sel rtc)) ∧
       (d.rst.phase = .inReset → 7 ≤ d.pwr.upStep → done (.bootRun sel rtc) (fun t =>
         t.rst.fuse = { d.rst.fuse with lc := lc, partialLc := none } ∧ t.rst.lcShadow = lc ∧ t.rst.bootSel = sel.val ∧
         (t.rd RST_LC).testBit 3 = (!d.rst.vbatLost && shadow != lc) ∧
         (lc = 5 → t.rst.phase = .holding ∧ t.key = d.key ∧ t.time = d.time ∧ t.mem = d.mem ∧ same t [RST_LC]) ∧
         (lc ≠ 5 →
           (t.slot 0).key = beBytes 32 (Config.rootKek (if lc ≤ 1 then 0 else if lc ≤ 3 then 1 else 2)).toNat ∧ (t.slot 0).alg = 1 ∧ (t.slot 0).usage = 2 ∧
           (t.slot 3).st = 1 ∧ (t.slot 3).key = beBytes 32 Config.derivationRoot.toNat ∧ (lc ≠ 0 → (t.slot 1).st = 1 ∧ (t.slot 1).alg = 2) ∧
           (d.time.rtcValid = true → t.time.cls = .rtcOnly ∧ t.time.rtcCount = max rtc d.time.rtcCopyCount) ∧
           (d.time.rtcValid = false → t.time.cls = .invalid ∧ t.time.wrap = 0 ∧ t.time.acc = 0) ∧
           (d.rst.vbatLost = true → t.rd RST_TAMPER % 4 = 3 ∧ (t.rd PWR_PF_STAT).testBit 8 = true) ∧
           (d.rst.tamperWaits = true → (∃ e ∈ t.evq, e.event = 57) ∧ t.ing.tamperExt = some t.ext ∧ (d.bit RST_TAMPER_CFG 0 = true → lc = 2 ∨ lc = 3 →
             (∀ n, 4 ≤ n → n < 256 → (t.slot n).st = 0) ∧ t.key.cache = [])) ∧
           t.rst.vbatLost = false ∧ t.rst.tamperWaits = false ∧ t.io.initBusy = !d.rst.warm ∧
           (sel.val = 2 → lc ∈ [0, 1, 4] → t.rst.phase = .holding ∧ t.sys.secRunning = d.sys.secRunning) ∧
           (¬(sel.val = 2 ∧ lc ∈ [0, 1, 4]) → banks lc sel.val t))))) ∧
     ((d.rst.phase ≠ .noBank ∨ now < d.rst.phaseTick + msTicks 60000) → nothing .bootRetry) ∧
     (d.rst.phase = .noBank → d.rst.phaseTick + msTicks 60000 ≤ now → done .bootRetry (banks d.rst.fuse.lc d.rst.bootSel))) ∧
    (s.dev.mayWrite r SYS_WDT_KICK = true → ∀ v : Word, done (.wdtKick r v) (fun t => same t [] ∧ t.mem = d.mem ∧ t.evq = d.evq ∧ t.bus.cause = none ∧
      ((v = 0xC3A5 ∧ (r.role = .sys ∨ r.role = .sec)) → t.sys = { d.sys with wdtTick := now, wdtWarned := false, wdtHeld := d.sys.wdtHeld.map (fun _ => now) }) ∧
      (¬(v = 0xC3A5 ∧ (r.role = .sys ∨ r.role = .sec)) → t.sys = d.sys))) ∧
    (let counts := (d.rd SYS_WDT_CFG).testBit 31 = true ∧ d.sys.secRunning = true ∧ d.sys.wdtHeld = none
     let warns := counts ∧ d.sys.wdtWarned = false ∧ msTicks (d.fld SYS_WDT_CFG 15 0) ≤ now - d.sys.wdtTick
     let bites := counts ∧ d.sys.wdtWarned = true ∧ msTicks (10 * d.fld SYS_WDT_CFG 23 16) ≤ now - d.sys.wdtTick
     (¬warns → nothing .wdtWarn) ∧
     (warns → done .wdtWarn (fun t => t.sys = { d.sys with wdtTick := now, wdtWarned := true } ∧ t.mem = d.mem ∧ t.time = d.time ∧
       t.rd SYS_WDT_WARN_COUNT = satNat (d.rd SYS_WDT_WARN_COUNT + 1) m32 ∧ ∃ e, t.evq = d.evq ++ [e] ∧ e.event = 56)) ∧
     (¬bites → nothing .wdtBite) ∧
     (bites → done .wdtBite (fun t => match d.fld SYS_WDT_CFG 25 24 with
       | 0 => fresh d t true 32
       | 1 => fresh d t false 32
       | 2 => core t 32
       | _ => t = { d with sys := { d.sys with wdtTick := now, wdtWarned := false } })))

/-- A qualifying low on TAMPER_N sets the latch and stores the RTC time once, raises event 57 with VIN present or leaves it for the next start-up, and under ZEROISE in PROVISIONED or DEPLOYED wipes slots 4 to 255 and the cache; the latch clears only while TAMPER_N is high. LC_AUTH_GO draws a new nonce and verifies against the old one; AUTH_OK needs an owner's key that is not revoked. Owner keys are programmed once and never the last one revoked; the fused SVN only rises, to the running image's at most. The NOR refuses a protected address, a missing grant and misalignment in that order; erased bytes read FF, and a programmed bit goes from 1 to 0. An image and a microcode package report the first check that fails. Where the spec leaves a point open it is the model's reading: log entries 8, 108, 109, 111, 112, 115. -/
def Obligations.TamperLifeCycleAndUpdate : Prop :=
  ∀ (s : State) (r : Requester),
    let done := fun (c : Instr) (P : Dev → Prop) => (Awake s ∨ c.aboveLogic = true) → Completes c s P
    let d := s.dev
    let nothing := fun (c : Instr) => done c (· = d)
    let same := fun (t : Dev) (l : List Nat) => ∀ a, a ∉ l → t.rd a = d.rd a
    let quiet := fun (t : Dev) => t.mem = d.mem ∧ t.out = d.out ∧ t.evq = d.evq ∧ t.time = d.time ∧ t.key = d.key ∧ t.cmt = d.cmt
    let ok := fun (t : Dev) => t.bus.cause = none
    let f := d.rst.fuse
    (let e : Dev := { d with rst := { d.rst with tamperPinHigh := false } }
     let wipes := d.bit RST_TAMPER_CFG 0 = true ∧ (d.lc = 2 ∨ d.lc = 3)
     (d.bit RST_TAMPER 0 = true → done .tamperEdge (· = e)) ∧
     (d.bit RST_TAMPER 0 = false → done .tamperEdge (fun t => (t.rd RST_TAMPER).testBit 0 = true ∧ t.rst.tamperPinHigh = false ∧
       t.rd64 RST_TAMPER_T_LO = rtcToNs d.rtcNow % 2 ^ 64 ∧ t.mem = d.mem ∧ t.time = d.time ∧
       (d.pwr.upStep = 0 → t.rst.tamperWaits = true ∧ t.evq = d.evq ∧ t.key = d.key ∧ same t [RST_TAMPER, RST_TAMPER_T_LO, RST_TAMPER_T_HI]) ∧
       (d.pwr.upStep ≠ 0 → t.ing.tamperExt = some d.ext ∧ (∃ l x, t.evq = d.evq ++ l ++ [x] ∧ x.event = 57) ∧
         (wipes → (t.rd RST_TAMPER).testBit 2 = true ∧ (∀ n, 4 ≤ n → n < 256 → (t.slot n).st = 0) ∧ t.key.cache = []) ∧
         (¬wipes → t.key = d.key ∧ (t.rd RST_TAMPER).testBit 2 = (d.rd RST_TAMPER).testBit 2))))) ∧
    (s.dev.mayWrite r RST_TAMPER_CLR = true →
      done (.tamperClr r true) (fun t => quiet t ∧ ok t ∧ (∀ a ∈ [RST_TAMPER, RST_TAMPER_T_LO, RST_TAMPER_T_HI], t.rd a = 0) ∧
        same t [RST_TAMPER, RST_TAMPER_T_LO, RST_TAMPER_T_HI] ∧ t.rst = { d.rst with tamperPinHigh := true }) ∧
      done (.tamperClr r false) (fun t => quiet t ∧ ok t ∧ same t [] ∧ t.rst = { d.rst with tamperPinHigh := false })) ∧
    (s.dev.mayWrite r RST_LC_AUTH_CMD = true → ∀ target : Fin 8, done (.lcAuthGo r target) (fun t => quiet t ∧ ok t ∧ t.rd RST_LC_STAT = 1 ∧
      t.rst = { d.rst with authJob := some (target.val, d.rd64 RST_LC_AUTH_LO, (List.range 8).flatMap fun i => leBytes 4 (d.rd (RST_LC_NONCE i))) } ∧
      (∀ i, i < 8 → t.rd (RST_LC_NONCE i) = (Config.freeWord (d.free + i)).toNat) ∧ t.free = d.free + 8 ∧
      same t (RST_LC_STAT :: (List.range 8).map RST_LC_NONCE))) ∧
    (match d.rst.authJob with
     | none => nothing .lcAuthDone
     | some (target, a, nonce) => done .lcAuthDone (fun t => quiet t ∧ t.rst = { d.rst with authJob := none } ∧ same t [RST_LC_STAT] ∧
       let pub := d.ldBytes a 64
       let valid := (∃ i, i < 4 ∧ Assoc.get [] f.owners i = sha256 pub ∧ Assoc.get [] f.owners i ≠ [] ∧ f.revoked.testBit i = false) ∧
         ecdsaVerify pub (sha256 (leBytes 8 (d.rd64 RMC_EUI_LO) ++ leBytes 1 target ++ nonce)) (d.ldBytes (a + 64) 64) = true
       (valid → t.rd RST_LC_STAT = (2 + 4 * target) % 2 ^ 32) ∧ (¬valid → t.rd RST_LC_STAT = 0))) ∧
    (s.dev.mayWrite r RST_OWNER_CMD = true → ∀ i : Fin 4,
      let src := d.rd64 RST_OWNER_SRC_LO
      let hash := if inDram src 32 = true then d.ldBytes src 32 else d.freeBytes 32
      let others := ∃ j, j < 4 ∧ j ≠ i.val ∧ Assoc.get [] f.owners j ≠ [] ∧ f.revoked.testBit j = false
      done (.ownerProgram r i) (fun t => quiet t ∧ ok t ∧ same t [RST_OWNER_STAT] ∧
        (3 ≤ d.lc → t.rd RST_OWNER_STAT = 512 ∧ t.rst = d.rst) ∧
        (d.lc < 3 → Assoc.get [] f.owners i ≠ [] → t.rd RST_OWNER_STAT = 1536 ∧ t.rst = d.rst) ∧
        (d.lc < 3 → Assoc.get [] f.owners i = [] → t.rd RST_OWNER_STAT = 0 ∧ Assoc.get [] t.rst.fuse.owners i = hash ∧
          (∀ j, j ≠ i.val → Assoc.get [] t.rst.fuse.owners j = Assoc.get [] f.owners j) ∧ t.rst.fuse.revoked = f.revoked ∧ t.rst.fuse.lc = f.lc ∧
          t.rst.fuse.svn = f.svn)) ∧
      done (.ownerRevoke r i) (fun t => quiet t ∧ ok t ∧ same t [RST_OWNER_STAT] ∧
        (d.lc = 0 ∨ d.lc = 5 → t.rd RST_OWNER_STAT = 512 ∧ t.rst = d.rst) ∧
        (d.lc ≠ 0 → d.lc ≠ 5 → f.revoked.testBit i = true → t.rd RST_OWNER_STAT = 1536 ∧ t.rst = d.rst) ∧
        (d.lc ≠ 0 → d.lc ≠ 5 → f.revoked.testBit i = false → ¬others → t.rd RST_OWNER_STAT = 1024 ∧ t.rst = d.rst) ∧
        (d.lc ≠ 0 → d.lc ≠ 5 → f.revoked.testBit i = false → others → t.rd RST_OWNER_STAT = 0 ∧
          t.rst = { d.rst with fuse := { f with revoked := f.revoked ||| 2 ^ i.val } }))) ∧
    (s.dev.mayWrite r RST_SVN_CMD = true → ∀ n : Fin 64, done (.svnGo r n) (fun t => quiet t ∧ ok t ∧ same t [] ∧
      t.rst = { d.rst with fuse := { f with svn := if f.svn < n.val ∧ n.val ≤ bitsOf (d.rd SYS_BOOT_STAT) 13 8 then n.val else f.svn } })) ∧
    (s.dev.mayWrite r SYS_NOR_CMD = true →
      let off := d.rd SYS_NOR_ADDR % 0x20000000
      let prot := (d.rst.phase = .running ∧ off / 0x8000000 = d.rd SYS_BOOT_STAT % 2) ∨ (0x11000000 ≤ off ∧ off < 0x1D000000)
      let leave := ∃ g ∈ d.pwr.grants, g.cls = 15 ∧ g.who = ⟨pPWR, 0⟩
      let rule := fun (c : Instr) (op unit : Nat) =>
        (d.sys.norJob ≠ none → done c (· = d.violate r SYS_NOR_CMD 7 true)) ∧
        (d.sys.norJob = none → done c (fun t => quiet t ∧ ok t ∧ same t [SYS_NOR_STAT] ∧
          (prot → t.rd SYS_NOR_STAT = 2 ∧ t.sys = d.sys) ∧ (¬prot → ¬leave → t.rd SYS_NOR_STAT = 4 ∧ t.sys = d.sys) ∧
          (¬prot → leave → off % unit ≠ 0 → t.rd SYS_NOR_STAT = 6 ∧ t.sys = d.sys) ∧
          (¬prot → leave → off % unit = 0 → t.rd SYS_NOR_STAT = 1 ∧ t.sys = { d.sys with norJob := some (op, off, d.rd64 SYS_NOR_SRC_LO) })))
      rule (.norErase r) 1 65536 ∧ rule (.norProgram r) 2 256) ∧
    (match d.sys.norJob with
     | none => nothing .norOpDone
     | some (op, off, src) =>
       let a := 0xC0000000 + off
       let want := if inDram src 256 = true then d.ldBytes src 256 else d.freeBytes 256
       let took := List.zipWith (fun (x y : Byte) => x &&& y) (d.ldBytes a 256) want = want
       Memory.wf d.mem = true → done .norOpDone (fun t => t.sys = { d.sys with norJob := none } ∧ t.evq = d.evq ∧ t.rst = d.rst ∧ t.key = d.key ∧
         (op = 1 → off + 65536 ≤ 0x20000000 → t.rd SYS_NOR_STAT = 0 ∧ same t [SYS_NOR_STAT] ∧
           ∀ x, t.ldByte x = if a ≤ x ∧ x < a + 65536 then 0xFF else d.ldByte x) ∧
         (op ≠ 1 → (∀ x, (x < a ∨ a + 256 ≤ x) → t.ldByte x = d.ldByte x) ∧
           (∀ i, i < 256 → t.ldByte (a + i) = d.ldByte (a + i) &&& want.getD i 0) ∧
           (took → t.rd SYS_NOR_STAT = 0 ∧ same t [SYS_NOR_STAT]) ∧
           (¬took → t.rd SYS_NOR_STAT = 8 ∧ t.rd SYS_NOR_FAIL_COUNT = satNat (d.rd SYS_NOR_FAIL_COUNT + 1) m32 ∧
             same t [SYS_NOR_STAT, SYS_NOR_FAIL_COUNT])))) ∧
    (s.dev.mayWrite r SYS_IMG_CMD = true → ∀ bank : Bool,
      (d.sys.imgJob ≠ none → done (.imgVerify r bank) (· = d.violate r SYS_IMG_CMD 7 true)) ∧
      (d.sys.imgJob = none → done (.imgVerify r bank) (fun t => quiet t ∧ ok t ∧ t.rd SYS_IMG_STAT = 1 ∧ same t [SYS_IMG_STAT] ∧
        t.sys = { d.sys with imgJob := some bank.toNat }))) ∧
    (let verdict := fun (a code : Nat) (package : Bool) =>
       let h := ImgHead.ofBytes (d.ldBytes a 512)
       let form := h.magic = 0x384E5243 ∧ h.format = 1 ∧ h.svn ≤ 63 ∧ 1 ≤ h.length ∧ h.length ≤ 134217216 ∧
         (package = true → h.secLen = 0) ∧
         (package = false → h.secLen ≤ 196608 ∧ (regionOf h.appEntry = .norWindow ∨ regionOf h.appEntry = .coreSram ∨ regionOf h.appEntry = .dram))
       let key := (d.lc ≤ 1 → h.keyIdx = 0xFF ∧ h.pubkey = beBytes 64 Config.factoryKey.toNat) ∧
         (2 ≤ d.lc → d.lc ≤ 4 ∧ h.keyIdx ≤ 3 ∧ Assoc.get [] f.owners h.keyIdx = sha256 h.pubkey ∧ f.revoked.testBit h.keyIdx = false)
       (¬form → code = 1) ∧ (form → ¬key → code = 2) ∧ (form → key → h.svn < f.svn → code = 3) ∧
       (form → key → f.svn ≤ h.svn → ecdsaVerify h.pubkey (sha256 h.signed) h.sig = false → code = 4) ∧
       (form → key → f.svn ≤ h.svn → ecdsaVerify h.pubkey (sha256 h.signed) h.sig = true →
         code = if sha256 (d.ldBytes (a + 512) h.length) = h.digest then 0 else 5)
     (match d.sys.imgJob with
      | none => nothing .imgVerifyDone
      | some b => done .imgVerifyDone (fun t => quiet t ∧ t.sys = { d.sys with imgJob := none } ∧ same t [SYS_IMG_STAT] ∧
        (t.rd SYS_IMG_STAT).testBit 0 = false ∧ bitsOf (t.rd SYS_IMG_STAT) 13 8 = (d.ldByte (0xC0000000 + 0x8000000 * b + 7)).toNat % 64 ∧
        verdict (0xC0000000 + 0x8000000 * b) (bitsOf (t.rd SYS_IMG_STAT) 4 1) false)) ∧
     (s.dev.mayWrite r SYS_UC_CMD = true →
       (d.sys.ucJob ≠ none → done (.ucLoad r) (· = d.violate r SYS_UC_CMD 7 true)) ∧
       (d.sys.ucJob = none → done (.ucLoad r) (fun t => quiet t ∧ ok t ∧ t.rd SYS_UC_STAT = 1 ∧ same t [SYS_UC_STAT] ∧
         t.sys = { d.sys with ucJob := some (d.rd64 SYS_UC_ADDR_LO) }))) ∧
     (match d.sys.ucJob with
      | none => nothing .ucLoadDone
      | some a => ∃ code, verdict a code true ∧
        let h := ImgHead.ofBytes (d.ldBytes a 512)
        let e := h.appEntry
        let live := (d.rd SYS_UC_SEL).testBit e
        done .ucLoadDone (fun t => quiet t ∧ t.sys = { d.sys with ucJob := none } ∧ bitsOf (t.rd SYS_UC_STAT) 15 8 = e % 256 ∧
          (code = 0 → e < 8 → (d.mrd SYS_UC_SEL).testBit e = live → bitsOf (t.rd SYS_UC_STAT) 3 0 = 0 ∧
            t.rd (if live = true then SYS_UC_VER0 e else SYS_UC_VER1 e) = h.version ∧
            same t [SYS_UC_STAT, if live = true then SYS_UC_VER0 e else SYS_UC_VER1 e]) ∧
          ((code ≠ 0 ∨ 8 ≤ e ∨ (d.mrd SYS_UC_SEL).testBit e ≠ live) → same t [SYS_UC_STAT]) ∧
          (code = 3 → bitsOf (t.rd SYS_UC_STAT) 3 0 = 4) ∧ (code ∈ [1, 2, 4, 5] → bitsOf (t.rd SYS_UC_STAT) 3 0 = 2) ∧
          (code = 0 → 8 ≤ e → bitsOf (t.rd SYS_UC_STAT) 3 0 = 6) ∧
          (code = 0 → e < 8 → (d.mrd SYS_UC_SEL).testBit e ≠ live → bitsOf (t.rd SYS_UC_STAT) 3 0 = 8))))

/-- RESTORE_FACTORY stages every calibration register's fused value and OVERLAY_EN = 0. A write of SYS_MBOX_TO_APP raises event 59, one of SYS_MBOX_TO_SEC interrupts the security core. Memory initialisation ends into scrubbing; corrected words count, with event 50 once per period when the count grew; an uncorrectable word is recorded with event 51 and stops the engine that read it. An NVMe completion retires the oldest command, an error or a timeout stops NVS with event 53, and mirror acknowledgements that are durable go out. LINK_UP changes raise event 54. The panel switches on rail by rail, copies the buffer at a frame start, counts frames with event 48, goes dark in order, and a rail's fault ends in FAULT with event 49. The test port selects by code and life-cycle state; leaving a hold, and RESET, are FULL resets. Where the spec leaves a point open it is the model's reading: log entries 2, 76, 107, 109, 110, 117, 119, 124. -/
def Obligations.MemoryDrivePanelAndTestPort : Prop :=
  ∀ (s : State) (r : Requester),
    let done := fun (c : Instr) (P : Dev → Prop) => (Awake s ∨ c.aboveLogic = true) → Completes c s P
    let d := s.dev
    let now := d.time.ticks
    let nothing := fun (c : Instr) => done c (· = d)
    let same := fun (t : Dev) (l : List Nat) => ∀ a, a ∉ l → t.rd a = d.rd a
    let quiet := fun (t : Dev) => t.mem = d.mem ∧ t.out = d.out ∧ t.time = d.time ∧ t.key = d.key ∧ t.qry = d.qry
    let counts := fun (t : Dev) (a n : Nat) => t.rd a = satNat (d.rd a + n) m32
    let event := fun (t : Dev) (n : Nat) => ∃ e, t.evq = d.evq ++ [e] ∧ e.event = n
    let ok := fun (t : Dev) => t.bus.cause = none
    (s.dev.mayWrite r SYS_CAL_CMD = true →
      ((d.setLockedKs = true ∨ d.othersSet r = true) → done (.restoreFactory r) (· = d.violate r SYS_CAL_CMD COMMIT_LOCK true)) ∧
      (d.setLockedKs = false → d.othersSet r = false → done (.restoreFactory r) (fun t => quiet t ∧ ok t ∧ t.cmt.owner = some r ∧
        t.cmt.state = .staging ∧ same t [CMT_CHECK_RESULT] ∧ t.rdShadow SYS_CAL = 0 ∧ SYS_CAL ∈ t.reg.dirty ∧
        (∀ a ∈ calRegs, ∀ x, d.stagedDesc a = some x → a ∈ t.reg.dirty ∧ t.rdShadow a = stageMask x a (Config.calWord a).toNat % 2 ^ 32) ∧
        (∀ a, a ∉ calRegs → a ≠ SYS_CAL → t.rdShadow a = d.rdShadow a ∧ (a ∈ t.reg.dirty ↔ a ∈ d.reg.dirty))))) ∧
    (∀ v : Word,
      (s.dev.mayWrite r SYS_MBOX_TO_APP = true → done (.sysMailbox r v) (fun t => quiet t ∧ ok t ∧ t.rd SYS_MBOX_TO_APP = v.toNat ∧ event t 59)) ∧
      (s.dev.mayWrite r SYS_MBOX_TO_SEC = true → done (.mboxToSecWrite r v) (fun t => quiet t ∧ ok t ∧ t.rd SYS_MBOX_TO_SEC = v.toNat ∧
        t.evq = d.evq ∧ same t [SYS_MBOX_TO_SEC] ∧ t.sys = { d.sys with secIrqs := d.sys.secIrqs + 1 })) ∧
      (s.dev.mayWrite r SYS_APP_RUN = true → done (.appRunWrite r v) (fun t => quiet t ∧ ok t ∧ t.rd SYS_APP_RUN = v.toNat % 16 ∧
        t.evq = d.evq ∧ same t [SYS_APP_RUN] ∧ t.sys = d.sys))) ∧
    ((d.io.initBusy = false → nothing .memInitDone) ∧
     (d.io.initBusy = true → done .memInitDone (· = { d with io := { d.io with initBusy := false, scrubbing := (d.rd MEM_SCRUB).testBit 0 } })) ∧
     (∀ n : Nat, done (.memEccCorrSummary n) (fun t => quiet t ∧ counts t MEM_CORR_COUNT n ∧
       let due := d.io.summaryTick + 250000000 * d.rd MEM_SUMMARY_S ≤ now
       let grew := if t.rd MEM_CORR_COUNT < d.io.summaryCount then 0 < t.rd MEM_CORR_COUNT else d.io.summaryCount < t.rd MEM_CORR_COUNT
       (¬due → t.io = d.io ∧ t.evq = d.evq ∧ same t [MEM_CORR_COUNT]) ∧
       (due → t.io = { d.io with summaryTick := now, summaryCount := t.rd MEM_CORR_COUNT } ∧ (grew → event t 50) ∧ (¬grew → t.evq = d.evq)))) ∧
     (∀ (a : Nat) (p : Option (Fin 32)),
       (inDram a 1 = false → nothing (.memEccUncorr a p)) ∧
       (inDram a 1 = true → done (.memEccUncorr a p) (fun t => quiet t ∧ t.rd64 MEM_UNCORR_ADDR_LO = a - a % 8 ∧ counts t MEM_UNCORR_COUNT 1 ∧
         event t 51 ∧ ∀ q, t.io.stopped.testBit q = (d.io.stopped.testBit q || p.map (·.val) == some q))))) ∧
    (let stopped := (d.rd NVS_STAT).testBit 1
     let acks := fun (t : Dev) =>
       let sent := d.red.journalWaits.takeWhile fun w => decide (w.write ≤ t.io.jrnDone)
       t.red = { d.red with
         journalWaits := d.red.journalWaits.dropWhile (fun w => decide (w.write ≤ t.io.jrnDone)), ackedSeq := sent.getLast?.elim d.red.ackedSeq (·.seq) } ∧
       (sent = [] → t.out = d.out)
     let still := fun (t : Dev) => t.io = d.io ∧ t.reg = d.reg ∧ t.pwr = d.pwr ∧ t.evq = d.evq ∧ t.mem = d.mem
     let rule := fun (io : IoSt) =>
       (∀ status, stopped = false → done (.nvsCompletion status) (fun t => acks t ∧ t.mem = d.mem ∧ t.time = d.time ∧
         (io.outstanding = [] → t.io = io ∧ t.evq = d.evq ∧ t.reg = d.reg) ∧
         (∀ c rest, io.outstanding = c :: rest →
           (status ≠ 0 → t.io = io ∧ event t 53 ∧ (t.rd NVS_STAT).testBit 1 = true ∧ bitsOf (t.rd NVS_STAT) 31 16 = status % 65536) ∧
           (status = 0 → t.evq = d.evq ∧ t.io = { io with outstanding := rest, jrnDone := io.jrnDone + (if c.kind = .journal then 1 else 0) } ∧
             (rest = [] → ∀ g ∈ t.pwr.grants, ¬(g.cls = 13 ∧ g.who = ⟨pNVS, 0⟩)) ∧ (rest ≠ [] → t.pwr = d.pwr ∧ t.reg = d.reg))))) ∧
       (stopped = false → done .nvsTimeout (fun t => t.io = io ∧ t.red = d.red ∧ t.mem = d.mem ∧ t.pwr = d.pwr ∧
         ((∀ c, io.outstanding.head? = some c → now < c.tick + msTicks (d.rd NVS_TMO)) → t.evq = d.evq ∧ t.reg = d.reg) ∧
         (∀ c, io.outstanding.head? = some c → c.tick + msTicks (d.rd NVS_TMO) ≤ now → event t 53 ∧ (t.rd NVS_STAT).testBit 1 = true ∧
           bitsOf (t.rd NVS_STAT) 31 16 = 0)))
     (stopped = true → (∀ status, done (.nvsCompletion status) (fun t => acks t ∧ still t)) ∧ nothing .nvsTimeout) ∧
     (d.io.nvsWait = [] → rule d.io) ∧
     (d.io.nvsWait ≠ [] → stopped = false → d.io.outstanding = [] → d.starts pNVS = false ∨ d.queuedFor 13 ⟨pNVS, 0⟩ = true → d.granted 13 ⟨pNVS, 0⟩ = false →
       (∀ status, done (.nvsCompletion status) (fun t => acks t ∧ still t)) ∧ nothing .nvsTimeout) ∧
     (d.io.nvsWait ≠ [] → d.starts pNVS = true → ∀ g, (d.pwr.grants.find? fun g => g.cls == 13 && g.who == ⟨pNVS, 0⟩) = some g →
       rule { d.io with nvsWait := [], outstanding := d.io.outstanding ++ d.io.nvsWait.map fun c => { c with tick := max c.tick g.since } })) ∧
    (∀ (up : Bool) (rate width : Fin 4) (gb : Nat),
      let up' : Bool := up && d.en pPCI && (d.rd PCI_CFG).testBit 0
      done (.pciLink up rate width gb) (fun t => quiet t ∧ t.io = { d.io with linkUp := up', driveGb := if up' = true then gb else 0 } ∧
        t.rd PCI_STAT = (if up' = true then 1 + 2 * min rate.val (d.fld PCI_CFG 2 1) + 8 * width.val else 0) ∧
        (d.io.linkUp ≠ up' → event t 54) ∧ (d.io.linkUp = up' → t.evq = d.evq ∧ same t [PCI_STAT]))) ∧
    (match d.io.perstTick with
     | none => nothing .perstRelease
     | some t0 => done .perstRelease (· = if t0 + msTicks 100 ≤ now then { d with io := { d.io with perstHigh := true } } else d)) ∧
    (let z := d.dsp
     let runs := d.runs pDSP = true
     let applied := fun (t : Dev) => ∀ h ∈ t.reg.medium, onPage pDSP h.addr = false
     let hz := d.fld DSP_RATE 6 0
     let dark := { z with st := .rampDown, offTick := now, discharged := false, frame := none }
     ((z.st ≠ .run ∨ z.frame ≠ none ∨ ¬runs) → nothing .dspFrameStart) ∧
     (z.st = .run → z.frame = none → runs → done .dspFrameStart (fun t => applied t ∧ t.reg.live = d.reg.live ∧ t.mem = d.mem ∧ t.evq = d.evq ∧
       (hz = 0 → t.dsp = dark ∧ t.out = d.out) ∧
       (hz ≠ 0 →
         let sel := (d.rd DSP_FB_SEL).testBit 0
         let store := d.ldBytes (if sel = true then d.rd64 DSP_FB1_BASE_LO else d.rd64 DSP_FB0_BASE_LO) 3072
         let cols := d.fld DSP_GEOM 7 0
         let rows := d.fld DSP_GEOM 13 8
         t.dsp = { z with store := store, shown := sel, frame := some now } ∧
         ∃ p, t.out = d.out ++ [p] ∧ p.port = .panel ∧ p.bytes.length = rows * cols ∧ ∀ com seg, com < rows → seg < cols →
           p.bytes.getD (com * cols + seg) 0 = BitVec.ofNat 8 (pixelOf store (if (d.rd DSP_GEOM).testBit 16 = true then cols - 1 - seg else seg)
             (if (d.rd DSP_GEOM).testBit 17 = true then rows - 1 - com else com))))) ∧
     (let period := 25 * frameCycles (bitsOf (d.gov DSP_RATE) 6 0)
      ((z.st ≠ .run ∨ ¬runs ∨ ∀ t0, z.frame = some t0 → now < t0 + period) → nothing .dspFrameDone) ∧
      (∀ t0, z.st = .run → runs → z.frame = some t0 → t0 + period ≤ now → done .dspFrameDone (fun t => quiet t ∧ t.dsp = { z with frame := none } ∧
        t.rd DSP_FRAME_NO = (d.rd DSP_FRAME_NO + 1) % 2 ^ 32 ∧ counts t DSP_FRAME_COUNT 1 ∧ event t 48))) ∧
     ((z.st ≠ .rampUp ∨ ¬runs) → nothing .panelRailUp) ∧
     (z.st = .rampUp → runs → done .panelRailUp (· = { d with dsp := if z.step < 4 then { z with step := z.step + 1 } else { z with
       step := 5, rstHigh := true, st := .run } })) ∧
     (let off := d.en pDSP = false ∨ bitsOf (d.gov DSP_RATE) 6 0 = 0 ∨ d.pwr.pfActive = true
      let waited := z.offTick + msTicks (bitsOf (d.gov DSP_PHASE) 19 16) ≤ now
      (z.st = .rampUp ∨ z.st = .run → done .panelOff (fun t => (off → t = { d with dsp := dark }) ∧ (¬off → t = d))) ∧
      (z.st = .off ∨ z.st = .fault → nothing .panelOff) ∧
      (z.st = .rampDown → (z.discharged = true ∨ ¬waited → nothing .panelOff) ∧
        (z.discharged = false → waited → done .panelOff (fun t => quiet t ∧ t.evq = d.evq ∧ t.dsp = { z with discharged := true } ∧
          counts t DSP_DISCHARGE_COUNT 1 ∧ same t [DSP_DISCHARGE_COUNT])))) ∧
     (z.st ≠ .rampDown → nothing .offSequenceDone) ∧
     (z.st = .rampDown → done .offSequenceDone (fun t => quiet t ∧ t.evq = d.evq ∧ applied t ∧ same t [DSP_DISCHARGE_COUNT] ∧
       counts t DSP_DISCHARGE_COUNT (if z.discharged = true then 0 else 1) ∧
       t.dsp = { z with st := if z.toFault = true then .fault else .off, step := 0, rstHigh := false, discharged := true })) ∧
     (∀ rail : Fin 4, let up := z.st = .run ∨ (z.st = .rampUp ∧ [4, 2, 1, 3].getD rail.val 0 ≤ z.step + 1)
       (¬up → nothing (.dspRailFault rail)) ∧
       (up → done (.dspRailFault rail) (fun t => quiet t ∧ counts t DSP_FAULT_COUNT 1 ∧ event t 49 ∧
         t.dsp = { dark with faultRail := z.faultRail ||| 2 ^ rail.val, toFault := true }))) ∧
     (s.dev.mayWrite r DSP_CMD = true →
       ((z.st ≠ .fault ∨ ¬runs) → done (.dspRestart r) (· = d.answer 0)) ∧
       (z.st = .fault → runs → done (.dspRestart r) (fun t => quiet t ∧ ok t ∧ applied t ∧ t.reg.live = d.reg.live ∧ t.evq = d.evq ∧
         (hz = 0 → t.dsp = { z with st := .off, faultRail := 0, toFault := false }) ∧
         (hz ≠ 0 → t.dsp = { z with st := .rampUp, step := 0, faultRail := 0, toFault := false, frame := none }))))) ∧
    (let open' := d.lc ∈ [0, 1, 4]
     let loaded := fun (i : TapInstr) (t : Dev) =>
       let leaves := (d.jtag.holds = true ∧ i ≠ d.jtag.instr) ∨ i = .reset
       t.jtag.instr = i ∧
       (leaves → t.rd RST_CAUSE = d.rd RST_CAUSE ||| 256 ∧ t.rst.phase = .inReset ∧ t.red.driving = false ∧ t.cmt = {} ∧ t.evq = [] ∧ t.rst.fuse = d.rst.fuse) ∧
       (¬leaves → t.reg = d.reg ∧ t.mem = d.mem ∧ t.rst = d.rst ∧ t.cmt = d.cmt ∧ t.red = d.red ∧ t.evq = d.evq ∧ t.time = d.time)
     let kept := fun (t : Dev) => t.jtag.boundary = d.jtag.boundary ∧ t.out = d.out
     let plain := fun (c : Instr) (i : TapInstr) => done c (fun t => kept t ∧ (open' → loaded i t) ∧ (¬open' → loaded .bypass t))
     (d.pwr.upStep < 6 → ∀ (lands : BitVec 58) (data : BitVec 174) (x : Option (BitVec 174)) (code : Fin 32),
       ∀ c ∈ [Instr.jtagIdcode, .jtagSamplePreload lands data, .jtagExtest x, .jtagClamp, .jtagHighz, .jtagReset, .jtagDtmcs, .jtagDmi, .jtagBypass,
         .jtagTapReset, .testHoldExit code], nothing c) ∧
     (6 ≤ d.pwr.upStep →
       plain .jtagClamp .clamp ∧ plain .jtagHighz .highz ∧ plain .jtagReset .reset ∧ plain .jtagDtmcs .dtmcs ∧ plain .jtagDmi .dmi ∧
       plain .jtagBypass .bypass ∧ done .jtagTapReset (fun t => kept t ∧ loaded .idcode t) ∧
       done .jtagIdcode (fun t => loaded .idcode t ∧ t.jtag.boundary = d.jtag.boundary ∧
         ∃ p, t.out = d.out ++ [p] ∧ p.port = .jtag ∧ p.bytes = [0x4F, 0x25, 0x51, 0x18]) ∧
       (∀ (lands : BitVec 58) (data : BitVec 174), done (.jtagSamplePreload lands data) (fun t => (¬open' → kept t ∧ loaded .bypass t) ∧
         (open' → loaded .sample t ∧ t.jtag.boundary = data.toNat ∧ ∃ p n, t.out = d.out ++ [p] ∧ p.port = .jtag ∧ p.bytes = leBytes 22 n ∧
           (∀ k, k < 58 → n.testBit (3 * k) = lands.getLsbD k) ∧ ∀ k, k % 3 ≠ 0 → n.testBit k = d.jtag.boundary.testBit k))) ∧
       (∀ x : Option (BitVec 174), done (.jtagExtest x) (fun t => t.out = d.out ∧ (¬open' → kept t ∧ loaded .bypass t) ∧
         (open' → loaded .extest t ∧ t.jtag.boundary = x.elim d.jtag.boundary (·.toNat)))) ∧
       (∀ code : Fin 32, (d.jtag.holds = false → nothing (.testHoldExit code)) ∧
         (d.jtag.holds = true → done (.testHoldExit code) (fun t => kept t ∧ (code.val = 1 → loaded .idcode t) ∧
           (code.val ≠ 1 → ¬open' → loaded .bypass t) ∧ (open' → code.val ∉ [1, 2, 3, 4, 5, 8, 16, 17] → loaded .bypass t) ∧
           (open' → ∀ p ∈ [(2, TapInstr.sample), (3, .extest), (4, .clamp), (5, .highz), (8, .reset), (16, .dtmcs), (17, .dmi)], code.val = p.1 → loaded p.2 t))))))
end

