-- ==== Sys2Proof/Laws/Sparse.lean ====
section
/-!
SUPPORT. The laws of the sparse maps: what a read gives after a store, and that memory's canonical form is kept.
-/
namespace Sys2Proof.Machine

/-! ## Register words -/

@[simp] theorem RegMap.get_put_same (dflt : Nat → Word) (m : RegMap) (a : Nat) (v : Word) :
    RegMap.get dflt (RegMap.put m a v) a = v := by
  induction m with
  | nil => simp [RegMap.put, RegMap.get]
  | cons e t ih =>
    obtain ⟨k, u⟩ := e
    unfold RegMap.put
    split
    · simp [RegMap.get]
    · split
      · simp [RegMap.get]
      · rename_i h1 h2
        simp [RegMap.get, h1, h2, ih]

theorem RegMap.get_put_other (dflt : Nat → Word) (m : RegMap) {a b : Nat} (v : Word) (h : b ≠ a) :
    RegMap.get dflt (RegMap.put m a v) b = RegMap.get dflt m b := by
  induction m with
  | nil =>
    simp only [RegMap.put, RegMap.get]
    split
    · rfl
    · rfl
  | cons e t ih =>
    obtain ⟨k, u⟩ := e
    unfold RegMap.put
    split
    · rename_i h1
      simp only [RegMap.get]
      by_cases hb : b < a
      · simp [hb, Nat.lt_trans hb h1]
      · simp [hb, h]
    · split
      · rename_i h1 h2
        subst h2
        simp [RegMap.get, h]
      · rename_i h1 h2
        simp only [RegMap.get, ih]

/-! ## Tables by number -/

@[simp] theorem Assoc.get_put_same {α : Type} (dflt : α) (m : Assoc α) (k : Nat) (v : α) :
    Assoc.get dflt (Assoc.put m k v) k = v := by
  induction m with
  | nil => simp [Assoc.put, Assoc.get]
  | cons e t ih =>
    obtain ⟨j, u⟩ := e
    unfold Assoc.put
    split
    · simp [Assoc.get]
    · split
      · simp [Assoc.get]
      · rename_i h1 h2
        simp [Assoc.get, h1, h2, ih]

theorem Assoc.get_put_other {α : Type} (dflt : α) (m : Assoc α) {k j : Nat} (v : α) (h : j ≠ k) :
    Assoc.get dflt (Assoc.put m k v) j = Assoc.get dflt m j := by
  induction m with
  | nil =>
    simp only [Assoc.put, Assoc.get]
    split
    · rfl
    · rfl
  | cons e t ih =>
    obtain ⟨i, u⟩ := e
    unfold Assoc.put
    split
    · rename_i h1
      simp only [Assoc.get]
      by_cases hj : j < k
      · simp [hj, Nat.lt_trans hj h1]
      · simp [hj, h]
    · split
      · rename_i h1 h2
        subst h2
        simp [Assoc.get, h]
      · simp only [Assoc.get, ih]

/-! ## Memory -/

theorem Cells.wf_tail {dflt : Nat → Byte} {e : Host.Cell} {t : Cells} (h : Cells.wf dflt (e :: t) = true) :
    Cells.wf dflt t = true := by
  obtain ⟨k, v⟩ := e
  simp only [Cells.wf, Bool.and_eq_true] at h
  exact h.2

/-- In the canonical form every later address lies above the first. -/
theorem Cells.wf_above {dflt : Nat → Byte} {k : Nat} {v : Byte} {t : Cells} (h : Cells.wf dflt ((k, v) :: t) = true) :
    ∀ e ∈ t, k < e.1 := by
  induction t generalizing k v with
  | nil => simp
  | cons f t ih =>
    obtain ⟨k2, v2⟩ := f
    have h2 : k < k2 := by
      simp only [Cells.wf, Bool.and_eq_true, decide_eq_true_eq] at h
      exact h.1.2
    intro e he
    rcases List.mem_cons.mp he with rfl | he
    · exact h2
    · exact Nat.lt_trans h2 (ih (Cells.wf_tail h) e he)

theorem Cells.wf_cons {dflt : Nat → Byte} {k : Nat} {v : Byte} {t : Cells} (hv : v ≠ dflt k) (ht : Cells.wf dflt t = true)
    (ha : ∀ e ∈ t, k < e.1) : Cells.wf dflt ((k, v) :: t) = true := by
  cases t with
  | nil => simp [Cells.wf, hv]
  | cons f t =>
    obtain ⟨k2, v2⟩ := f
    have h2 : k < k2 := ha (k2, v2) (by simp)
    simp only [Cells.wf] at ht ⊢
    simp [hv, h2, ht]

/-- Below every listed address a byte reads as unlisted. -/
theorem Cells.get_below {dflt : Nat → Byte} {m : Cells} {a : Nat} (h : ∀ e ∈ m, a < e.1) : Cells.get dflt m a = dflt a := by
  cases m with
  | nil => rfl
  | cons e t =>
    obtain ⟨k, v⟩ := e
    have hk : a < k := h (k, v) (by simp)
    simp [Cells.get, hk]

theorem Cells.mem_put {dflt : Nat → Byte} {m : Cells} {a : Nat} {v : Byte} {e : Host.Cell}
    (h : e ∈ Cells.put dflt m a v) : e = (a, v) ∨ e ∈ m := by
  induction m with
  | nil =>
    simp only [Cells.put] at h
    split at h
    · simp at h
    · exact .inl (by simpa using h)
  | cons f t ih =>
    obtain ⟨k, u⟩ := f
    simp only [Cells.put] at h
    split at h
    · split at h
      · exact .inr h
      · rcases List.mem_cons.mp h with h | h
        · exact .inl h
        · exact .inr h
    · split at h
      · split at h
        · exact .inr (List.mem_cons_of_mem _ h)
        · rcases List.mem_cons.mp h with h | h
          · exact .inl h
          · exact .inr (List.mem_cons_of_mem _ h)
      · rcases List.mem_cons.mp h with h | h
        · exact .inr (by simp [h])
        · rcases ih h with h | h
          · exact .inl h
          · exact .inr (List.mem_cons_of_mem _ h)

/-- A store keeps the canonical form. -/
theorem Cells.wf_put {dflt : Nat → Byte} {m : Cells} (a : Nat) (v : Byte) (h : Cells.wf dflt m = true) :
    Cells.wf dflt (Cells.put dflt m a v) = true := by
  induction m with
  | nil =>
    simp only [Cells.put]
    split
    · rfl
    · exact Cells.wf_cons (by assumption) rfl (by simp)
  | cons f t ih =>
    obtain ⟨k, u⟩ := f
    have hab := Cells.wf_above h
    have ht := Cells.wf_tail h
    have hu : u ≠ dflt k := by
      simp only [Cells.wf, Bool.and_eq_true, bne_iff_ne, ne_eq] at h
      exact h.1.1
    simp only [Cells.put]
    split
    · rename_i hlt
      split
      · exact h
      · refine Cells.wf_cons (by assumption) h ?_
        intro e he
        rcases List.mem_cons.mp he with rfl | he
        · exact hlt
        · exact Nat.lt_trans hlt (hab e he)
    · split
      · rename_i heq
        subst heq
        split
        · exact ht
        · exact Cells.wf_cons (by assumption) ht hab
      · rename_i h1 h2
        refine Cells.wf_cons hu (ih ht) ?_
        intro e he
        rcases Cells.mem_put he with rfl | he
        · show k < a
          omega
        · exact hab e he

@[simp] theorem Cells.get_put_same {dflt : Nat → Byte} {m : Cells} (a : Nat) (v : Byte) (h : Cells.wf dflt m = true) :
    Cells.get dflt (Cells.put dflt m a v) a = v := by
  induction m with
  | nil =>
    simp only [Cells.put]
    split
    · simp [Cells.get, *]
    · simp [Cells.get]
  | cons f t ih =>
    obtain ⟨k, u⟩ := f
    simp only [Cells.put]
    split
    · rename_i hlt
      split
      · simp [Cells.get, *]
      · simp [Cells.get]
    · split
      · rename_i heq
        subst heq
        split
        · rename_i hv
          rw [Cells.get_below (Cells.wf_above h), hv]
        · simp [Cells.get]
      · rename_i h1 h2
        simp [Cells.get, h1, h2, ih (Cells.wf_tail h)]

theorem Cells.get_put_other {dflt : Nat → Byte} {m : Cells} {a b : Nat} (v : Byte) (hb : b ≠ a) (h : Cells.wf dflt m = true) :
    Cells.get dflt (Cells.put dflt m a v) b = Cells.get dflt m b := by
  induction m with
  | nil =>
    simp only [Cells.put]
    split
    · rfl
    · simp only [Cells.get]
      split <;> rfl
  | cons f t ih =>
    obtain ⟨k, u⟩ := f
    simp only [Cells.put]
    split
    · rename_i hlt
      split
      · rfl
      · simp only [Cells.get]
        by_cases hba : b < a
        · simp [hba, Nat.lt_trans hba hlt]
        · simp [hba, hb]
    · split
      · rename_i heq
        subst heq
        split
        · simp only [Cells.get, hb, if_false]
          split
          · rename_i hlt
            exact Cells.get_below fun e he => Nat.lt_trans hlt (Cells.wf_above h e he)
          · rfl
        · simp [Cells.get, hb]
      · simp only [Cells.get, ih (Cells.wf_tail h)]

/-- Forgetting cells keeps the canonical form. -/
theorem Cells.wf_forget {dflt : Nat → Byte} {m : Cells} (p : Nat → Bool) (h : Cells.wf dflt m = true) :
    Cells.wf dflt (Cells.forget p m) = true := by
  induction m with
  | nil => rfl
  | cons f t ih =>
    obtain ⟨k, u⟩ := f
    have hu : u ≠ dflt k := by
      simp only [Cells.wf, Bool.and_eq_true, bne_iff_ne, ne_eq] at h
      exact h.1.1
    have ht := ih (Cells.wf_tail h)
    have hab := Cells.wf_above h
    unfold Cells.forget at ht ⊢
    rw [List.filter_cons]
    split
    · exact Cells.wf_cons hu ht fun e he => hab e (List.mem_filter.mp he).1
    · exact ht

end Sys2Proof.Machine
end

