-- ==== Sys2Proof/Laws/State.lean ====
section
/-!
SUPPORT. What the shared operations leave alone, one lemma for each field of the device and each operation, and what a register or
a byte reads as after a store.
-/
namespace Sys2Proof.Machine

/-! ## wr -/

@[simp] theorem Dev.wr_mem (d : Dev) (a v : Nat) : (d.wr a v).mem = d.mem := rfl
@[simp] theorem Dev.wr_cmt (d : Dev) (a v : Nat) : (d.wr a v).cmt = d.cmt := rfl
@[simp] theorem Dev.wr_bus (d : Dev) (a v : Nat) : (d.wr a v).bus = d.bus := rfl
@[simp] theorem Dev.wr_time (d : Dev) (a v : Nat) : (d.wr a v).time = d.time := rfl
@[simp] theorem Dev.wr_pin (d : Dev) (a v : Nat) : (d.wr a v).pin = d.pin := rfl
@[simp] theorem Dev.wr_pwr (d : Dev) (a v : Nat) : (d.wr a v).pwr = d.pwr := rfl
@[simp] theorem Dev.wr_red (d : Dev) (a v : Nat) : (d.wr a v).red = d.red := rfl
@[simp] theorem Dev.wr_key (d : Dev) (a v : Nat) : (d.wr a v).key = d.key := rfl
@[simp] theorem Dev.wr_clk (d : Dev) (a v : Nat) : (d.wr a v).clk = d.clk := rfl
@[simp] theorem Dev.wr_rst (d : Dev) (a v : Nat) : (d.wr a v).rst = d.rst := rfl
@[simp] theorem Dev.wr_sys (d : Dev) (a v : Nat) : (d.wr a v).sys = d.sys := rfl
@[simp] theorem Dev.wr_io (d : Dev) (a v : Nat) : (d.wr a v).io = d.io := rfl
@[simp] theorem Dev.wr_qry (d : Dev) (a v : Nat) : (d.wr a v).qry = d.qry := rfl
@[simp] theorem Dev.wr_ing (d : Dev) (a v : Nat) : (d.wr a v).ing = d.ing := rfl
@[simp] theorem Dev.wr_epc (d : Dev) (a v : Nat) : (d.wr a v).epc = d.epc := rfl
@[simp] theorem Dev.wr_trf (d : Dev) (a v : Nat) : (d.wr a v).trf = d.trf := rfl
@[simp] theorem Dev.wr_bal (d : Dev) (a v : Nat) : (d.wr a v).bal = d.bal := rfl
@[simp] theorem Dev.wr_obj (d : Dev) (a v : Nat) : (d.wr a v).obj = d.obj := rfl
@[simp] theorem Dev.wr_dst (d : Dev) (a v : Nat) : (d.wr a v).dst = d.dst := rfl
@[simp] theorem Dev.wr_rad (d : Dev) (a v : Nat) : (d.wr a v).rad = d.rad := rfl
@[simp] theorem Dev.wr_plc (d : Dev) (a v : Nat) : (d.wr a v).plc = d.plc := rfl
@[simp] theorem Dev.wr_trk (d : Dev) (a v : Nat) : (d.wr a v).trk = d.trk := rfl
@[simp] theorem Dev.wr_upl (d : Dev) (a v : Nat) : (d.wr a v).upl = d.upl := rfl
@[simp] theorem Dev.wr_fb (d : Dev) (a v : Nat) : (d.wr a v).fb = d.fb := rfl
@[simp] theorem Dev.wr_rcd (d : Dev) (a v : Nat) : (d.wr a v).rcd = d.rcd := rfl
@[simp] theorem Dev.wr_dsp (d : Dev) (a v : Nat) : (d.wr a v).dsp = d.dsp := rfl
@[simp] theorem Dev.wr_jtag (d : Dev) (a v : Nat) : (d.wr a v).jtag = d.jtag := rfl
@[simp] theorem Dev.wr_evq (d : Dev) (a v : Nat) : (d.wr a v).evq = d.evq := rfl
@[simp] theorem Dev.wr_out (d : Dev) (a v : Nat) : (d.wr a v).out = d.out := rfl
@[simp] theorem Dev.wr_free (d : Dev) (a v : Nat) : (d.wr a v).free = d.free := rfl

/-! ## wrShadow -/

@[simp] theorem Dev.wrShadow_mem (d : Dev) (a v : Nat) : (d.wrShadow a v).mem = d.mem := rfl
@[simp] theorem Dev.wrShadow_cmt (d : Dev) (a v : Nat) : (d.wrShadow a v).cmt = d.cmt := rfl
@[simp] theorem Dev.wrShadow_bus (d : Dev) (a v : Nat) : (d.wrShadow a v).bus = d.bus := rfl
@[simp] theorem Dev.wrShadow_time (d : Dev) (a v : Nat) : (d.wrShadow a v).time = d.time := rfl
@[simp] theorem Dev.wrShadow_pin (d : Dev) (a v : Nat) : (d.wrShadow a v).pin = d.pin := rfl
@[simp] theorem Dev.wrShadow_pwr (d : Dev) (a v : Nat) : (d.wrShadow a v).pwr = d.pwr := rfl
@[simp] theorem Dev.wrShadow_red (d : Dev) (a v : Nat) : (d.wrShadow a v).red = d.red := rfl
@[simp] theorem Dev.wrShadow_key (d : Dev) (a v : Nat) : (d.wrShadow a v).key = d.key := rfl
@[simp] theorem Dev.wrShadow_clk (d : Dev) (a v : Nat) : (d.wrShadow a v).clk = d.clk := rfl
@[simp] theorem Dev.wrShadow_rst (d : Dev) (a v : Nat) : (d.wrShadow a v).rst = d.rst := rfl
@[simp] theorem Dev.wrShadow_sys (d : Dev) (a v : Nat) : (d.wrShadow a v).sys = d.sys := rfl
@[simp] theorem Dev.wrShadow_io (d : Dev) (a v : Nat) : (d.wrShadow a v).io = d.io := rfl
@[simp] theorem Dev.wrShadow_qry (d : Dev) (a v : Nat) : (d.wrShadow a v).qry = d.qry := rfl
@[simp] theorem Dev.wrShadow_ing (d : Dev) (a v : Nat) : (d.wrShadow a v).ing = d.ing := rfl
@[simp] theorem Dev.wrShadow_epc (d : Dev) (a v : Nat) : (d.wrShadow a v).epc = d.epc := rfl
@[simp] theorem Dev.wrShadow_trf (d : Dev) (a v : Nat) : (d.wrShadow a v).trf = d.trf := rfl
@[simp] theorem Dev.wrShadow_bal (d : Dev) (a v : Nat) : (d.wrShadow a v).bal = d.bal := rfl
@[simp] theorem Dev.wrShadow_obj (d : Dev) (a v : Nat) : (d.wrShadow a v).obj = d.obj := rfl
@[simp] theorem Dev.wrShadow_dst (d : Dev) (a v : Nat) : (d.wrShadow a v).dst = d.dst := rfl
@[simp] theorem Dev.wrShadow_rad (d : Dev) (a v : Nat) : (d.wrShadow a v).rad = d.rad := rfl
@[simp] theorem Dev.wrShadow_plc (d : Dev) (a v : Nat) : (d.wrShadow a v).plc = d.plc := rfl
@[simp] theorem Dev.wrShadow_trk (d : Dev) (a v : Nat) : (d.wrShadow a v).trk = d.trk := rfl
@[simp] theorem Dev.wrShadow_upl (d : Dev) (a v : Nat) : (d.wrShadow a v).upl = d.upl := rfl
@[simp] theorem Dev.wrShadow_fb (d : Dev) (a v : Nat) : (d.wrShadow a v).fb = d.fb := rfl
@[simp] theorem Dev.wrShadow_rcd (d : Dev) (a v : Nat) : (d.wrShadow a v).rcd = d.rcd := rfl
@[simp] theorem Dev.wrShadow_dsp (d : Dev) (a v : Nat) : (d.wrShadow a v).dsp = d.dsp := rfl
@[simp] theorem Dev.wrShadow_jtag (d : Dev) (a v : Nat) : (d.wrShadow a v).jtag = d.jtag := rfl
@[simp] theorem Dev.wrShadow_evq (d : Dev) (a v : Nat) : (d.wrShadow a v).evq = d.evq := rfl
@[simp] theorem Dev.wrShadow_out (d : Dev) (a v : Nat) : (d.wrShadow a v).out = d.out := rfl
@[simp] theorem Dev.wrShadow_free (d : Dev) (a v : Nat) : (d.wrShadow a v).free = d.free := rfl

/-! ## wrFld -/

@[simp] theorem Dev.wrFld_mem (d : Dev) (a hi lo v : Nat) : (d.wrFld a hi lo v).mem = d.mem := rfl
@[simp] theorem Dev.wrFld_cmt (d : Dev) (a hi lo v : Nat) : (d.wrFld a hi lo v).cmt = d.cmt := rfl
@[simp] theorem Dev.wrFld_bus (d : Dev) (a hi lo v : Nat) : (d.wrFld a hi lo v).bus = d.bus := rfl
@[simp] theorem Dev.wrFld_time (d : Dev) (a hi lo v : Nat) : (d.wrFld a hi lo v).time = d.time := rfl
@[simp] theorem Dev.wrFld_pin (d : Dev) (a hi lo v : Nat) : (d.wrFld a hi lo v).pin = d.pin := rfl
@[simp] theorem Dev.wrFld_pwr (d : Dev) (a hi lo v : Nat) : (d.wrFld a hi lo v).pwr = d.pwr := rfl
@[simp] theorem Dev.wrFld_red (d : Dev) (a hi lo v : Nat) : (d.wrFld a hi lo v).red = d.red := rfl
@[simp] theorem Dev.wrFld_key (d : Dev) (a hi lo v : Nat) : (d.wrFld a hi lo v).key = d.key := rfl
@[simp] theorem Dev.wrFld_clk (d : Dev) (a hi lo v : Nat) : (d.wrFld a hi lo v).clk = d.clk := rfl
@[simp] theorem Dev.wrFld_rst (d : Dev) (a hi lo v : Nat) : (d.wrFld a hi lo v).rst = d.rst := rfl
@[simp] theorem Dev.wrFld_sys (d : Dev) (a hi lo v : Nat) : (d.wrFld a hi lo v).sys = d.sys := rfl
@[simp] theorem Dev.wrFld_io (d : Dev) (a hi lo v : Nat) : (d.wrFld a hi lo v).io = d.io := rfl
@[simp] theorem Dev.wrFld_qry (d : Dev) (a hi lo v : Nat) : (d.wrFld a hi lo v).qry = d.qry := rfl
@[simp] theorem Dev.wrFld_ing (d : Dev) (a hi lo v : Nat) : (d.wrFld a hi lo v).ing = d.ing := rfl
@[simp] theorem Dev.wrFld_epc (d : Dev) (a hi lo v : Nat) : (d.wrFld a hi lo v).epc = d.epc := rfl
@[simp] theorem Dev.wrFld_trf (d : Dev) (a hi lo v : Nat) : (d.wrFld a hi lo v).trf = d.trf := rfl
@[simp] theorem Dev.wrFld_bal (d : Dev) (a hi lo v : Nat) : (d.wrFld a hi lo v).bal = d.bal := rfl
@[simp] theorem Dev.wrFld_obj (d : Dev) (a hi lo v : Nat) : (d.wrFld a hi lo v).obj = d.obj := rfl
@[simp] theorem Dev.wrFld_dst (d : Dev) (a hi lo v : Nat) : (d.wrFld a hi lo v).dst = d.dst := rfl
@[simp] theorem Dev.wrFld_rad (d : Dev) (a hi lo v : Nat) : (d.wrFld a hi lo v).rad = d.rad := rfl
@[simp] theorem Dev.wrFld_plc (d : Dev) (a hi lo v : Nat) : (d.wrFld a hi lo v).plc = d.plc := rfl
@[simp] theorem Dev.wrFld_trk (d : Dev) (a hi lo v : Nat) : (d.wrFld a hi lo v).trk = d.trk := rfl
@[simp] theorem Dev.wrFld_upl (d : Dev) (a hi lo v : Nat) : (d.wrFld a hi lo v).upl = d.upl := rfl
@[simp] theorem Dev.wrFld_fb (d : Dev) (a hi lo v : Nat) : (d.wrFld a hi lo v).fb = d.fb := rfl
@[simp] theorem Dev.wrFld_rcd (d : Dev) (a hi lo v : Nat) : (d.wrFld a hi lo v).rcd = d.rcd := rfl
@[simp] theorem Dev.wrFld_dsp (d : Dev) (a hi lo v : Nat) : (d.wrFld a hi lo v).dsp = d.dsp := rfl
@[simp] theorem Dev.wrFld_jtag (d : Dev) (a hi lo v : Nat) : (d.wrFld a hi lo v).jtag = d.jtag := rfl
@[simp] theorem Dev.wrFld_evq (d : Dev) (a hi lo v : Nat) : (d.wrFld a hi lo v).evq = d.evq := rfl
@[simp] theorem Dev.wrFld_out (d : Dev) (a hi lo v : Nat) : (d.wrFld a hi lo v).out = d.out := rfl
@[simp] theorem Dev.wrFld_free (d : Dev) (a hi lo v : Nat) : (d.wrFld a hi lo v).free = d.free := rfl

/-! ## wr64 -/

@[simp] theorem Dev.wr64_mem (d : Dev) (a v : Nat) : (d.wr64 a v).mem = d.mem := rfl
@[simp] theorem Dev.wr64_cmt (d : Dev) (a v : Nat) : (d.wr64 a v).cmt = d.cmt := rfl
@[simp] theorem Dev.wr64_bus (d : Dev) (a v : Nat) : (d.wr64 a v).bus = d.bus := rfl
@[simp] theorem Dev.wr64_time (d : Dev) (a v : Nat) : (d.wr64 a v).time = d.time := rfl
@[simp] theorem Dev.wr64_pin (d : Dev) (a v : Nat) : (d.wr64 a v).pin = d.pin := rfl
@[simp] theorem Dev.wr64_pwr (d : Dev) (a v : Nat) : (d.wr64 a v).pwr = d.pwr := rfl
@[simp] theorem Dev.wr64_red (d : Dev) (a v : Nat) : (d.wr64 a v).red = d.red := rfl
@[simp] theorem Dev.wr64_key (d : Dev) (a v : Nat) : (d.wr64 a v).key = d.key := rfl
@[simp] theorem Dev.wr64_clk (d : Dev) (a v : Nat) : (d.wr64 a v).clk = d.clk := rfl
@[simp] theorem Dev.wr64_rst (d : Dev) (a v : Nat) : (d.wr64 a v).rst = d.rst := rfl
@[simp] theorem Dev.wr64_sys (d : Dev) (a v : Nat) : (d.wr64 a v).sys = d.sys := rfl
@[simp] theorem Dev.wr64_io (d : Dev) (a v : Nat) : (d.wr64 a v).io = d.io := rfl
@[simp] theorem Dev.wr64_qry (d : Dev) (a v : Nat) : (d.wr64 a v).qry = d.qry := rfl
@[simp] theorem Dev.wr64_ing (d : Dev) (a v : Nat) : (d.wr64 a v).ing = d.ing := rfl
@[simp] theorem Dev.wr64_epc (d : Dev) (a v : Nat) : (d.wr64 a v).epc = d.epc := rfl
@[simp] theorem Dev.wr64_trf (d : Dev) (a v : Nat) : (d.wr64 a v).trf = d.trf := rfl
@[simp] theorem Dev.wr64_bal (d : Dev) (a v : Nat) : (d.wr64 a v).bal = d.bal := rfl
@[simp] theorem Dev.wr64_obj (d : Dev) (a v : Nat) : (d.wr64 a v).obj = d.obj := rfl
@[simp] theorem Dev.wr64_dst (d : Dev) (a v : Nat) : (d.wr64 a v).dst = d.dst := rfl
@[simp] theorem Dev.wr64_rad (d : Dev) (a v : Nat) : (d.wr64 a v).rad = d.rad := rfl
@[simp] theorem Dev.wr64_plc (d : Dev) (a v : Nat) : (d.wr64 a v).plc = d.plc := rfl
@[simp] theorem Dev.wr64_trk (d : Dev) (a v : Nat) : (d.wr64 a v).trk = d.trk := rfl
@[simp] theorem Dev.wr64_upl (d : Dev) (a v : Nat) : (d.wr64 a v).upl = d.upl := rfl
@[simp] theorem Dev.wr64_fb (d : Dev) (a v : Nat) : (d.wr64 a v).fb = d.fb := rfl
@[simp] theorem Dev.wr64_rcd (d : Dev) (a v : Nat) : (d.wr64 a v).rcd = d.rcd := rfl
@[simp] theorem Dev.wr64_dsp (d : Dev) (a v : Nat) : (d.wr64 a v).dsp = d.dsp := rfl
@[simp] theorem Dev.wr64_jtag (d : Dev) (a v : Nat) : (d.wr64 a v).jtag = d.jtag := rfl
@[simp] theorem Dev.wr64_evq (d : Dev) (a v : Nat) : (d.wr64 a v).evq = d.evq := rfl
@[simp] theorem Dev.wr64_out (d : Dev) (a v : Nat) : (d.wr64 a v).out = d.out := rfl
@[simp] theorem Dev.wr64_free (d : Dev) (a v : Nat) : (d.wr64 a v).free = d.free := rfl

/-! ## bump -/

@[simp] theorem Dev.bump_mem (d : Dev) (a n : Nat) : (d.bump a n).mem = d.mem := rfl
@[simp] theorem Dev.bump_cmt (d : Dev) (a n : Nat) : (d.bump a n).cmt = d.cmt := rfl
@[simp] theorem Dev.bump_bus (d : Dev) (a n : Nat) : (d.bump a n).bus = d.bus := rfl
@[simp] theorem Dev.bump_time (d : Dev) (a n : Nat) : (d.bump a n).time = d.time := rfl
@[simp] theorem Dev.bump_pin (d : Dev) (a n : Nat) : (d.bump a n).pin = d.pin := rfl
@[simp] theorem Dev.bump_pwr (d : Dev) (a n : Nat) : (d.bump a n).pwr = d.pwr := rfl
@[simp] theorem Dev.bump_red (d : Dev) (a n : Nat) : (d.bump a n).red = d.red := rfl
@[simp] theorem Dev.bump_key (d : Dev) (a n : Nat) : (d.bump a n).key = d.key := rfl
@[simp] theorem Dev.bump_clk (d : Dev) (a n : Nat) : (d.bump a n).clk = d.clk := rfl
@[simp] theorem Dev.bump_rst (d : Dev) (a n : Nat) : (d.bump a n).rst = d.rst := rfl
@[simp] theorem Dev.bump_sys (d : Dev) (a n : Nat) : (d.bump a n).sys = d.sys := rfl
@[simp] theorem Dev.bump_io (d : Dev) (a n : Nat) : (d.bump a n).io = d.io := rfl
@[simp] theorem Dev.bump_qry (d : Dev) (a n : Nat) : (d.bump a n).qry = d.qry := rfl
@[simp] theorem Dev.bump_ing (d : Dev) (a n : Nat) : (d.bump a n).ing = d.ing := rfl
@[simp] theorem Dev.bump_epc (d : Dev) (a n : Nat) : (d.bump a n).epc = d.epc := rfl
@[simp] theorem Dev.bump_trf (d : Dev) (a n : Nat) : (d.bump a n).trf = d.trf := rfl
@[simp] theorem Dev.bump_bal (d : Dev) (a n : Nat) : (d.bump a n).bal = d.bal := rfl
@[simp] theorem Dev.bump_obj (d : Dev) (a n : Nat) : (d.bump a n).obj = d.obj := rfl
@[simp] theorem Dev.bump_dst (d : Dev) (a n : Nat) : (d.bump a n).dst = d.dst := rfl
@[simp] theorem Dev.bump_rad (d : Dev) (a n : Nat) : (d.bump a n).rad = d.rad := rfl
@[simp] theorem Dev.bump_plc (d : Dev) (a n : Nat) : (d.bump a n).plc = d.plc := rfl
@[simp] theorem Dev.bump_trk (d : Dev) (a n : Nat) : (d.bump a n).trk = d.trk := rfl
@[simp] theorem Dev.bump_upl (d : Dev) (a n : Nat) : (d.bump a n).upl = d.upl := rfl
@[simp] theorem Dev.bump_fb (d : Dev) (a n : Nat) : (d.bump a n).fb = d.fb := rfl
@[simp] theorem Dev.bump_rcd (d : Dev) (a n : Nat) : (d.bump a n).rcd = d.rcd := rfl
@[simp] theorem Dev.bump_dsp (d : Dev) (a n : Nat) : (d.bump a n).dsp = d.dsp := rfl
@[simp] theorem Dev.bump_jtag (d : Dev) (a n : Nat) : (d.bump a n).jtag = d.jtag := rfl
@[simp] theorem Dev.bump_evq (d : Dev) (a n : Nat) : (d.bump a n).evq = d.evq := rfl
@[simp] theorem Dev.bump_out (d : Dev) (a n : Nat) : (d.bump a n).out = d.out := rfl
@[simp] theorem Dev.bump_free (d : Dev) (a n : Nat) : (d.bump a n).free = d.free := rfl

/-! ## setPend -/

@[simp] theorem Dev.setPend_mem (d : Dev) (p b : Nat) : (d.setPend p b).mem = d.mem := rfl
@[simp] theorem Dev.setPend_cmt (d : Dev) (p b : Nat) : (d.setPend p b).cmt = d.cmt := rfl
@[simp] theorem Dev.setPend_bus (d : Dev) (p b : Nat) : (d.setPend p b).bus = d.bus := rfl
@[simp] theorem Dev.setPend_time (d : Dev) (p b : Nat) : (d.setPend p b).time = d.time := rfl
@[simp] theorem Dev.setPend_pin (d : Dev) (p b : Nat) : (d.setPend p b).pin = d.pin := rfl
@[simp] theorem Dev.setPend_pwr (d : Dev) (p b : Nat) : (d.setPend p b).pwr = d.pwr := rfl
@[simp] theorem Dev.setPend_red (d : Dev) (p b : Nat) : (d.setPend p b).red = d.red := rfl
@[simp] theorem Dev.setPend_key (d : Dev) (p b : Nat) : (d.setPend p b).key = d.key := rfl
@[simp] theorem Dev.setPend_clk (d : Dev) (p b : Nat) : (d.setPend p b).clk = d.clk := rfl
@[simp] theorem Dev.setPend_rst (d : Dev) (p b : Nat) : (d.setPend p b).rst = d.rst := rfl
@[simp] theorem Dev.setPend_sys (d : Dev) (p b : Nat) : (d.setPend p b).sys = d.sys := rfl
@[simp] theorem Dev.setPend_io (d : Dev) (p b : Nat) : (d.setPend p b).io = d.io := rfl
@[simp] theorem Dev.setPend_qry (d : Dev) (p b : Nat) : (d.setPend p b).qry = d.qry := rfl
@[simp] theorem Dev.setPend_ing (d : Dev) (p b : Nat) : (d.setPend p b).ing = d.ing := rfl
@[simp] theorem Dev.setPend_epc (d : Dev) (p b : Nat) : (d.setPend p b).epc = d.epc := rfl
@[simp] theorem Dev.setPend_trf (d : Dev) (p b : Nat) : (d.setPend p b).trf = d.trf := rfl
@[simp] theorem Dev.setPend_bal (d : Dev) (p b : Nat) : (d.setPend p b).bal = d.bal := rfl
@[simp] theorem Dev.setPend_obj (d : Dev) (p b : Nat) : (d.setPend p b).obj = d.obj := rfl
@[simp] theorem Dev.setPend_dst (d : Dev) (p b : Nat) : (d.setPend p b).dst = d.dst := rfl
@[simp] theorem Dev.setPend_rad (d : Dev) (p b : Nat) : (d.setPend p b).rad = d.rad := rfl
@[simp] theorem Dev.setPend_plc (d : Dev) (p b : Nat) : (d.setPend p b).plc = d.plc := rfl
@[simp] theorem Dev.setPend_trk (d : Dev) (p b : Nat) : (d.setPend p b).trk = d.trk := rfl
@[simp] theorem Dev.setPend_upl (d : Dev) (p b : Nat) : (d.setPend p b).upl = d.upl := rfl
@[simp] theorem Dev.setPend_fb (d : Dev) (p b : Nat) : (d.setPend p b).fb = d.fb := rfl
@[simp] theorem Dev.setPend_rcd (d : Dev) (p b : Nat) : (d.setPend p b).rcd = d.rcd := rfl
@[simp] theorem Dev.setPend_dsp (d : Dev) (p b : Nat) : (d.setPend p b).dsp = d.dsp := rfl
@[simp] theorem Dev.setPend_jtag (d : Dev) (p b : Nat) : (d.setPend p b).jtag = d.jtag := rfl
@[simp] theorem Dev.setPend_evq (d : Dev) (p b : Nat) : (d.setPend p b).evq = d.evq := rfl
@[simp] theorem Dev.setPend_out (d : Dev) (p b : Nat) : (d.setPend p b).out = d.out := rfl
@[simp] theorem Dev.setPend_free (d : Dev) (p b : Nat) : (d.setPend p b).free = d.free := rfl

/-! ## clearFault -/

@[simp] theorem Dev.clearFault_mem (d : Dev) (p : Nat) : (d.clearFault p).mem = d.mem := rfl
@[simp] theorem Dev.clearFault_cmt (d : Dev) (p : Nat) : (d.clearFault p).cmt = d.cmt := rfl
@[simp] theorem Dev.clearFault_bus (d : Dev) (p : Nat) : (d.clearFault p).bus = d.bus := rfl
@[simp] theorem Dev.clearFault_time (d : Dev) (p : Nat) : (d.clearFault p).time = d.time := rfl
@[simp] theorem Dev.clearFault_pin (d : Dev) (p : Nat) : (d.clearFault p).pin = d.pin := rfl
@[simp] theorem Dev.clearFault_pwr (d : Dev) (p : Nat) : (d.clearFault p).pwr = d.pwr := rfl
@[simp] theorem Dev.clearFault_red (d : Dev) (p : Nat) : (d.clearFault p).red = d.red := rfl
@[simp] theorem Dev.clearFault_key (d : Dev) (p : Nat) : (d.clearFault p).key = d.key := rfl
@[simp] theorem Dev.clearFault_clk (d : Dev) (p : Nat) : (d.clearFault p).clk = d.clk := rfl
@[simp] theorem Dev.clearFault_rst (d : Dev) (p : Nat) : (d.clearFault p).rst = d.rst := rfl
@[simp] theorem Dev.clearFault_sys (d : Dev) (p : Nat) : (d.clearFault p).sys = d.sys := rfl
@[simp] theorem Dev.clearFault_io (d : Dev) (p : Nat) : (d.clearFault p).io = d.io := rfl
@[simp] theorem Dev.clearFault_qry (d : Dev) (p : Nat) : (d.clearFault p).qry = d.qry := rfl
@[simp] theorem Dev.clearFault_ing (d : Dev) (p : Nat) : (d.clearFault p).ing = d.ing := rfl
@[simp] theorem Dev.clearFault_epc (d : Dev) (p : Nat) : (d.clearFault p).epc = d.epc := rfl
@[simp] theorem Dev.clearFault_trf (d : Dev) (p : Nat) : (d.clearFault p).trf = d.trf := rfl
@[simp] theorem Dev.clearFault_bal (d : Dev) (p : Nat) : (d.clearFault p).bal = d.bal := rfl
@[simp] theorem Dev.clearFault_obj (d : Dev) (p : Nat) : (d.clearFault p).obj = d.obj := rfl
@[simp] theorem Dev.clearFault_dst (d : Dev) (p : Nat) : (d.clearFault p).dst = d.dst := rfl
@[simp] theorem Dev.clearFault_rad (d : Dev) (p : Nat) : (d.clearFault p).rad = d.rad := rfl
@[simp] theorem Dev.clearFault_plc (d : Dev) (p : Nat) : (d.clearFault p).plc = d.plc := rfl
@[simp] theorem Dev.clearFault_trk (d : Dev) (p : Nat) : (d.clearFault p).trk = d.trk := rfl
@[simp] theorem Dev.clearFault_upl (d : Dev) (p : Nat) : (d.clearFault p).upl = d.upl := rfl
@[simp] theorem Dev.clearFault_fb (d : Dev) (p : Nat) : (d.clearFault p).fb = d.fb := rfl
@[simp] theorem Dev.clearFault_rcd (d : Dev) (p : Nat) : (d.clearFault p).rcd = d.rcd := rfl
@[simp] theorem Dev.clearFault_dsp (d : Dev) (p : Nat) : (d.clearFault p).dsp = d.dsp := rfl
@[simp] theorem Dev.clearFault_jtag (d : Dev) (p : Nat) : (d.clearFault p).jtag = d.jtag := rfl
@[simp] theorem Dev.clearFault_evq (d : Dev) (p : Nat) : (d.clearFault p).evq = d.evq := rfl
@[simp] theorem Dev.clearFault_out (d : Dev) (p : Nat) : (d.clearFault p).out = d.out := rfl
@[simp] theorem Dev.clearFault_free (d : Dev) (p : Nat) : (d.clearFault p).free = d.free := rfl

/-! ## boundary -/

@[simp] theorem Dev.boundary_mem (d : Dev) (f : Nat → Bool) : (d.boundary f).mem = d.mem := rfl
@[simp] theorem Dev.boundary_cmt (d : Dev) (f : Nat → Bool) : (d.boundary f).cmt = d.cmt := rfl
@[simp] theorem Dev.boundary_bus (d : Dev) (f : Nat → Bool) : (d.boundary f).bus = d.bus := rfl
@[simp] theorem Dev.boundary_time (d : Dev) (f : Nat → Bool) : (d.boundary f).time = d.time := rfl
@[simp] theorem Dev.boundary_pin (d : Dev) (f : Nat → Bool) : (d.boundary f).pin = d.pin := rfl
@[simp] theorem Dev.boundary_pwr (d : Dev) (f : Nat → Bool) : (d.boundary f).pwr = d.pwr := rfl
@[simp] theorem Dev.boundary_red (d : Dev) (f : Nat → Bool) : (d.boundary f).red = d.red := rfl
@[simp] theorem Dev.boundary_key (d : Dev) (f : Nat → Bool) : (d.boundary f).key = d.key := rfl
@[simp] theorem Dev.boundary_clk (d : Dev) (f : Nat → Bool) : (d.boundary f).clk = d.clk := rfl
@[simp] theorem Dev.boundary_rst (d : Dev) (f : Nat → Bool) : (d.boundary f).rst = d.rst := rfl
@[simp] theorem Dev.boundary_sys (d : Dev) (f : Nat → Bool) : (d.boundary f).sys = d.sys := rfl
@[simp] theorem Dev.boundary_io (d : Dev) (f : Nat → Bool) : (d.boundary f).io = d.io := rfl
@[simp] theorem Dev.boundary_qry (d : Dev) (f : Nat → Bool) : (d.boundary f).qry = d.qry := rfl
@[simp] theorem Dev.boundary_ing (d : Dev) (f : Nat → Bool) : (d.boundary f).ing = d.ing := rfl
@[simp] theorem Dev.boundary_epc (d : Dev) (f : Nat → Bool) : (d.boundary f).epc = d.epc := rfl
@[simp] theorem Dev.boundary_trf (d : Dev) (f : Nat → Bool) : (d.boundary f).trf = d.trf := rfl
@[simp] theorem Dev.boundary_bal (d : Dev) (f : Nat → Bool) : (d.boundary f).bal = d.bal := rfl
@[simp] theorem Dev.boundary_obj (d : Dev) (f : Nat → Bool) : (d.boundary f).obj = d.obj := rfl
@[simp] theorem Dev.boundary_dst (d : Dev) (f : Nat → Bool) : (d.boundary f).dst = d.dst := rfl
@[simp] theorem Dev.boundary_rad (d : Dev) (f : Nat → Bool) : (d.boundary f).rad = d.rad := rfl
@[simp] theorem Dev.boundary_plc (d : Dev) (f : Nat → Bool) : (d.boundary f).plc = d.plc := rfl
@[simp] theorem Dev.boundary_trk (d : Dev) (f : Nat → Bool) : (d.boundary f).trk = d.trk := rfl
@[simp] theorem Dev.boundary_upl (d : Dev) (f : Nat → Bool) : (d.boundary f).upl = d.upl := rfl
@[simp] theorem Dev.boundary_fb (d : Dev) (f : Nat → Bool) : (d.boundary f).fb = d.fb := rfl
@[simp] theorem Dev.boundary_rcd (d : Dev) (f : Nat → Bool) : (d.boundary f).rcd = d.rcd := rfl
@[simp] theorem Dev.boundary_dsp (d : Dev) (f : Nat → Bool) : (d.boundary f).dsp = d.dsp := rfl
@[simp] theorem Dev.boundary_jtag (d : Dev) (f : Nat → Bool) : (d.boundary f).jtag = d.jtag := rfl
@[simp] theorem Dev.boundary_evq (d : Dev) (f : Nat → Bool) : (d.boundary f).evq = d.evq := rfl
@[simp] theorem Dev.boundary_out (d : Dev) (f : Nat → Bool) : (d.boundary f).out = d.out := rfl
@[simp] theorem Dev.boundary_free (d : Dev) (f : Nat → Bool) : (d.boundary f).free = d.free := rfl

/-! ## wrS -/

@[simp] theorem Dev.wrS_mem (d : Dev) (a v : Nat) : (d.wrS a v).mem = d.mem := by unfold Dev.wrS; split <;> rfl
@[simp] theorem Dev.wrS_cmt (d : Dev) (a v : Nat) : (d.wrS a v).cmt = d.cmt := by unfold Dev.wrS; split <;> rfl
@[simp] theorem Dev.wrS_bus (d : Dev) (a v : Nat) : (d.wrS a v).bus = d.bus := by unfold Dev.wrS; split <;> rfl
@[simp] theorem Dev.wrS_time (d : Dev) (a v : Nat) : (d.wrS a v).time = d.time := by unfold Dev.wrS; split <;> rfl
@[simp] theorem Dev.wrS_pin (d : Dev) (a v : Nat) : (d.wrS a v).pin = d.pin := by unfold Dev.wrS; split <;> rfl
@[simp] theorem Dev.wrS_pwr (d : Dev) (a v : Nat) : (d.wrS a v).pwr = d.pwr := by unfold Dev.wrS; split <;> rfl
@[simp] theorem Dev.wrS_red (d : Dev) (a v : Nat) : (d.wrS a v).red = d.red := by unfold Dev.wrS; split <;> rfl
@[simp] theorem Dev.wrS_key (d : Dev) (a v : Nat) : (d.wrS a v).key = d.key := by unfold Dev.wrS; split <;> rfl
@[simp] theorem Dev.wrS_clk (d : Dev) (a v : Nat) : (d.wrS a v).clk = d.clk := by unfold Dev.wrS; split <;> rfl
@[simp] theorem Dev.wrS_rst (d : Dev) (a v : Nat) : (d.wrS a v).rst = d.rst := by unfold Dev.wrS; split <;> rfl
@[simp] theorem Dev.wrS_sys (d : Dev) (a v : Nat) : (d.wrS a v).sys = d.sys := by unfold Dev.wrS; split <;> rfl
@[simp] theorem Dev.wrS_io (d : Dev) (a v : Nat) : (d.wrS a v).io = d.io := by unfold Dev.wrS; split <;> rfl
@[simp] theorem Dev.wrS_qry (d : Dev) (a v : Nat) : (d.wrS a v).qry = d.qry := by unfold Dev.wrS; split <;> rfl
@[simp] theorem Dev.wrS_ing (d : Dev) (a v : Nat) : (d.wrS a v).ing = d.ing := by unfold Dev.wrS; split <;> rfl
@[simp] theorem Dev.wrS_epc (d : Dev) (a v : Nat) : (d.wrS a v).epc = d.epc := by unfold Dev.wrS; split <;> rfl
@[simp] theorem Dev.wrS_trf (d : Dev) (a v : Nat) : (d.wrS a v).trf = d.trf := by unfold Dev.wrS; split <;> rfl
@[simp] theorem Dev.wrS_bal (d : Dev) (a v : Nat) : (d.wrS a v).bal = d.bal := by unfold Dev.wrS; split <;> rfl
@[simp] theorem Dev.wrS_obj (d : Dev) (a v : Nat) : (d.wrS a v).obj = d.obj := by unfold Dev.wrS; split <;> rfl
@[simp] theorem Dev.wrS_dst (d : Dev) (a v : Nat) : (d.wrS a v).dst = d.dst := by unfold Dev.wrS; split <;> rfl
@[simp] theorem Dev.wrS_rad (d : Dev) (a v : Nat) : (d.wrS a v).rad = d.rad := by unfold Dev.wrS; split <;> rfl
@[simp] theorem Dev.wrS_plc (d : Dev) (a v : Nat) : (d.wrS a v).plc = d.plc := by unfold Dev.wrS; split <;> rfl
@[simp] theorem Dev.wrS_trk (d : Dev) (a v : Nat) : (d.wrS a v).trk = d.trk := by unfold Dev.wrS; split <;> rfl
@[simp] theorem Dev.wrS_upl (d : Dev) (a v : Nat) : (d.wrS a v).upl = d.upl := by unfold Dev.wrS; split <;> rfl
@[simp] theorem Dev.wrS_fb (d : Dev) (a v : Nat) : (d.wrS a v).fb = d.fb := by unfold Dev.wrS; split <;> rfl
@[simp] theorem Dev.wrS_rcd (d : Dev) (a v : Nat) : (d.wrS a v).rcd = d.rcd := by unfold Dev.wrS; split <;> rfl
@[simp] theorem Dev.wrS_dsp (d : Dev) (a v : Nat) : (d.wrS a v).dsp = d.dsp := by unfold Dev.wrS; split <;> rfl
@[simp] theorem Dev.wrS_jtag (d : Dev) (a v : Nat) : (d.wrS a v).jtag = d.jtag := by unfold Dev.wrS; split <;> rfl
@[simp] theorem Dev.wrS_evq (d : Dev) (a v : Nat) : (d.wrS a v).evq = d.evq := by unfold Dev.wrS; split <;> rfl
@[simp] theorem Dev.wrS_out (d : Dev) (a v : Nat) : (d.wrS a v).out = d.out := by unfold Dev.wrS; split <;> rfl
@[simp] theorem Dev.wrS_free (d : Dev) (a v : Nat) : (d.wrS a v).free = d.free := by unfold Dev.wrS; split <;> rfl

/-! ## raise -/

@[simp] theorem Dev.raise_mem (d : Dev) (p b : Nat) : (d.raise p b).mem = d.mem := by unfold Dev.raise; dsimp only; split <;> rfl
@[simp] theorem Dev.raise_cmt (d : Dev) (p b : Nat) : (d.raise p b).cmt = d.cmt := by unfold Dev.raise; dsimp only; split <;> rfl
@[simp] theorem Dev.raise_bus (d : Dev) (p b : Nat) : (d.raise p b).bus = d.bus := by unfold Dev.raise; dsimp only; split <;> rfl
@[simp] theorem Dev.raise_time (d : Dev) (p b : Nat) : (d.raise p b).time = d.time := by unfold Dev.raise; dsimp only; split <;> rfl
@[simp] theorem Dev.raise_pin (d : Dev) (p b : Nat) : (d.raise p b).pin = d.pin := by unfold Dev.raise; dsimp only; split <;> rfl
@[simp] theorem Dev.raise_pwr (d : Dev) (p b : Nat) : (d.raise p b).pwr = d.pwr := by unfold Dev.raise; dsimp only; split <;> rfl
@[simp] theorem Dev.raise_red (d : Dev) (p b : Nat) : (d.raise p b).red = d.red := by unfold Dev.raise; dsimp only; split <;> rfl
@[simp] theorem Dev.raise_key (d : Dev) (p b : Nat) : (d.raise p b).key = d.key := by unfold Dev.raise; dsimp only; split <;> rfl
@[simp] theorem Dev.raise_clk (d : Dev) (p b : Nat) : (d.raise p b).clk = d.clk := by unfold Dev.raise; dsimp only; split <;> rfl
@[simp] theorem Dev.raise_rst (d : Dev) (p b : Nat) : (d.raise p b).rst = d.rst := by unfold Dev.raise; dsimp only; split <;> rfl
@[simp] theorem Dev.raise_sys (d : Dev) (p b : Nat) : (d.raise p b).sys = d.sys := by unfold Dev.raise; dsimp only; split <;> rfl
@[simp] theorem Dev.raise_io (d : Dev) (p b : Nat) : (d.raise p b).io = d.io := by unfold Dev.raise; dsimp only; split <;> rfl
@[simp] theorem Dev.raise_qry (d : Dev) (p b : Nat) : (d.raise p b).qry = d.qry := by unfold Dev.raise; dsimp only; split <;> rfl
@[simp] theorem Dev.raise_ing (d : Dev) (p b : Nat) : (d.raise p b).ing = d.ing := by unfold Dev.raise; dsimp only; split <;> rfl
@[simp] theorem Dev.raise_epc (d : Dev) (p b : Nat) : (d.raise p b).epc = d.epc := by unfold Dev.raise; dsimp only; split <;> rfl
@[simp] theorem Dev.raise_trf (d : Dev) (p b : Nat) : (d.raise p b).trf = d.trf := by unfold Dev.raise; dsimp only; split <;> rfl
@[simp] theorem Dev.raise_bal (d : Dev) (p b : Nat) : (d.raise p b).bal = d.bal := by unfold Dev.raise; dsimp only; split <;> rfl
@[simp] theorem Dev.raise_obj (d : Dev) (p b : Nat) : (d.raise p b).obj = d.obj := by unfold Dev.raise; dsimp only; split <;> rfl
@[simp] theorem Dev.raise_dst (d : Dev) (p b : Nat) : (d.raise p b).dst = d.dst := by unfold Dev.raise; dsimp only; split <;> rfl
@[simp] theorem Dev.raise_rad (d : Dev) (p b : Nat) : (d.raise p b).rad = d.rad := by unfold Dev.raise; dsimp only; split <;> rfl
@[simp] theorem Dev.raise_plc (d : Dev) (p b : Nat) : (d.raise p b).plc = d.plc := by unfold Dev.raise; dsimp only; split <;> rfl
@[simp] theorem Dev.raise_trk (d : Dev) (p b : Nat) : (d.raise p b).trk = d.trk := by unfold Dev.raise; dsimp only; split <;> rfl
@[simp] theorem Dev.raise_upl (d : Dev) (p b : Nat) : (d.raise p b).upl = d.upl := by unfold Dev.raise; dsimp only; split <;> rfl
@[simp] theorem Dev.raise_fb (d : Dev) (p b : Nat) : (d.raise p b).fb = d.fb := by unfold Dev.raise; dsimp only; split <;> rfl
@[simp] theorem Dev.raise_rcd (d : Dev) (p b : Nat) : (d.raise p b).rcd = d.rcd := by unfold Dev.raise; dsimp only; split <;> rfl
@[simp] theorem Dev.raise_dsp (d : Dev) (p b : Nat) : (d.raise p b).dsp = d.dsp := by unfold Dev.raise; dsimp only; split <;> rfl
@[simp] theorem Dev.raise_jtag (d : Dev) (p b : Nat) : (d.raise p b).jtag = d.jtag := by unfold Dev.raise; dsimp only; split <;> rfl
@[simp] theorem Dev.raise_out (d : Dev) (p b : Nat) : (d.raise p b).out = d.out := by unfold Dev.raise; dsimp only; split <;> rfl
@[simp] theorem Dev.raise_free (d : Dev) (p b : Nat) : (d.raise p b).free = d.free := by unfold Dev.raise; dsimp only; split <;> rfl

/-! ## logFault -/

@[simp] theorem Dev.logFault_mem (d : Dev) (p a c : Nat) (r : ReqRole) (w : Bool) : (d.logFault p a c r w).mem = d.mem := by
  unfold Dev.logFault; dsimp only; split
  · simp
  · split <;> rfl
@[simp] theorem Dev.logFault_cmt (d : Dev) (p a c : Nat) (r : ReqRole) (w : Bool) : (d.logFault p a c r w).cmt = d.cmt := by
  unfold Dev.logFault; dsimp only; split
  · simp
  · split <;> rfl
@[simp] theorem Dev.logFault_bus (d : Dev) (p a c : Nat) (r : ReqRole) (w : Bool) : (d.logFault p a c r w).bus = d.bus := by
  unfold Dev.logFault; dsimp only; split
  · simp
  · split <;> rfl
@[simp] theorem Dev.logFault_time (d : Dev) (p a c : Nat) (r : ReqRole) (w : Bool) : (d.logFault p a c r w).time = d.time := by
  unfold Dev.logFault; dsimp only; split
  · simp
  · split <;> rfl
@[simp] theorem Dev.logFault_pin (d : Dev) (p a c : Nat) (r : ReqRole) (w : Bool) : (d.logFault p a c r w).pin = d.pin := by
  unfold Dev.logFault; dsimp only; split
  · simp
  · split <;> rfl
@[simp] theorem Dev.logFault_pwr (d : Dev) (p a c : Nat) (r : ReqRole) (w : Bool) : (d.logFault p a c r w).pwr = d.pwr := by
  unfold Dev.logFault; dsimp only; split
  · simp
  · split <;> rfl
@[simp] theorem Dev.logFault_red (d : Dev) (p a c : Nat) (r : ReqRole) (w : Bool) : (d.logFault p a c r w).red = d.red := by
  unfold Dev.logFault; dsimp only; split
  · simp
  · split <;> rfl
@[simp] theorem Dev.logFault_key (d : Dev) (p a c : Nat) (r : ReqRole) (w : Bool) : (d.logFault p a c r w).key = d.key := by
  unfold Dev.logFault; dsimp only; split
  · simp
  · split <;> rfl
@[simp] theorem Dev.logFault_clk (d : Dev) (p a c : Nat) (r : ReqRole) (w : Bool) : (d.logFault p a c r w).clk = d.clk := by
  unfold Dev.logFault; dsimp only; split
  · simp
  · split <;> rfl
@[simp] theorem Dev.logFault_rst (d : Dev) (p a c : Nat) (r : ReqRole) (w : Bool) : (d.logFault p a c r w).rst = d.rst := by
  unfold Dev.logFault; dsimp only; split
  · simp
  · split <;> rfl
@[simp] theorem Dev.logFault_sys (d : Dev) (p a c : Nat) (r : ReqRole) (w : Bool) : (d.logFault p a c r w).sys = d.sys := by
  unfold Dev.logFault; dsimp only; split
  · simp
  · split <;> rfl
@[simp] theorem Dev.logFault_io (d : Dev) (p a c : Nat) (r : ReqRole) (w : Bool) : (d.logFault p a c r w).io = d.io := by
  unfold Dev.logFault; dsimp only; split
  · simp
  · split <;> rfl
@[simp] theorem Dev.logFault_qry (d : Dev) (p a c : Nat) (r : ReqRole) (w : Bool) : (d.logFault p a c r w).qry = d.qry := by
  unfold Dev.logFault; dsimp only; split
  · simp
  · split <;> rfl
@[simp] theorem Dev.logFault_ing (d : Dev) (p a c : Nat) (r : ReqRole) (w : Bool) : (d.logFault p a c r w).ing = d.ing := by
  unfold Dev.logFault; dsimp only; split
  · simp
  · split <;> rfl
@[simp] theorem Dev.logFault_epc (d : Dev) (p a c : Nat) (r : ReqRole) (w : Bool) : (d.logFault p a c r w).epc = d.epc := by
  unfold Dev.logFault; dsimp only; split
  · simp
  · split <;> rfl
@[simp] theorem Dev.logFault_trf (d : Dev) (p a c : Nat) (r : ReqRole) (w : Bool) : (d.logFault p a c r w).trf = d.trf := by
  unfold Dev.logFault; dsimp only; split
  · simp
  · split <;> rfl
@[simp] theorem Dev.logFault_bal (d : Dev) (p a c : Nat) (r : ReqRole) (w : Bool) : (d.logFault p a c r w).bal = d.bal := by
  unfold Dev.logFault; dsimp only; split
  · simp
  · split <;> rfl
@[simp] theorem Dev.logFault_obj (d : Dev) (p a c : Nat) (r : ReqRole) (w : Bool) : (d.logFault p a c r w).obj = d.obj := by
  unfold Dev.logFault; dsimp only; split
  · simp
  · split <;> rfl
@[simp] theorem Dev.logFault_dst (d : Dev) (p a c : Nat) (r : ReqRole) (w : Bool) : (d.logFault p a c r w).dst = d.dst := by
  unfold Dev.logFault; dsimp only; split
  · simp
  · split <;> rfl
@[simp] theorem Dev.logFault_rad (d : Dev) (p a c : Nat) (r : ReqRole) (w : Bool) : (d.logFault p a c r w).rad = d.rad := by
  unfold Dev.logFault; dsimp only; split
  · simp
  · split <;> rfl
@[simp] theorem Dev.logFault_plc (d : Dev) (p a c : Nat) (r : ReqRole) (w : Bool) : (d.logFault p a c r w).plc = d.plc := by
  unfold Dev.logFault; dsimp only; split
  · simp
  · split <;> rfl
@[simp] theorem Dev.logFault_trk (d : Dev) (p a c : Nat) (r : ReqRole) (w : Bool) : (d.logFault p a c r w).trk = d.trk := by
  unfold Dev.logFault; dsimp only; split
  · simp
  · split <;> rfl
@[simp] theorem Dev.logFault_upl (d : Dev) (p a c : Nat) (r : ReqRole) (w : Bool) : (d.logFault p a c r w).upl = d.upl := by
  unfold Dev.logFault; dsimp only; split
  · simp
  · split <;> rfl
@[simp] theorem Dev.logFault_fb (d : Dev) (p a c : Nat) (r : ReqRole) (w : Bool) : (d.logFault p a c r w).fb = d.fb := by
  unfold Dev.logFault; dsimp only; split
  · simp
  · split <;> rfl
@[simp] theorem Dev.logFault_rcd (d : Dev) (p a c : Nat) (r : ReqRole) (w : Bool) : (d.logFault p a c r w).rcd = d.rcd := by
  unfold Dev.logFault; dsimp only; split
  · simp
  · split <;> rfl
@[simp] theorem Dev.logFault_dsp (d : Dev) (p a c : Nat) (r : ReqRole) (w : Bool) : (d.logFault p a c r w).dsp = d.dsp := by
  unfold Dev.logFault; dsimp only; split
  · simp
  · split <;> rfl
@[simp] theorem Dev.logFault_jtag (d : Dev) (p a c : Nat) (r : ReqRole) (w : Bool) : (d.logFault p a c r w).jtag = d.jtag := by
  unfold Dev.logFault; dsimp only; split
  · simp
  · split <;> rfl
@[simp] theorem Dev.logFault_out (d : Dev) (p a c : Nat) (r : ReqRole) (w : Bool) : (d.logFault p a c r w).out = d.out := by
  unfold Dev.logFault; dsimp only; split
  · simp
  · split <;> rfl
@[simp] theorem Dev.logFault_free (d : Dev) (p a c : Nat) (r : ReqRole) (w : Bool) : (d.logFault p a c r w).free = d.free := by
  unfold Dev.logFault; dsimp only; split
  · simp
  · split <;> rfl

/-! ## violate -/

@[simp] theorem Dev.violate_mem (d : Dev) (r : Requester) (a c : Nat) (w : Bool) : (d.violate r a c w).mem = d.mem := by simp [Dev.violate]
@[simp] theorem Dev.violate_cmt (d : Dev) (r : Requester) (a c : Nat) (w : Bool) : (d.violate r a c w).cmt = d.cmt := by simp [Dev.violate]
@[simp] theorem Dev.violate_time (d : Dev) (r : Requester) (a c : Nat) (w : Bool) : (d.violate r a c w).time = d.time := by simp [Dev.violate]
@[simp] theorem Dev.violate_pin (d : Dev) (r : Requester) (a c : Nat) (w : Bool) : (d.violate r a c w).pin = d.pin := by simp [Dev.violate]
@[simp] theorem Dev.violate_pwr (d : Dev) (r : Requester) (a c : Nat) (w : Bool) : (d.violate r a c w).pwr = d.pwr := by simp [Dev.violate]
@[simp] theorem Dev.violate_red (d : Dev) (r : Requester) (a c : Nat) (w : Bool) : (d.violate r a c w).red = d.red := by simp [Dev.violate]
@[simp] theorem Dev.violate_key (d : Dev) (r : Requester) (a c : Nat) (w : Bool) : (d.violate r a c w).key = d.key := by simp [Dev.violate]
@[simp] theorem Dev.violate_clk (d : Dev) (r : Requester) (a c : Nat) (w : Bool) : (d.violate r a c w).clk = d.clk := by simp [Dev.violate]
@[simp] theorem Dev.violate_rst (d : Dev) (r : Requester) (a c : Nat) (w : Bool) : (d.violate r a c w).rst = d.rst := by simp [Dev.violate]
@[simp] theorem Dev.violate_sys (d : Dev) (r : Requester) (a c : Nat) (w : Bool) : (d.violate r a c w).sys = d.sys := by simp [Dev.violate]
@[simp] theorem Dev.violate_io (d : Dev) (r : Requester) (a c : Nat) (w : Bool) : (d.violate r a c w).io = d.io := by simp [Dev.violate]
@[simp] theorem Dev.violate_qry (d : Dev) (r : Requester) (a c : Nat) (w : Bool) : (d.violate r a c w).qry = d.qry := by simp [Dev.violate]
@[simp] theorem Dev.violate_ing (d : Dev) (r : Requester) (a c : Nat) (w : Bool) : (d.violate r a c w).ing = d.ing := by simp [Dev.violate]
@[simp] theorem Dev.violate_epc (d : Dev) (r : Requester) (a c : Nat) (w : Bool) : (d.violate r a c w).epc = d.epc := by simp [Dev.violate]
@[simp] theorem Dev.violate_trf (d : Dev) (r : Requester) (a c : Nat) (w : Bool) : (d.violate r a c w).trf = d.trf := by simp [Dev.violate]
@[simp] theorem Dev.violate_bal (d : Dev) (r : Requester) (a c : Nat) (w : Bool) : (d.violate r a c w).bal = d.bal := by simp [Dev.violate]
@[simp] theorem Dev.violate_obj (d : Dev) (r : Requester) (a c : Nat) (w : Bool) : (d.violate r a c w).obj = d.obj := by simp [Dev.violate]
@[simp] theorem Dev.violate_dst (d : Dev) (r : Requester) (a c : Nat) (w : Bool) : (d.violate r a c w).dst = d.dst := by simp [Dev.violate]
@[simp] theorem Dev.violate_rad (d : Dev) (r : Requester) (a c : Nat) (w : Bool) : (d.violate r a c w).rad = d.rad := by simp [Dev.violate]
@[simp] theorem Dev.violate_plc (d : Dev) (r : Requester) (a c : Nat) (w : Bool) : (d.violate r a c w).plc = d.plc := by simp [Dev.violate]
@[simp] theorem Dev.violate_trk (d : Dev) (r : Requester) (a c : Nat) (w : Bool) : (d.violate r a c w).trk = d.trk := by simp [Dev.violate]
@[simp] theorem Dev.violate_upl (d : Dev) (r : Requester) (a c : Nat) (w : Bool) : (d.violate r a c w).upl = d.upl := by simp [Dev.violate]
@[simp] theorem Dev.violate_fb (d : Dev) (r : Requester) (a c : Nat) (w : Bool) : (d.violate r a c w).fb = d.fb := by simp [Dev.violate]
@[simp] theorem Dev.violate_rcd (d : Dev) (r : Requester) (a c : Nat) (w : Bool) : (d.violate r a c w).rcd = d.rcd := by simp [Dev.violate]
@[simp] theorem Dev.violate_dsp (d : Dev) (r : Requester) (a c : Nat) (w : Bool) : (d.violate r a c w).dsp = d.dsp := by simp [Dev.violate]
@[simp] theorem Dev.violate_jtag (d : Dev) (r : Requester) (a c : Nat) (w : Bool) : (d.violate r a c w).jtag = d.jtag := by simp [Dev.violate]
@[simp] theorem Dev.violate_out (d : Dev) (r : Requester) (a c : Nat) (w : Bool) : (d.violate r a c w).out = d.out := by simp [Dev.violate]
@[simp] theorem Dev.violate_free (d : Dev) (r : Requester) (a c : Nat) (w : Bool) : (d.violate r a c w).free = d.free := by simp [Dev.violate]

/-! ## answer -/

@[simp] theorem Dev.answer_reg (d : Dev) (v : Nat) : (d.answer v).reg = d.reg := rfl
@[simp] theorem Dev.answer_mem (d : Dev) (v : Nat) : (d.answer v).mem = d.mem := rfl
@[simp] theorem Dev.answer_cmt (d : Dev) (v : Nat) : (d.answer v).cmt = d.cmt := rfl
@[simp] theorem Dev.answer_time (d : Dev) (v : Nat) : (d.answer v).time = d.time := rfl
@[simp] theorem Dev.answer_pin (d : Dev) (v : Nat) : (d.answer v).pin = d.pin := rfl
@[simp] theorem Dev.answer_pwr (d : Dev) (v : Nat) : (d.answer v).pwr = d.pwr := rfl
@[simp] theorem Dev.answer_red (d : Dev) (v : Nat) : (d.answer v).red = d.red := rfl
@[simp] theorem Dev.answer_key (d : Dev) (v : Nat) : (d.answer v).key = d.key := rfl
@[simp] theorem Dev.answer_clk (d : Dev) (v : Nat) : (d.answer v).clk = d.clk := rfl
@[simp] theorem Dev.answer_rst (d : Dev) (v : Nat) : (d.answer v).rst = d.rst := rfl
@[simp] theorem Dev.answer_sys (d : Dev) (v : Nat) : (d.answer v).sys = d.sys := rfl
@[simp] theorem Dev.answer_io (d : Dev) (v : Nat) : (d.answer v).io = d.io := rfl
@[simp] theorem Dev.answer_qry (d : Dev) (v : Nat) : (d.answer v).qry = d.qry := rfl
@[simp] theorem Dev.answer_ing (d : Dev) (v : Nat) : (d.answer v).ing = d.ing := rfl
@[simp] theorem Dev.answer_epc (d : Dev) (v : Nat) : (d.answer v).epc = d.epc := rfl
@[simp] theorem Dev.answer_trf (d : Dev) (v : Nat) : (d.answer v).trf = d.trf := rfl
@[simp] theorem Dev.answer_bal (d : Dev) (v : Nat) : (d.answer v).bal = d.bal := rfl
@[simp] theorem Dev.answer_obj (d : Dev) (v : Nat) : (d.answer v).obj = d.obj := rfl
@[simp] theorem Dev.answer_dst (d : Dev) (v : Nat) : (d.answer v).dst = d.dst := rfl
@[simp] theorem Dev.answer_rad (d : Dev) (v : Nat) : (d.answer v).rad = d.rad := rfl
@[simp] theorem Dev.answer_plc (d : Dev) (v : Nat) : (d.answer v).plc = d.plc := rfl
@[simp] theorem Dev.answer_trk (d : Dev) (v : Nat) : (d.answer v).trk = d.trk := rfl
@[simp] theorem Dev.answer_upl (d : Dev) (v : Nat) : (d.answer v).upl = d.upl := rfl
@[simp] theorem Dev.answer_fb (d : Dev) (v : Nat) : (d.answer v).fb = d.fb := rfl
@[simp] theorem Dev.answer_rcd (d : Dev) (v : Nat) : (d.answer v).rcd = d.rcd := rfl
@[simp] theorem Dev.answer_dsp (d : Dev) (v : Nat) : (d.answer v).dsp = d.dsp := rfl
@[simp] theorem Dev.answer_jtag (d : Dev) (v : Nat) : (d.answer v).jtag = d.jtag := rfl
@[simp] theorem Dev.answer_evq (d : Dev) (v : Nat) : (d.answer v).evq = d.evq := rfl
@[simp] theorem Dev.answer_out (d : Dev) (v : Nat) : (d.answer v).out = d.out := rfl
@[simp] theorem Dev.answer_free (d : Dev) (v : Nat) : (d.answer v).free = d.free := rfl

/-! ## tookFree -/

@[simp] theorem Dev.tookFree_reg (d : Dev) (n : Nat) : (d.tookFree n).reg = d.reg := rfl
@[simp] theorem Dev.tookFree_mem (d : Dev) (n : Nat) : (d.tookFree n).mem = d.mem := rfl
@[simp] theorem Dev.tookFree_cmt (d : Dev) (n : Nat) : (d.tookFree n).cmt = d.cmt := rfl
@[simp] theorem Dev.tookFree_bus (d : Dev) (n : Nat) : (d.tookFree n).bus = d.bus := rfl
@[simp] theorem Dev.tookFree_time (d : Dev) (n : Nat) : (d.tookFree n).time = d.time := rfl
@[simp] theorem Dev.tookFree_pin (d : Dev) (n : Nat) : (d.tookFree n).pin = d.pin := rfl
@[simp] theorem Dev.tookFree_pwr (d : Dev) (n : Nat) : (d.tookFree n).pwr = d.pwr := rfl
@[simp] theorem Dev.tookFree_red (d : Dev) (n : Nat) : (d.tookFree n).red = d.red := rfl
@[simp] theorem Dev.tookFree_key (d : Dev) (n : Nat) : (d.tookFree n).key = d.key := rfl
@[simp] theorem Dev.tookFree_clk (d : Dev) (n : Nat) : (d.tookFree n).clk = d.clk := rfl
@[simp] theorem Dev.tookFree_rst (d : Dev) (n : Nat) : (d.tookFree n).rst = d.rst := rfl
@[simp] theorem Dev.tookFree_sys (d : Dev) (n : Nat) : (d.tookFree n).sys = d.sys := rfl
@[simp] theorem Dev.tookFree_io (d : Dev) (n : Nat) : (d.tookFree n).io = d.io := rfl
@[simp] theorem Dev.tookFree_qry (d : Dev) (n : Nat) : (d.tookFree n).qry = d.qry := rfl
@[simp] theorem Dev.tookFree_ing (d : Dev) (n : Nat) : (d.tookFree n).ing = d.ing := rfl
@[simp] theorem Dev.tookFree_epc (d : Dev) (n : Nat) : (d.tookFree n).epc = d.epc := rfl
@[simp] theorem Dev.tookFree_trf (d : Dev) (n : Nat) : (d.tookFree n).trf = d.trf := rfl
@[simp] theorem Dev.tookFree_bal (d : Dev) (n : Nat) : (d.tookFree n).bal = d.bal := rfl
@[simp] theorem Dev.tookFree_obj (d : Dev) (n : Nat) : (d.tookFree n).obj = d.obj := rfl
@[simp] theorem Dev.tookFree_dst (d : Dev) (n : Nat) : (d.tookFree n).dst = d.dst := rfl
@[simp] theorem Dev.tookFree_rad (d : Dev) (n : Nat) : (d.tookFree n).rad = d.rad := rfl
@[simp] theorem Dev.tookFree_plc (d : Dev) (n : Nat) : (d.tookFree n).plc = d.plc := rfl
@[simp] theorem Dev.tookFree_trk (d : Dev) (n : Nat) : (d.tookFree n).trk = d.trk := rfl
@[simp] theorem Dev.tookFree_upl (d : Dev) (n : Nat) : (d.tookFree n).upl = d.upl := rfl
@[simp] theorem Dev.tookFree_fb (d : Dev) (n : Nat) : (d.tookFree n).fb = d.fb := rfl
@[simp] theorem Dev.tookFree_rcd (d : Dev) (n : Nat) : (d.tookFree n).rcd = d.rcd := rfl
@[simp] theorem Dev.tookFree_dsp (d : Dev) (n : Nat) : (d.tookFree n).dsp = d.dsp := rfl
@[simp] theorem Dev.tookFree_jtag (d : Dev) (n : Nat) : (d.tookFree n).jtag = d.jtag := rfl
@[simp] theorem Dev.tookFree_evq (d : Dev) (n : Nat) : (d.tookFree n).evq = d.evq := rfl
@[simp] theorem Dev.tookFree_out (d : Dev) (n : Nat) : (d.tookFree n).out = d.out := rfl

/-! ## send -/

@[simp] theorem Dev.send_reg (d : Dev) (p : OutPort) (bs : Bytes) : (d.send p bs).reg = d.reg := rfl
@[simp] theorem Dev.send_mem (d : Dev) (p : OutPort) (bs : Bytes) : (d.send p bs).mem = d.mem := rfl
@[simp] theorem Dev.send_cmt (d : Dev) (p : OutPort) (bs : Bytes) : (d.send p bs).cmt = d.cmt := rfl
@[simp] theorem Dev.send_bus (d : Dev) (p : OutPort) (bs : Bytes) : (d.send p bs).bus = d.bus := rfl
@[simp] theorem Dev.send_time (d : Dev) (p : OutPort) (bs : Bytes) : (d.send p bs).time = d.time := rfl
@[simp] theorem Dev.send_pin (d : Dev) (p : OutPort) (bs : Bytes) : (d.send p bs).pin = d.pin := rfl
@[simp] theorem Dev.send_pwr (d : Dev) (p : OutPort) (bs : Bytes) : (d.send p bs).pwr = d.pwr := rfl
@[simp] theorem Dev.send_red (d : Dev) (p : OutPort) (bs : Bytes) : (d.send p bs).red = d.red := rfl
@[simp] theorem Dev.send_key (d : Dev) (p : OutPort) (bs : Bytes) : (d.send p bs).key = d.key := rfl
@[simp] theorem Dev.send_clk (d : Dev) (p : OutPort) (bs : Bytes) : (d.send p bs).clk = d.clk := rfl
@[simp] theorem Dev.send_rst (d : Dev) (p : OutPort) (bs : Bytes) : (d.send p bs).rst = d.rst := rfl
@[simp] theorem Dev.send_sys (d : Dev) (p : OutPort) (bs : Bytes) : (d.send p bs).sys = d.sys := rfl
@[simp] theorem Dev.send_io (d : Dev) (p : OutPort) (bs : Bytes) : (d.send p bs).io = d.io := rfl
@[simp] theorem Dev.send_qry (d : Dev) (p : OutPort) (bs : Bytes) : (d.send p bs).qry = d.qry := rfl
@[simp] theorem Dev.send_ing (d : Dev) (p : OutPort) (bs : Bytes) : (d.send p bs).ing = d.ing := rfl
@[simp] theorem Dev.send_epc (d : Dev) (p : OutPort) (bs : Bytes) : (d.send p bs).epc = d.epc := rfl
@[simp] theorem Dev.send_trf (d : Dev) (p : OutPort) (bs : Bytes) : (d.send p bs).trf = d.trf := rfl
@[simp] theorem Dev.send_bal (d : Dev) (p : OutPort) (bs : Bytes) : (d.send p bs).bal = d.bal := rfl
@[simp] theorem Dev.send_obj (d : Dev) (p : OutPort) (bs : Bytes) : (d.send p bs).obj = d.obj := rfl
@[simp] theorem Dev.send_dst (d : Dev) (p : OutPort) (bs : Bytes) : (d.send p bs).dst = d.dst := rfl
@[simp] theorem Dev.send_rad (d : Dev) (p : OutPort) (bs : Bytes) : (d.send p bs).rad = d.rad := rfl
@[simp] theorem Dev.send_plc (d : Dev) (p : OutPort) (bs : Bytes) : (d.send p bs).plc = d.plc := rfl
@[simp] theorem Dev.send_trk (d : Dev) (p : OutPort) (bs : Bytes) : (d.send p bs).trk = d.trk := rfl
@[simp] theorem Dev.send_upl (d : Dev) (p : OutPort) (bs : Bytes) : (d.send p bs).upl = d.upl := rfl
@[simp] theorem Dev.send_fb (d : Dev) (p : OutPort) (bs : Bytes) : (d.send p bs).fb = d.fb := rfl
@[simp] theorem Dev.send_rcd (d : Dev) (p : OutPort) (bs : Bytes) : (d.send p bs).rcd = d.rcd := rfl
@[simp] theorem Dev.send_dsp (d : Dev) (p : OutPort) (bs : Bytes) : (d.send p bs).dsp = d.dsp := rfl
@[simp] theorem Dev.send_jtag (d : Dev) (p : OutPort) (bs : Bytes) : (d.send p bs).jtag = d.jtag := rfl
@[simp] theorem Dev.send_evq (d : Dev) (p : OutPort) (bs : Bytes) : (d.send p bs).evq = d.evq := rfl
@[simp] theorem Dev.send_free (d : Dev) (p : OutPort) (bs : Bytes) : (d.send p bs).free = d.free := rfl

/-! ## putByte -/

@[simp] theorem Dev.putByte_reg (d : Dev) (a : Nat) (v : Byte) : (d.putByte a v).reg = d.reg := rfl
@[simp] theorem Dev.putByte_cmt (d : Dev) (a : Nat) (v : Byte) : (d.putByte a v).cmt = d.cmt := rfl
@[simp] theorem Dev.putByte_bus (d : Dev) (a : Nat) (v : Byte) : (d.putByte a v).bus = d.bus := rfl
@[simp] theorem Dev.putByte_time (d : Dev) (a : Nat) (v : Byte) : (d.putByte a v).time = d.time := rfl
@[simp] theorem Dev.putByte_pin (d : Dev) (a : Nat) (v : Byte) : (d.putByte a v).pin = d.pin := rfl
@[simp] theorem Dev.putByte_pwr (d : Dev) (a : Nat) (v : Byte) : (d.putByte a v).pwr = d.pwr := rfl
@[simp] theorem Dev.putByte_red (d : Dev) (a : Nat) (v : Byte) : (d.putByte a v).red = d.red := rfl
@[simp] theorem Dev.putByte_key (d : Dev) (a : Nat) (v : Byte) : (d.putByte a v).key = d.key := rfl
@[simp] theorem Dev.putByte_clk (d : Dev) (a : Nat) (v : Byte) : (d.putByte a v).clk = d.clk := rfl
@[simp] theorem Dev.putByte_rst (d : Dev) (a : Nat) (v : Byte) : (d.putByte a v).rst = d.rst := rfl
@[simp] theorem Dev.putByte_sys (d : Dev) (a : Nat) (v : Byte) : (d.putByte a v).sys = d.sys := rfl
@[simp] theorem Dev.putByte_io (d : Dev) (a : Nat) (v : Byte) : (d.putByte a v).io = d.io := rfl
@[simp] theorem Dev.putByte_qry (d : Dev) (a : Nat) (v : Byte) : (d.putByte a v).qry = d.qry := rfl
@[simp] theorem Dev.putByte_ing (d : Dev) (a : Nat) (v : Byte) : (d.putByte a v).ing = d.ing := rfl
@[simp] theorem Dev.putByte_epc (d : Dev) (a : Nat) (v : Byte) : (d.putByte a v).epc = d.epc := rfl
@[simp] theorem Dev.putByte_trf (d : Dev) (a : Nat) (v : Byte) : (d.putByte a v).trf = d.trf := rfl
@[simp] theorem Dev.putByte_bal (d : Dev) (a : Nat) (v : Byte) : (d.putByte a v).bal = d.bal := rfl
@[simp] theorem Dev.putByte_obj (d : Dev) (a : Nat) (v : Byte) : (d.putByte a v).obj = d.obj := rfl
@[simp] theorem Dev.putByte_dst (d : Dev) (a : Nat) (v : Byte) : (d.putByte a v).dst = d.dst := rfl
@[simp] theorem Dev.putByte_rad (d : Dev) (a : Nat) (v : Byte) : (d.putByte a v).rad = d.rad := rfl
@[simp] theorem Dev.putByte_plc (d : Dev) (a : Nat) (v : Byte) : (d.putByte a v).plc = d.plc := rfl
@[simp] theorem Dev.putByte_trk (d : Dev) (a : Nat) (v : Byte) : (d.putByte a v).trk = d.trk := rfl
@[simp] theorem Dev.putByte_upl (d : Dev) (a : Nat) (v : Byte) : (d.putByte a v).upl = d.upl := rfl
@[simp] theorem Dev.putByte_fb (d : Dev) (a : Nat) (v : Byte) : (d.putByte a v).fb = d.fb := rfl
@[simp] theorem Dev.putByte_rcd (d : Dev) (a : Nat) (v : Byte) : (d.putByte a v).rcd = d.rcd := rfl
@[simp] theorem Dev.putByte_dsp (d : Dev) (a : Nat) (v : Byte) : (d.putByte a v).dsp = d.dsp := rfl
@[simp] theorem Dev.putByte_jtag (d : Dev) (a : Nat) (v : Byte) : (d.putByte a v).jtag = d.jtag := rfl
@[simp] theorem Dev.putByte_evq (d : Dev) (a : Nat) (v : Byte) : (d.putByte a v).evq = d.evq := rfl
@[simp] theorem Dev.putByte_out (d : Dev) (a : Nat) (v : Byte) : (d.putByte a v).out = d.out := rfl
@[simp] theorem Dev.putByte_free (d : Dev) (a : Nat) (v : Byte) : (d.putByte a v).free = d.free := rfl

/-! ## Bits -/

/-- Taking away the bits of a mask, bit by bit. -/
theorem testBit_sub_and (a b k : Nat) : (a - (a &&& b)).testBit k = (a.testBit k && !b.testBit k) := by
  induction k generalizing a b with
  | zero =>
    have h : (a &&& b) ≤ a := Nat.and_le_left
    have hm : (a &&& b) % 2 = a % 2 &&& b % 2 := Nat.and_mod_two_pow (n := 1)
    have key : (a - (a &&& b)) % 2 = if a % 2 = 1 ∧ b % 2 = 0 then 1 else 0 := by
      rcases Nat.mod_two_eq_zero_or_one a with h1 | h1 <;> rcases Nat.mod_two_eq_zero_or_one b with h2 | h2 <;>
        rw [h1, h2] at hm
      · have hm' : (a &&& b) % 2 = 0 := hm
        split <;> omega
      · have hm' : (a &&& b) % 2 = 0 := hm
        split <;> omega
      · have hm' : (a &&& b) % 2 = 0 := hm
        split <;> omega
      · have hm' : (a &&& b) % 2 = 1 := hm
        split <;> omega
    rw [Nat.testBit_zero, Nat.testBit_zero, Nat.testBit_zero, key]
    rcases Nat.mod_two_eq_zero_or_one a with h1 | h1 <;> rcases Nat.mod_two_eq_zero_or_one b with h2 | h2 <;> simp [h1, h2]
  | succ k ih =>
    have h : (a &&& b) ≤ a := Nat.and_le_left
    have hm : (a &&& b) % 2 = a % 2 &&& b % 2 := Nat.and_mod_two_pow (n := 1)
    have hle : (a &&& b) % 2 ≤ a % 2 := by rw [hm]; exact Nat.and_le_left
    have hd : (a &&& b) / 2 = a / 2 &&& b / 2 := Nat.and_div_two
    rw [Nat.testBit_succ, Nat.testBit_succ, Nat.testBit_succ, ← ih, ← hd]
    congr 1
    omega

/-- A number with bit i replaced, as quotient and remainder. -/
theorem setBit_eq (n i : Nat) (b : Bool) : setBit n i b = n % 2 ^ i + 2 ^ i * (2 * (n / 2 ^ i / 2) + b2n b) := by
  have hb : b2n b % 2 = b2n b := by cases b <;> rfl
  unfold setBit setFld bitsOf
  simp only [Nat.add_sub_cancel_left, Nat.pow_one, Nat.shiftRight_eq_div_pow, Nat.shiftLeft_eq, hb]
  have h1 := Nat.div_add_mod n (2 ^ i)
  have h2 := Nat.div_add_mod (n / 2 ^ i) 2
  generalize 2 ^ i = p at *
  generalize n / p = q at *
  generalize n % p = r at *
  have h3 : p * q = p * (2 * (q / 2)) + q % 2 * p := by
    conv => lhs; rw [← h2]
    rw [Nat.mul_add, Nat.mul_comm p (q % 2)]
  rw [Nat.mul_add, Nat.mul_comm p (b2n b)]
  omega

theorem testBit_setBit_same (n i : Nat) (b : Bool) : (setBit n i b).testBit i = b := by
  rw [setBit_eq, Nat.testBit_eq_decide_div_mod_eq]
  have hp : 0 < 2 ^ i := Nat.two_pow_pos i
  rw [Nat.add_mul_div_left _ _ hp, Nat.div_eq_of_lt (Nat.mod_lt _ hp)]
  cases b <;> simp [b2n] <;> omega

theorem testBit_setBit_other (n : Nat) {i j : Nat} (b : Bool) (h : j ≠ i) : (setBit n i b).testBit j = n.testBit j := by
  rw [setBit_eq]
  have hp : 0 < 2 ^ i := Nat.two_pow_pos i
  have hr : n % 2 ^ i < 2 ^ i := Nat.mod_lt _ hp
  rw [Nat.add_comm, Nat.testBit_two_pow_mul_add _ hr]
  by_cases hj : j < i
  · rw [if_pos hj, Nat.testBit_mod_two_pow]
    simp [hj]
  · rw [if_neg hj]
    obtain ⟨k, rfl⟩ : ∃ k, j = i + k + 1 := ⟨j - i - 1, by omega⟩
    have e : i + k + 1 - i = k + 1 := by omega
    rw [e, Nat.testBit_succ]
    have hd : (2 * (n / 2 ^ i / 2) + b2n b) / 2 = n / 2 ^ i / 2 := by cases b <;> simp [b2n] <;> omega
    rw [hd]
    have : n.testBit (i + k + 1) = (n / 2 ^ i).testBit (k + 1) := by
      rw [← Nat.shiftRight_eq_div_pow, Nat.testBit_shiftRight, Nat.add_assoc]
    rw [this, Nat.testBit_succ]

theorem setBit_lt {n i : Nat} {w : Nat} (b : Bool) (hn : n < 2 ^ w) (hi : i < w) : setBit n i b < 2 ^ w := by
  refine Nat.lt_pow_two_of_testBit _ fun j hj => ?_
  rw [testBit_setBit_other _ _ (by omega)]
  exact Nat.testBit_lt_two_pow (Nat.lt_of_lt_of_le hn (Nat.pow_le_pow_right (by decide) hj))

/-! ## Registers -/

theorem Dev.rd_wr_same (d : Dev) (a v : Nat) : (d.wr a v).rd a = v % 2 ^ 32 := by
  simp [Dev.rd, Dev.wr]

@[simp] theorem Dev.rd_wr_lt (d : Dev) {a v : Nat} (h : v < 2 ^ 32) : (d.wr a v).rd a = v := by
  rw [Dev.rd_wr_same]; exact Nat.mod_eq_of_lt h

theorem Dev.rd_wr_other (d : Dev) {a b : Nat} (v : Nat) (h : b ≠ a) : (d.wr a v).rd b = d.rd b := by
  simp [Dev.rd, Dev.wr, RegMap.get_put_other, h]

theorem Dev.rd_lt (d : Dev) (a : Nat) : d.rd a < 2 ^ 32 := (RegMap.get resetWord d.reg.live a).isLt

@[simp] theorem Dev.rdShadow_wr (d : Dev) (a b v : Nat) : (d.wr a v).rdShadow b = d.rdShadow b := rfl

theorem Dev.rdShadow_wrShadow_same (d : Dev) (a v : Nat) : (d.wrShadow a v).rdShadow a = v % 2 ^ 32 := by
  simp [Dev.rdShadow, Dev.wrShadow]

theorem Dev.rdShadow_wrShadow_other (d : Dev) {a b : Nat} (v : Nat) (h : b ≠ a) :
    (d.wrShadow a v).rdShadow b = d.rdShadow b := by
  simp [Dev.rdShadow, Dev.wrShadow, RegMap.get_put_other, h]

@[simp] theorem Dev.rd_wrShadow (d : Dev) (a b v : Nat) : (d.wrShadow a v).rd b = d.rd b := rfl
@[simp] theorem Dev.rd_answer (d : Dev) (v a : Nat) : (d.answer v).rd a = d.rd a := rfl
@[simp] theorem Dev.rd_send (d : Dev) (p : OutPort) (bs : Bytes) (a : Nat) : (d.send p bs).rd a = d.rd a := rfl
@[simp] theorem Dev.rd_tookFree (d : Dev) (n a : Nat) : (d.tookFree n).rd a = d.rd a := rfl
@[simp] theorem Dev.rd_putByte (d : Dev) (a b : Nat) (v : Byte) : (d.putByte a v).rd b = d.rd b := rfl
@[simp] theorem Dev.dirty_wr (d : Dev) (a v : Nat) : (d.wr a v).reg.dirty = d.reg.dirty := rfl
@[simp] theorem Dev.shadow_wr (d : Dev) (a v : Nat) : (d.wr a v).reg.shadow = d.reg.shadow := rfl

/-- Raising an event changes no register but the page's pending word. -/
theorem Dev.rd_raise_other (d : Dev) (p b : Nat) {a : Nat} (h : a ≠ PG_EVT_PEND p) : (d.raise p b).rd a = d.rd a := by
  unfold Dev.raise
  dsimp only
  split
  · exact Dev.rd_wr_other _ _ h
  · rfl

/-- An event that PG_EVT_EN lets through, and event 55 always, sets its pending bit. -/
theorem Dev.rd_raise_pend (d : Dev) (p : Nat) {b : Nat} (hb : b < 32) (he : b = 31 ∨ d.bit (PG_EVT_EN p) b = true) :
    (d.raise p b).rd (PG_EVT_PEND p) = d.rd (PG_EVT_PEND p) ||| 2 ^ b := by
  unfold Dev.raise
  dsimp only
  split
  · unfold Dev.setPend
    rw [Dev.rd_wr_same]
    show (d.rd (PG_EVT_PEND p) ||| 2 ^ b) % 2 ^ 32 = _
    exact Nat.mod_eq_of_lt (Nat.or_lt_two_pow (d.rd_lt _) (Nat.pow_lt_pow_right (by decide) hb))
  · rename_i h
    exact absurd he h

/-- An event that PG_EVT_EN holds back changes no register. -/
theorem Dev.rd_raise_silent (d : Dev) (p a : Nat) {b : Nat} (hb : b ≠ 31) (he : d.bit (PG_EVT_EN p) b = false) :
    (d.raise p b).rd a = d.rd a := by
  unfold Dev.raise
  dsimp only
  split
  · rename_i h
    rcases h with h | h
    · exact absurd h hb
    · exact absurd (he.symm.trans h) (by decide)
  · rfl

/-- A raising enters the queue of the recorder. -/
theorem Dev.evq_raise (d : Dev) (p b : Nat) : ∃ e, (d.raise p b).evq = d.evq ++ [e] ∧ e.event = eventAt p b ∧ e.page = p ∧ e.ext = d.ext := by
  unfold Dev.raise
  dsimp only
  split <;> exact ⟨_, rfl, rfl, rfl, rfl⟩

/-- Logging a violation changes no word but the page's log and pending word, and no staged word. -/
theorem Dev.rd_logFault_other (d : Dev) (p a c : Nat) (r : ReqRole) (w : Bool) {b : Nat} (h1 : b ≠ PG_FAULT_ADDR p)
    (h2 : b ≠ PG_FAULT_INFO p) (h3 : b ≠ PG_EVT_PEND p) : (d.logFault p a c r w).rd b = d.rd b := by
  unfold Dev.logFault
  dsimp only
  split
  · rw [Dev.rd_raise_other _ _ _ h3, Dev.rd_wr_other _ _ h2, Dev.rd_wr_other _ _ h1]
  · split
    · rw [Dev.rd_wr_other _ _ h2]
    · rfl

@[simp] theorem Dev.shadow_raise (d : Dev) (p b : Nat) : (d.raise p b).reg.shadow = d.reg.shadow := by
  unfold Dev.raise; dsimp only; split <;> rfl
@[simp] theorem Dev.dirty_raise (d : Dev) (p b : Nat) : (d.raise p b).reg.dirty = d.reg.dirty := by
  unfold Dev.raise; dsimp only; split <;> rfl
@[simp] theorem Dev.shadow_logFault (d : Dev) (p a c : Nat) (r : ReqRole) (w : Bool) :
    (d.logFault p a c r w).reg.shadow = d.reg.shadow := by
  unfold Dev.logFault; dsimp only; split
  · simp
  · split <;> rfl
@[simp] theorem Dev.dirty_logFault (d : Dev) (p a c : Nat) (r : ReqRole) (w : Bool) :
    (d.logFault p a c r w).reg.dirty = d.reg.dirty := by
  unfold Dev.logFault; dsimp only; split
  · simp
  · split <;> rfl

/-! ## Memory -/

theorem Dev.ldByte_putByte_same (d : Dev) (a : Nat) (v : Byte) (h : Memory.wf d.mem = true) : (d.putByte a v).ldByte a = v :=
  Cells.get_put_same a v h

theorem Dev.ldByte_putByte_other (d : Dev) {a b : Nat} (v : Byte) (hb : b ≠ a) (h : Memory.wf d.mem = true) :
    (d.putByte a v).ldByte b = d.ldByte b :=
  Cells.get_put_other v hb h

theorem Dev.wf_putByte (d : Dev) (a : Nat) (v : Byte) (h : Memory.wf d.mem = true) : Memory.wf (d.putByte a v).mem = true :=
  Cells.wf_put a v h

theorem Dev.wf_stByte (d : Dev) (a : Nat) (v : Byte) (h : Memory.wf d.mem = true) : Memory.wf (d.stByte a v).mem = true := by
  unfold Dev.stByte
  split
  · exact d.wf_putByte a v h
  · exact h

theorem Dev.wf_putBytes (d : Dev) (a : Nat) (bs : Bytes) (h : Memory.wf d.mem = true) : Memory.wf (d.putBytes a bs).mem = true := by
  induction bs generalizing d a with
  | nil => exact h
  | cons b t ih => exact ih _ _ (d.wf_putByte a b h)

theorem Dev.wf_stBytes (d : Dev) (a : Nat) (bs : Bytes) (h : Memory.wf d.mem = true) : Memory.wf (d.stBytes a bs).mem = true := by
  induction bs generalizing d a with
  | nil => exact h
  | cons b t ih => exact ih _ _ (d.wf_stByte a b h)

theorem Dev.wf_st (d : Dev) (a n v : Nat) (h : Memory.wf d.mem = true) : Memory.wf (d.st a n v).mem = true :=
  d.wf_stBytes a _ h

/-- What a reset, an erasure of the NOR and an erasure of a record sector do to memory: cells are forgotten. -/
theorem Memory.wf_forget (m : Cells) (p : Nat → Bool) (h : Memory.wf m = true) : Memory.wf (Cells.forget p m) = true :=
  Cells.wf_forget p h

theorem Dev.mem_reset_wf : Memory.wf Dev.reset.mem = true := rfl

end Sys2Proof.Machine
end

