-- ==== Sys2Proof/Laws/Bus.lean ====
section
/-!
SUPPORT. What a 32-bit access of a requester does once the access rules admit it.
-/
namespace Sys2Proof.Machine

/-- A command of the internal logic completes with its effect while nothing holds the logic. -/
theorem State.logic_awake {s : State} (h : Awake s) (f : Dev → Dev) : s.logic f = .next { s with dev := f s.dev } := by
  simp only [State.logic, State.act, h]
  rfl

/-- While the logic is held a command changes nothing (R368). -/
theorem State.logic_held {s : State} (h : s.dev.jtag.holds = true) (f : Dev → Dev) : s.logic f = .next s := by
  simp [State.logic, State.act, h]

/-- A command of the internal logic completes with its effect. -/
theorem completes_logic {c : Instr} {s : State} {P : Dev → Prop} (f : Dev → Dev) (hx : exec c s = s.logic f) (h : Awake s)
    (hp : P (f s.dev)) : Completes c s P :=
  ⟨_, hx.trans (State.logic_awake h f), rfl, hp⟩

/-- A command that no held logic stops completes with its effect. -/
theorem completes_act {c : Instr} {s : State} {P : Dev → Prop} (f : Dev → Dev) (hx : exec c s = s.act f)
    (hp : P (f s.dev)) : Completes c s P :=
  ⟨_, hx, rfl, hp⟩

/-! ## Where addresses lie -/

theorem regionOf_page {p off : Nat} (hp : p < 32) (ho : off < 0x1000) : regionOf (pageBase p + off) = .page p off := by
  unfold regionOf pageBase
  rw [if_neg (by omega), if_neg (by omega), if_neg (by omega), if_neg (by omega), if_pos (by omega)]
  have h1 : (0xE0000000 + 0x1000 * p + off - 0xE0000000) / 0x1000 = p := by omega
  have h2 : (0xE0000000 + 0x1000 * p + off - 0xE0000000) % 0x1000 = off := by omega
  rw [h1, h2]

theorem regionOf_queue {q off : Nat} (hq : q < 1024) (ho : off < 64) : regionOf (0xE0100000 + 64 * q + off) = .queue q off false := by
  unfold regionOf
  rw [if_neg (by omega), if_neg (by omega), if_neg (by omega), if_neg (by omega), if_neg (by omega), if_pos (by omega)]
  have h1 : (0xE0100000 + 64 * q + off - 0xE0100000) / 64 = q := by omega
  have h2 : (0xE0100000 + 64 * q + off - 0xE0100000) % 64 = off := by omega
  rw [h1, h2]

theorem regionOf_lane {n off : Nat} (hn : n < 512) (ho : off < 128) : regionOf (0xE0120000 + 128 * n + off) = .lane n off false := by
  unfold regionOf
  rw [if_neg (by omega), if_neg (by omega), if_neg (by omega), if_neg (by omega), if_neg (by omega), if_neg (by omega),
    if_pos (by omega)]
  have h1 : (0xE0120000 + 128 * n + off - 0xE0120000) / 128 = n := by omega
  have h2 : (0xE0120000 + 128 * n + off - 0xE0120000) % 128 = off := by omega
  rw [h1, h2]

/-- A header word of a page. -/
theorem Dev.named_head (d : Dev) {p off : Nat} (hp : p < 32) (ho : off < 0x28) : d.named (pageBase p + off) = .head p off := by
  unfold Dev.named
  rw [regionOf_page hp (by omega)]
  simp only [ho, if_true]

/-- A live register of a page. -/
theorem Dev.named_page (d : Dev) {p off : Nat} {x : RegDesc} {i : Nat} (hp : p < 32) (h1 : 0x100 ≤ off) (h2 : off < 0x700)
    (hf : findDesc off (pageRegs p) = some (x, i)) : d.named (pageBase p + off) = .live x i := by
  unfold Dev.named Dev.descAt
  rw [regionOf_page hp (by omega)]
  simp only
  rw [if_neg (by omega), if_neg (by omega), if_pos h2, if_neg (by omega), hf]

/-- A live register of the per-queue array. -/
theorem Dev.named_queue (d : Dev) {q off : Nat} {x : RegDesc} {i : Nat} (hq : q < 1024) (ho : off < 64)
    (hf : findDesc off regsQueue = some (x, i)) : d.named (0xE0100000 + 64 * q + off) = .live x i := by
  unfold Dev.named Dev.descAt
  rw [regionOf_queue hq ho]
  simp only [hf]

/-- A live register of the lane context array, by the layout of the lane's LINK. -/
theorem Dev.named_lane (d : Dev) {n off : Nat} {x : RegDesc} {i : Nat} (hn : n < 512) (ho : off < 128)
    (hf : findDesc off (laneRegs (d.laneLink n)) = some (x, i)) : d.named (0xE0120000 + 128 * n + off) = .live x i := by
  unfold Dev.named Dev.descAt
  rw [regionOf_lane hn ho]
  simp only [hf]

theorem inRegs_page {p off : Nat} (hp : p < 32) (ho : off < 0x1000) : inRegs (pageBase p + off) = true := by
  unfold inRegs
  rw [regionOf_page hp ho]

theorem inRegs_queue {q off : Nat} (hq : q < 1024) (ho : off < 64) : inRegs (0xE0100000 + 64 * q + off) = true := by
  unfold inRegs
  rw [regionOf_queue hq ho]

theorem inRegs_lane {n off : Nat} (hn : n < 512) (ho : off < 128) : inRegs (0xE0120000 + 128 * n + off) = true := by
  unfold inRegs
  rw [regionOf_lane hn ho]

/-! ## Writes -/

/-- The device after a write that its block has judged. -/
def Dev.written (d : Dev) (r : Requester) (a : Nat) : WriteRes → Dev
  | .refuse c => d.violate r a c true
  | .plain => d.answer 0
  | .done e => e.answer 0

@[simp] theorem Dev.written_done (d e : Dev) (r : Requester) (a : Nat) : d.written r a (.done e) = e.answer 0 := rfl
@[simp] theorem Dev.written_plain (d : Dev) (r : Requester) (a : Nat) : d.written r a .plain = d.answer 0 := rfl
@[simp] theorem Dev.written_refuse (d : Dev) (r : Requester) (a c : Nat) : d.written r a (.refuse c) = d.violate r a c true := rfl

theorem Dev.poke_written (d : Dev) (r : Requester) (a v : Nat) : d.poke r a v = d.written r a (d.writeRes r a 4 v) := by
  unfold Dev.poke Dev.busWrite Dev.written
  rfl

/-- A write that the rules admit at a live register is judged by its class. -/
theorem Dev.poke_live {d : Dev} {r : Requester} {a : Nat} {x : RegDesc} {i : Nat} (v : Nat) (hr : inRegs a = true)
    (ha : a % 4 = 0) (hn : d.named a = .live x i) (hm : d.mayWrite r a = true) :
    d.poke r a v = d.written r a (d.writeLive r x a (v % 2 ^ 32)) := by
  have hv : v % 2 ^ (8 * 4) = v % 2 ^ 32 := rfl
  rw [Dev.poke_written]
  unfold Dev.writeRes
  unfold Dev.mayWrite at hm
  rw [hn] at hm
  simp only [Bool.and_eq_true] at hm
  simp only [hr, ha, hn, hv, hm.1.1, hm.1.2, hm.2]
  simp

/-- A write that the rules admit at a header word. -/
theorem Dev.poke_head {d : Dev} {r : Requester} {a p off : Nat} (v : Nat) (hr : inRegs a = true)
    (ha : a % 4 = 0) (hn : d.named a = .head p off) (hm : d.mayWrite r a = true) :
    d.poke r a v = d.written r a (d.writeHead p off (v % 2 ^ 32)) := by
  have hv : v % 2 ^ (8 * 4) = v % 2 ^ 32 := rfl
  rw [Dev.poke_written]
  unfold Dev.writeRes
  unfold Dev.mayWrite at hm
  rw [hn] at hm
  simp only [Bool.and_eq_true] at hm
  simp only [hr, ha, hn, hv, hm.1, hm.2]
  simp

/-- A write that the rules admit at a shadow word is staged by the keystone's rules. -/
theorem Dev.poke_shadow {d : Dev} {r : Requester} {a : Nat} {x : RegDesc} {i l : Nat} (v : Nat) (hr : inRegs a = true)
    (ha : a % 4 = 0) (hn : d.named a = .shadow x i l) (hm : d.mayWrite r a = true) :
    d.poke r a v = d.written r a (d.stageWrite r x l (v % 2 ^ 32)) := by
  have hv : v % 2 ^ (8 * 4) = v % 2 ^ 32 := rfl
  rw [Dev.poke_written]
  unfold Dev.writeRes
  unfold Dev.mayWrite at hm
  rw [hn] at hm
  simp only [Bool.and_eq_true] at hm
  simp only [hr, ha, hn, hv, hm.1.1, hm.1.2, hm.2]
  simp

/-- A write that the block leaves to the register's class: the value that is stored. -/
def Dev.stored (d : Dev) (a v : Nat) : WriteRes → WriteRes
  | .refuse c => .refuse c
  | .plain => .done (d.wr a v)
  | .done e => .done e

@[simp] theorem Dev.stored_plain (d : Dev) (a v : Nat) : d.stored a v .plain = .done (d.wr a v) := rfl
@[simp] theorem Dev.stored_done (d e : Dev) (a v : Nat) : d.stored a v (.done e) = .done e := rfl
@[simp] theorem Dev.stored_refuse (d : Dev) (a v c : Nat) : d.stored a v (.refuse c) = .refuse c := rfl

/-- A register of class L that is no half of a pair: its block takes the value, or its implemented bits are stored. -/
theorem Dev.writeLive_l {d : Dev} {r : Requester} {x : RegDesc} {a : Nat} (v : Nat) (hc : x.clsAt a = .l)
    (hl : x.marks.contains .lo = false) (hh : x.marks.contains .hi = false) :
    d.writeLive r x a v = d.stored a (v &&& x.mask) (d.blockWrite r a v) := by
  unfold Dev.writeLive
  rw [hc]
  simp only [hl, hh]
  cases d.blockWrite r a v <;> rfl

/-- A register of class C clears to zero unless its block refuses. -/
theorem Dev.writeLive_c {d : Dev} {r : Requester} {x : RegDesc} {a : Nat} (v : Nat) (hc : x.clsAt a = .c) :
    d.writeLive r x a v = d.stored a 0 (d.blockWrite r a v) := by
  unfold Dev.writeLive
  rw [hc]
  cases d.blockWrite r a v <;> rfl

/-- Each 1 written to a W1C register clears its bit (R5). -/
theorem Dev.writeLive_w1c {d : Dev} {r : Requester} {x : RegDesc} {a : Nat} (v : Nat) (hc : x.clsAt a = .w1c) :
    d.writeLive r x a v = d.stored a (d.rd a - (d.rd a &&& v)) (d.blockWrite r a v) := by
  unfold Dev.writeLive
  rw [hc]
  cases d.blockWrite r a v <;> rfl

/-- A write to a live L register outside the pairs: the form in which a statement about a command of software is proved. -/
theorem Dev.poke_l {d : Dev} {r : Requester} {a : Nat} {x : RegDesc} {i : Nat} (v : Nat) (hr : inRegs a = true)
    (ha : a % 4 = 0) (hn : d.named a = .live x i) (hm : d.mayWrite r a = true) (hc : x.clsAt a = .l)
    (hl : x.marks.contains .lo = false) (hh : x.marks.contains .hi = false) :
    d.poke r a v = d.written r a (d.stored a (v % 2 ^ 32 &&& x.mask) (d.blockWrite r a (v % 2 ^ 32))) := by
  rw [Dev.poke_live v hr ha hn hm, Dev.writeLive_l _ hc hl hh]

end Sys2Proof.Machine
end

