-- ==== Sys2Proof/Laws/Power.lean ====
section
/-!
SUPPORT. What the governor's operations, the drive's submission and a reset can do, each said once: the fields they may change.
-/
namespace Sys2Proof.Machine

/-! ## Repetition and choice -/

/-- What each step of a repetition keeps, the repetition keeps. -/
theorem Dev.each_keeps {α : Type} {f : Dev → α → Dev} {P : Dev → Prop} (h : ∀ d x, P d → P (f d x)) (l : List α) (d : Dev) (hd : P d) :
    P (d.each l f) := by
  induction l generalizing d with
  | nil => exact hd
  | cons x t ih => exact ih (f d x) (h d x hd)

@[simp] theorem Dev.iff_true (d : Dev) (f : Dev → Dev) : d.iff true f = f d := rfl
@[simp] theorem Dev.iff_false (d : Dev) (f : Dev → Dev) : d.iff false f = d := rfl
@[simp] theorem Dev.each_nil {α : Type} (d : Dev) (f : Dev → α → Dev) : d.each [] f = d := rfl
@[simp] theorem Dev.each_cons {α : Type} (d : Dev) (x : α) (t : List α) (f : Dev → α → Dev) : d.each (x :: t) f = (f d x).each t f := rfl

/-! ## Leave (R312) -/

/-- The device differs from d in live register words and in the governor alone. -/
def Dev.GovOnly (d t : Dev) : Prop := ∃ live pwr, t = { d with reg := { d.reg with live := live }, pwr := pwr }

theorem Dev.GovOnly.refl (d : Dev) : d.GovOnly d := ⟨d.reg.live, d.pwr, rfl⟩

theorem Dev.GovOnly.trans {a b c : Dev} (h : a.GovOnly b) (k : b.GovOnly c) : a.GovOnly c := by
  obtain ⟨l, p, rfl⟩ := h
  obtain ⟨m, q, rfl⟩ := k
  exact ⟨m, q, rfl⟩

theorem Dev.govOnly_wr (d : Dev) (a v : Nat) : d.GovOnly (d.wr a v) := ⟨_, d.pwr, rfl⟩
theorem Dev.govOnly_bump (d : Dev) (a n : Nat) : d.GovOnly (d.bump a n) := ⟨_, d.pwr, rfl⟩
theorem Dev.govOnly_grantLeave (d : Dev) (c : Nat) (w : Client) : d.GovOnly (d.grantLeave c w) := ⟨_, _, rfl⟩

theorem govOnly_serveQueue (n : Nat) (d : Dev) : d.GovOnly (serveQueue n d) := by
  induction n generalizing d with
  | zero => exact .refl d
  | succ n ih =>
    unfold serveQueue
    split
    · exact .refl d
    · split
      · exact .refl d
      · exact Dev.GovOnly.trans ⟨_, _, rfl⟩ (ih _)

theorem Dev.govOnly_onReturn (d : Dev) : d.GovOnly d.onReturn := govOnly_serveQueue _ d

theorem Dev.govOnly_giveBack (d : Dev) (c : Nat) (w : Client) : d.GovOnly (d.giveBack c w) := by
  unfold Dev.giveBack Dev.iff
  dsimp only
  split
  · exact Dev.GovOnly.trans ⟨_, _, rfl⟩ (Dev.govOnly_onReturn _)
  · exact Dev.GovOnly.trans ⟨d.reg.live, _, rfl⟩ (Dev.govOnly_onReturn _)

theorem Dev.govOnly_giveBackPage (d : Dev) (p : Nat) : d.GovOnly (d.giveBackPage p) :=
  Dev.GovOnly.trans ⟨d.reg.live, _, rfl⟩ (Dev.govOnly_onReturn _)

theorem Dev.govOnly_withdrawPage (d : Dev) (p : Nat) : d.GovOnly (d.withdrawPage p) :=
  Dev.GovOnly.trans ⟨d.reg.live, _, rfl⟩ (Dev.govOnly_onReturn _)

/-- An empty queue is served by doing nothing. -/
theorem Dev.onReturn_empty {d : Dev} (h : d.pwr.queue = []) : d.onReturn = d := by
  unfold Dev.onReturn
  rw [h]
  rfl

/-- A client that holds or awaits leave of a class asks in vain. -/
theorem Dev.request_again {d : Dev} {c : Nat} {w : Client} (h : d.granted c w = true ∨ d.queuedFor c w = true) : d.request c w = d := by
  unfold Dev.request
  rw [if_pos (by simpa using h)]

/-- With PWR disabled every request is granted (R314). -/
theorem Dev.request_off {d : Dev} {c : Nat} {w : Client} (hg : d.granted c w = false) (hq : d.queuedFor c w = false) (he : d.en pPWR = false) :
    d.request c w = d.grantLeave c w := by
  unfold Dev.request
  simp [hg, hq, he]

/-- A request changes live words, the governor, and adds at most the event of a denial. -/
theorem Dev.request_cases (d : Dev) (c : Nat) (w : Client) :
    ∃ live pwr evs, d.request c w = { d with reg := { d.reg with live := live }, pwr := pwr, evq := d.evq ++ evs } ∧ evs.length ≤ 1 := by
  have g : ∀ t, d.GovOnly t → ∃ live pwr evs,
      t = { d with reg := { d.reg with live := live }, pwr := pwr, evq := d.evq ++ evs } ∧ evs.length ≤ 1 := by
    rintro t ⟨l, p, rfl⟩
    exact ⟨l, p, [], by simp, by simp⟩
  unfold Dev.request
  split
  · exact g d (.refl d)
  · split
    · exact g _ (Dev.govOnly_grantLeave ..)
    · split
      · exact g d (.refl d)
      · split
        · have deny : ∃ live evs, ((d.bump PWR_DENY_COUNT).denyBit c) = { d with reg := { d.reg with live := live }, evq := d.evq ++ evs } ∧
              evs.length ≤ 1 := by
            unfold Dev.denyBit Dev.iff
            dsimp only
            split
            · unfold Dev.raise
              dsimp only
              split
              · exact ⟨_, [_], rfl, by simp⟩
              · exact ⟨_, [_], rfl, by simp⟩
            · refine ⟨((d.bump PWR_DENY_COUNT).wr PWR_DENY_MAP ((d.bump PWR_DENY_COUNT).rd PWR_DENY_MAP ||| 2 ^ c)).reg.live, [], ?_, by simp⟩
              rw [List.append_nil]
              rfl
          obtain ⟨l, evs, e, hl⟩ := deny
          rw [e]
          dsimp only
          split
          · exact ⟨l, d.pwr, evs, rfl, hl⟩
          · exact ⟨l, _, evs, rfl, hl⟩
        · exact g _ (Dev.govOnly_grantLeave ..)

/-! ## The drive (R335) -/

/-- A submission changes live words, the governor, the drive, and adds at most one event. -/
theorem Dev.nvsPump_cases (d : Dev) :
    ∃ live pwr io evs, d.nvsPump = { d with reg := { d.reg with live := live }, pwr := pwr, io := io, evq := d.evq ++ evs } ∧ evs.length ≤ 1 := by
  unfold Dev.nvsPump
  split
  · exact ⟨d.reg.live, d.pwr, d.io, [], by simp, by simp⟩
  · obtain ⟨l, p, evs, e, hl⟩ := Dev.request_cases d 13 nvsClient
    dsimp only
    rw [e]
    split
    · exact ⟨l, p, d.io, evs, rfl, hl⟩
    · exact ⟨l, p, _, evs, rfl, hl⟩

/-- Nothing waits for the drive: nothing is submitted. -/
theorem Dev.nvsPump_none {d : Dev} (h : d.io.nvsWait = []) : d.nvsPump = d := by
  unfold Dev.nvsPump
  rw [if_pos (by simp [h])]

/-! ## Reset (R319) -/

theorem Dev.drawNonce_frame (d : Dev) : ∃ live, d.drawNonce = { d with reg := { d.reg with live := live }, free := d.free + 8 } := by
  refine ⟨_, rfl⟩

theorem Dev.calReset_frame (d : Dev) : ∃ live shadow, d.calReset = { d with reg := { d.reg with live := live, shadow := shadow } } := by
  unfold Dev.calReset
  split
  · refine Dev.each_keeps (P := fun t => ∃ live shadow, t = { d with reg := { d.reg with live := live, shadow := shadow } }) ?_ _ _
      ⟨d.reg.live, d.reg.shadow, rfl⟩
    rintro e x ⟨l, s, rfl⟩
    exact ⟨_, _, rfl⟩
  · exact ⟨d.reg.live, d.reg.shadow, rfl⟩

theorem Dev.epcRestore_frame (d : Dev) : ∃ live, d.epcRestore = { d with reg := { d.reg with live := live } } := ⟨_, rfl⟩

theorem Dev.resetEnd_frame (r : Dev) :
    ∃ live shadow, r.drawNonce.calReset.epcRestore = { r with reg := { r.reg with live := live, shadow := shadow }, free := r.free + 8 } := by
  obtain ⟨l, e⟩ := Dev.drawNonce_frame r
  obtain ⟨l2, s2, e2⟩ := Dev.calReset_frame r.drawNonce
  obtain ⟨l3, e3⟩ := Dev.epcRestore_frame r.drawNonce.calReset
  rw [e3, e2, e]
  exact ⟨l3, s2, rfl⟩

/-- What a FULL or WARM reset leaves in the fields that hold no register (R319). -/
theorem Dev.resetTo_fields (d : Dev) (warm : Bool) (cause : Nat) : ∀ t, d.resetTo warm cause = t →
    t.mem = Cells.forget (resetClears warm) d.mem ∧ t.rst.fuse = d.rst.fuse ∧ t.rst.lcShadow = d.rst.lcShadow ∧ t.rst.phase = .inReset ∧
    t.cmt = {} ∧ t.qry = {} ∧ t.key = {} ∧ t.obj = {} ∧ t.dst = {} ∧ t.rad = {} ∧ t.plc = {} ∧ t.trk = {} ∧ t.upl = {} ∧ t.fb = [] ∧
    t.dsp = {} ∧ t.evq = [] ∧ t.out = d.out ∧ t.pin = d.pin ∧ t.clk = d.clk ∧ t.jtag = d.jtag ∧ t.red = { outsideLow := d.red.outsideLow } ∧
    t.time.ticks = d.time.ticks ∧ t.reg.dirty = [] ∧ t.reg.medium = [] ∧ t.free = d.free + 8 := by
  rintro t rfl
  unfold Dev.resetTo
  extract_lets e k r
  obtain ⟨l, s, h⟩ := Dev.resetEnd_frame r
  rw [h]
  exact ⟨rfl, rfl, rfl, rfl, rfl, rfl, rfl, rfl, rfl, rfl, rfl, rfl, rfl, rfl, rfl, rfl, rfl, rfl, rfl, rfl, rfl, rfl, rfl, rfl, rfl⟩

/-- A reset keeps the canonical form of memory. -/
theorem Dev.wf_resetTo (d : Dev) (warm : Bool) (cause : Nat) (h : Memory.wf d.mem = true) : Memory.wf (d.resetTo warm cause).mem = true := by
  rw [(Dev.resetTo_fields d warm cause _ rfl).1]
  exact Memory.wf_forget _ _ h

end Sys2Proof.Machine
end

