-- ==== Sys2Proof/Tests/Slice0.lean ====
section
/-!
SUPPORT. The model's own tests: an ill-formed operand for each check of WellFormed, and for each statement states and operands
that meet its hypotheses, clause by clause.
-/
open Sys2Proof Sys2Proof.Machine

namespace Sys2Proof.Tests

set_option Elab.async false

/-! ## EmptyQueueTicks -/

theorem test_empty_tick : State.reset.dev.time.acc < 2 ^ 64 ∧ State.reset.dev.time.wrap < 2 ^ 32 ∧ State.reset.dev.inc < 2 ^ 64 ∧
    State.reset.dev.rootRuns = true ∧ Dev.rootRuns { State.reset.dev with clk := { rootOk := false } } = false := by decide +kernel

/-! ## HeldLogicIgnoresCommands -/

theorem test_held_logic : (Instr.timWrap).wellFormed = true ∧ (Instr.timWrap).aboveLogic = false ∧
    ({ State.reset.dev with jtag := { instr := .highz } } : Dev).jtag.holds = true := by decide +kernel

/-! ## EveryCommandLeavesTheQueue -/

theorem test_exec_next : ∃ t, exec .jtagBypass State.reset = .next t := ⟨_, rfl⟩

/-! ## StepNeverStopsAndKeepsTheQueueWellFormed -/

theorem test_queue_wf : QueueWellFormed { State.reset with pending := [.timWrap, .jtagBypass] } := by
  intro c hc
  simp at hc
  rcases hc with rfl | rfl <;> rfl

/-! ## StoredWordsAndBytesReadBack -/

theorem test_store_byte : storable 0x10000000 = true ∧ storable 0xC0000000 = false ∧ Memory.wf Dev.reset.mem = true ∧
    RegMap.rising Dev.reset.reg.live = true := by decide +kernel

/-! ## WrongWidthIsRefused -/

theorem test_wrong_width : Awake State.reset ∧ inRegs 0xE0000180 = true ∧ (2 ≠ 4 ∨ 0xE0000180 % 4 ≠ 0) ∧
    inRegs 0xE0000182 = true ∧ (4 ≠ 4 ∨ 0xE0000182 % 4 ≠ 0) := by decide +kernel

/-! ## UngrantedAccessIsRefused -/

theorem test_ungranted : Awake State.reset ∧ inRegs RST_TRIAL = true ∧ RST_TRIAL % 4 = 0 ∧
    (∃ x i, State.reset.dev.named RST_TRIAL = .live x i) ∧ State.reset.dev.mayWrite ⟨.sys, 1⟩ RST_TRIAL = false ∧
    State.reset.dev.mayRead ⟨.ext, 1⟩ RST_TRIAL = false := by
  refine ⟨by decide +kernel, by decide +kernel, by decide +kernel, ⟨_, _, rfl⟩, by decide +kernel, by decide +kernel⟩

/-! ## FirstViolationIsKept -/

theorem test_violation_log : Dev.reset.rd (PG_FAULT_INFO 4) = 0 ∧ (Dev.reset.wr (PG_FAULT_INFO 4) 0x21).rd (PG_FAULT_INFO 4) ≠ 0 := by
  decide +kernel

/-! ## RegisterClasses -/

theorem test_classes_l : Awake State.reset ∧ State.reset.dev.mayWrite ⟨.sys, 1⟩ PIN_OUT = true ∧ (∃ x i, State.reset.dev.named PIN_OUT = .live x i ∧ x.clsAt PIN_OUT = .l ∧
      x.marks.contains .lo = false ∧ x.marks.contains .hi = false ∧ latchesOf x PIN_OUT = []) ∧
    State.reset.dev.blockWrite ⟨.sys, 1⟩ PIN_OUT 5 = .plain ∧ State.reset.dev.mayRead ⟨.sys, 1⟩ PIN_OUT = true ∧
    regionOf PIN_OUT = .page 5 0x13C ∧ State.reset.dev.pageRead 5 0x13C = none ∧ State.reset.dev.takeLatch PIN_OUT = none :=
  ⟨rfl, by decide +kernel, ⟨_, _, rfl, rfl, rfl, rfl, rfl⟩, rfl, by decide +kernel, rfl, rfl, rfl⟩
theorem test_classes_c : State.reset.dev.mayWrite ⟨.sec, 0⟩ CMT_FIRE_COUNT = true ∧
    (∃ x i, State.reset.dev.named CMT_FIRE_COUNT = .live x i ∧ x.clsAt CMT_FIRE_COUNT = .c) ∧
    State.reset.dev.blockWrite ⟨.sec, 0⟩ CMT_FIRE_COUNT 0 = .plain := ⟨by decide +kernel, ⟨_, _, rfl, rfl⟩, rfl⟩
theorem test_classes_w1c : State.reset.dev.mayWrite ⟨.sec, 0⟩ PIN_EDGE_PEND = true ∧
    (∃ x i, State.reset.dev.named PIN_EDGE_PEND = .live x i ∧ x.clsAt PIN_EDGE_PEND = .w1c) ∧
    State.reset.dev.blockWrite ⟨.sec, 0⟩ PIN_EDGE_PEND 7 = .plain := ⟨by decide +kernel, ⟨_, _, rfl, rfl⟩, rfl⟩
theorem test_classes_r_s : State.reset.dev.mayWrite ⟨.sec, 0⟩ CMT_STAT = true ∧ State.reset.dev.mayWrite ⟨.sec, 0⟩ SYS_ROLE = true ∧
    (∃ x i, State.reset.dev.named CMT_STAT = .live x i ∧ x.clsAt CMT_STAT = .r) ∧
    (∃ x i, State.reset.dev.named SYS_ROLE = .live x i ∧ x.clsAt SYS_ROLE = .s) :=
  ⟨by decide +kernel, by decide +kernel, ⟨_, _, rfl, rfl⟩, ⟨_, _, rfl, rfl⟩⟩

/-! ## HalvesOfPairs -/

theorem test_pairs : (∃ x i, State.reset.dev.named RST_LC_AUTH_LO = .live x i ∧ x.clsAt RST_LC_AUTH_LO = .l ∧
      x.marks.contains .lo = true) ∧ State.reset.dev.mayWrite ⟨.sec, 0⟩ RST_LC_AUTH_LO = true ∧
    (∀ c, State.reset.dev.blockWrite ⟨.sec, 0⟩ RST_LC_AUTH_LO 5 ≠ .refuse c) ∧
    (∃ x i, State.reset.dev.named RST_LC_AUTH_HI = .live x i ∧ x.clsAt RST_LC_AUTH_HI = .l ∧
      x.marks.contains .lo = false ∧ x.marks.contains .hi = true) ∧ State.reset.dev.mayWrite ⟨.sec, 0⟩ RST_LC_AUTH_HI = true ∧
    State.reset.dev.blockWrite ⟨.sec, 0⟩ RST_LC_AUTH_HI (State.reset.dev.rd (RST_LC_AUTH_HI - 4) + 2 ^ 32 * 7) = .plain ∧
    State.reset.dev.reg.loHeld.find? (fun e => e.1 == RST_LC_AUTH_HI - 4) = none :=
  ⟨⟨_, _, rfl, rfl, rfl⟩, by decide +kernel, fun _ => nofun, ⟨_, _, rfl, rfl, rfl, rfl⟩, by decide +kernel, rfl, rfl⟩
theorem test_pair_held : ((Dev.reset.holdLo RST_LC_AUTH_LO 9).reg.loHeld.find? fun e => e.1 == RST_LC_AUTH_HI - 4) = some (RST_LC_AUTH_HI - 4, 9#32) ∧
    ((Dev.reset.holdLo RST_LC_AUTH_LO 9).takeLo (RST_LC_AUTH_HI - 4)).2.blockWrite ⟨.sec, 0⟩ RST_LC_AUTH_HI (9 + 2 ^ 32 * 7) = .plain ∧
    (Dev.reset.holdLo RST_LC_AUTH_LO 9).mayWrite ⟨.sec, 0⟩ RST_LC_AUTH_HI = true := ⟨rfl, rfl, by decide +kernel⟩
theorem test_pair_read : State.reset.dev.mayRead ⟨.sec, 0⟩ EPC_LIVE_SEQ_LO = true ∧
    (∃ x i, State.reset.dev.named EPC_WORK_BASE_LO = .live x i ∧ x.marks.contains .lo = true) ∧
    State.reset.dev.mayRead ⟨.sec, 0⟩ EPC_WORK_BASE_LO = true ∧ State.reset.dev.takeLatch EPC_WORK_BASE_LO = none ∧
    (∃ off, regionOf EPC_WORK_BASE_LO = .page 20 off ∧ regionOf (EPC_WORK_BASE_LO + 4) = .page 20 (off + 4) ∧
      State.reset.dev.pageRead 20 off = none ∧ State.reset.dev.pageRead 20 (off + 4) = none) :=
  ⟨by decide +kernel, ⟨_, _, rfl, rfl⟩, by decide +kernel, rfl, ⟨_, rfl, rfl, rfl, rfl⟩⟩

/-! ## HeaderAndPinCommands -/

theorem test_header_commands : State.reset.dev.mayWrite ⟨.sec, 0⟩ (PG_EVT_PEND 4) = true ∧ State.reset.dev.mayWrite ⟨.sec, 0⟩ EVT_SOFT = true ∧
    State.reset.dev.mayWrite ⟨.sys, 2⟩ (PG_CTRL 19) = true ∧ State.reset.dev.role = 0 ∧ State.reset.dev.cmt.inSet.testBit 19 = false ∧
    State.reset.dev.en 19 = false ∧ State.reset.dev.en 4 = true := by decide +kernel
theorem test_gpio_edge : (let d := (Dev.reset.wr PIN_EDGE_RISE 8).wr (PG_CTRL 5) 1
    let d : Dev := { d with pin := { driven := 8, level := 8 } }
    d.gpioLevel 3 != d.pin.seen.testBit 3 && d.bit PIN_EDGE_RISE 3 && d.en pPIN) = true := by decide +kernel

/-! ## EventPageClearAndSoftReset -/

theorem test_evt_pend_clear : State.reset.dev.mayWrite ⟨.sys, 0⟩ EVT_PEND0 = true ∧ State.reset.dev.mayWrite ⟨.sys, 0⟩ EVT_PEND1 = true := by
  decide +kernel
theorem test_soft_rst : State.reset.dev.mayWrite ⟨.sys, 0⟩ (PG_CTRL 5) = true ∧ State.reset.dev.cmt.inSet.testBit 5 = false ∧
    State.reset.dev.rd (PG_CTRL 5) = b2n true + 4 * b2n false ∧ (State.reset.dev.bootCtl.2 && State.reset.dev.overlayOk) = false ∧
    State.reset.dev.pwr.queue = [] ∧ State.reset.dev.softResets 5 PIN_OUT = true := by decide +kernel

/-! ## StagingAndClaim -/

theorem test_stage : State.reset.dev.othersSet ⟨.sys, 0⟩ = false ∧ inRegs 0xE0000908 = true ∧ 0xE0000908 % 4 = 0 ∧
    (∃ x i l, State.reset.dev.named 0xE0000908 = .shadow x i l ∧ x.marks.contains .lo = false ∧ x.marks.contains .hi = false) ∧
    State.reset.dev.mayWrite ⟨.sys, 0⟩ 0xE0000908 = true ∧ State.reset.dev.setLockedKs = false ∧
    State.reset.dev.mayWrite ⟨.sys, 0⟩ CMT_CTRL = true ∧ State.reset.dev.cmt.state = .idle :=
  ⟨rfl, rfl, rfl, ⟨_, _, _, rfl, rfl, rfl⟩, by decide +kernel, rfl, by decide +kernel, rfl⟩
theorem test_release : (let d : Dev := { Dev.reset with cmt := { state := .staging, owner := some ⟨.sys, 0⟩ } }
    d.othersSet ⟨.sys, 0⟩ = false ∧ d.setOpen = true ∧ d.reg.dirty = [] ∧ d.mayWrite ⟨.sys, 0⟩ CMT_CTRL = true) := by decide +kernel

/-! ## CheckAbortAndClaimTimeout -/

theorem test_check_hyp : (let d : Dev := { Dev.reset with cmt := { state := .staging, owner := some ⟨.sys, 0⟩ } }
    d.mayWrite ⟨.sys, 0⟩ CMT_CTRL = true ∧ d.othersSet ⟨.sys, 0⟩ = false ∧ d.othersSet ⟨.sys, 1⟩ = true) := by decide +kernel
theorem test_abort_hyp : (let d : Dev := { Dev.reset with cmt := { state := .armed, owner := some ⟨.sys, 0⟩ } }
    d.mayWrite ⟨.sec, 0⟩ CMT_CTRL = true ∧ d.othersSet ⟨.sec, 0⟩ = true ∧ d.cmt.state = .armed) := by decide +kernel
theorem test_claim_timeout_hyp : (let d : Dev := { Dev.reset with cmt := { state := .checked, entered := 5 }, time := { ticks := 15000000005 } }
    d.setOpen = true ∧ d.rd CMT_CLAIM_TIMEOUT = 60000 ∧ max d.cmt.lastAccess d.cmt.entered + 250000 * d.rd CMT_CLAIM_TIMEOUT ≤ d.time.ticks) := by
  decide +kernel

/-! ## TargetArmAndDrain -/

theorem test_target_hyp : State.reset.dev.mayWrite ⟨.sys, 0⟩ CMT_FIRE_NS = true ∧ State.reset.dev.mayWrite ⟨.sys, 0⟩ CMT_FIRE_WRAP = true ∧
    State.reset.dev.targetHeld ⟨.sys, 0⟩ = false ∧
    (let d : Dev := { Dev.reset with cmt := { state := .checked, owner := some ⟨.sys, 0⟩ } }
     d.targetHeld ⟨.sys, 0⟩ = false ∧ d.othersSet ⟨.sys, 0⟩ = false ∧ d.mayWrite ⟨.sys, 0⟩ CMT_ARM = true ∧ d.rd CMT_CHECK_RESULT = 0) := by decide +kernel
theorem test_drain_hyp : (let d : Dev := { Dev.reset with cmt := { state := .armed, armAt := true, armQuiesce := true } }
    d.fireTarget ≤ d.ext + d.rd CMT_QUIESCE_BOUND * 1000) ∧
    (let d : Dev := { Dev.reset with cmt := { state := .quiescing } }
     d.allDrained = true) := by decide +kernel
theorem test_quiesce_timeout_hyp : (let d : Dev := { Dev.reset with
      cmt := { state := .quiescing, draining := 2 ^ 20 }, time := { ticks := 250 * 2000000 }, epc := { state := .finalise } }
    d.allDrained = false ∧ d.cmt.drainTick + 250 * d.rd CMT_QUIESCE_BOUND ≤ d.time.ticks) := by decide +kernel

/-! ## RecheckAbortsAPartialLoad -/

theorem test_recheck_hyp : (let d : Dev := { Dev.reset with cmt := { state := .armed, fireTick := 250 } }
    d.cmt.fireTick ≤ d.time.ticks + 250 ∧ (d.reg.dirty.isEmpty = true)) ∧
    (let d : Dev := { Dev.reset with cmt := { state := .armed, armAt := true } }
    d.fireTarget ≤ d.ext + 1000) := by decide +kernel
theorem test_recheck_fails : (let d : Dev := ({ Dev.reset with
      cmt := { state := .armed }, reg := { Dev.reset.reg with dirty := [QRY_Q_RESERVE 0] } } : Dev).wrShadow (QRY_Q_RESERVE 0) 5
    (d.checkTail d.merged false).result = 3) := by decide +kernel

/-! ## AFireAppliesTheWholeSet -/

theorem test_fire_hyp : (let d : Dev := { Dev.reset with cmt := { state := .armed, rechecked := true } }
    d.cmt.fireTick ≤ d.time.ticks) ∧ (let d : Dev := { Dev.reset with cmt := { state := .armed, armAt := true } }
    d.fireTarget ≤ d.ext ∧ (d.recheck (d.bit CMT_CHECK_RESULT 8)).result = 0) := by decide +kernel

/-! ## FireEndsAndBoundaries -/

theorem test_fire_complete_hyp : Awake ({ State.reset with dev := { Dev.reset with cmt := { state := .firing } } } : State) := rfl

/-! ## RegistryCommands -/

/-- A device with an endpoint registry laid out in DRAM. -/
def tReg : Dev :=
  ([(ING_HASH_CFG, 0x010A), (ING_HASH_BASE_LO, 0x80000000), (ING_REC_BASE_LO, 0x81000000), (ING_VPROF_BASE_LO, 0x90000000),
    (ING_CPROF_BASE_LO, 0x91000000), (ING_REG_FREE_HEAD, 0x01FFFFFF)] : List (Nat × Nat)).foldl (fun d e => d.wr e.1 e.2) Dev.reset
/-- The same with one LIVE endpoint, address 0, index 0, at its home slot. -/
def tReg1 : Dev := (tReg.wr ING_REG_HWM 1).stBytes 0x80000008 (leBytes 4 (2 ^ 29))
theorem test_reg_cmd : State.reset.dev.mayWrite ⟨.sys, 0⟩ ING_REG_CMD = true ∧ State.reset.dev.ing.cmd = 0 ∧ State.reset.dev.regLocked = false := by
  decide +kernel
theorem test_reg_invalid : ({ Dev.reset.wr ING_EXC_CFG 4 with ing := { cmd := 1 } } : Dev).ing.cmd ≠ 0 ∧
    ingCfgInvalid (Dev.reset.wr ING_EXC_CFG 4) = true := by decide +kernel
theorem test_reg_absent : ingCfgInvalid tReg = false ∧ tReg.lookup (tReg.rd64 ING_REG_ADDR_LO) = none ∧ tReg.indexFull = false ∧
    tReg.freeSlot tReg.probeMax (homeSlot 0 tReg.hashLog) = some 0 := by decide +kernel
theorem test_reg_found : ingCfgInvalid tReg1 = false ∧ tReg1.lookup (tReg1.rd64 ING_REG_ADDR_LO) = some ⟨0, 0, stLIVE⟩ := by decide +kernel
theorem test_reg_found_suspended : (let d := tReg1.st 0x80000008 4 (2 ^ 30)
    ingCfgInvalid d = false ∧ d.lookup (d.rd64 ING_REG_ADDR_LO) = some ⟨0, 0, stSUSPENDED⟩) := by decide +kernel
theorem test_reg_free : (let d := tReg1.recPut 0 rIDX_STATE 4 (2 ^ 29 * 3)
    0 < d.fld ING_REG_HWM 25 0 ∧ d.recState 0 = stTOMBSTONE ∧ d.recGet 0 rNEWEST 8 = 0) := by decide +kernel
theorem test_reg_free_list : (let d := tReg1.wr ING_REG_FREE_HEAD 5
    ingCfgInvalid d = false ∧ d.indexFull = false ∧ d.fld ING_REG_FREE_HEAD 24 0 ≠ 0x01FFFFFF) := by decide +kernel

/-! ## IntakeAndExceptions -/

/-- The registry's device with ING enabled, the governor off and one record waiting on ring 0. -/
def tIntake : Dev :=
  ([(PG_CTRL pING, 1), (PG_CTRL pPWR, 0), (ING_IN_CFG 0, 4), (ING_IN_BASE_LO 0, 0x92000000), (ING_IN_PROD 0, 1)] : List (Nat × Nat)).foldl
    (fun d e => d.wr e.1 e.2) tReg
theorem test_intake : tIntake.red.state ≠ .standby ∧ tIntake.ingTakes = true ∧ tIntake.pairSlave = false ∧ roleFeeds tIntake.role 0 = true ∧
    tIntake.inLog 0 ≠ 0 ∧ tIntake.inCount 0 ≠ 0 ∧ (tIntake.request 6 ingClient).granted 6 ingClient = true ∧
    (tIntake.request 6 ingClient).trfAllocates (Reading.ofBytes (tIntake.ldBytes 0x92000000 48)).t = false := by decide +kernel
theorem test_intake_allocates : (let d := ((tIntake.wr SYS_ROLE 2).wr (PG_CTRL pTRF) 1).wr TRF_CFG 1
    d.red.state ≠ .standby ∧ roleFeeds d.role 0 = true ∧ (d.request 6 ingClient).trfAllocates 0 = true ∧
    ((d.request 6 ingClient).request 8 trfClient).granted 8 trfClient = true) := by decide +kernel
theorem test_intake_none : State.reset.dev.ingTakes = false ∧ State.reset.dev.red.state ≠ .standby ∧
    State.reset.dev.mayWrite ⟨.sys, 0⟩ ING_EXC_CONS = true ∧ State.reset.dev.ing.exc = [] ∧ State.reset.dev.ing.stallTick = none ∧
    (State.reset.dev.wr ING_EXC_CONS 3).excBlocked = false := by decide +kernel

/-! ## BatchesGoOut -/

/-- A field module with a record waiting, a batch outstanding and a link key. -/
def tBatch : Dev :=
  { ([(PG_CTRL pING, 1), (ING_BATCH_CFG, 0x10001), (KEY_LINK, 5)] : List (Nat × Nat)).foldl (fun d e => d.wr e.1 e.2) Dev.reset with
    time := { ticks := 250000 * 1000000 }
    key := { slots := [(5, { st := 1, alg := 0, usage := 0, scope := 15, parent := 0xFF, key := zeroBytes 16 })] }
    ing := { unsent := [{ body := zeroBytes 48, journalled := true, tick := 0 }], replaying := false } }
theorem test_batch_hold : tBatch.batchRuns = true ∧ tBatch.maxRecords ≠ 0 ∧ 0 + 250000 * tBatch.holdMs ≤ tBatch.time.ticks ∧
    tBatch.ing.outstanding.length < 64 ∧ (tBatch.linkSeal [] [] []).isSome = true := by decide +kernel
theorem test_ack_timeout : (let d : Dev := { tBatch with ing := { outstanding := [{ seq := 0, bytes := [], count := 1, journalled := 1 }] } }
    d.batchRuns = true ∧ d.ing.outstanding ≠ [] ∧ 0 + 250000 * d.rd ING_ACK_TIMEOUT ≤ d.time.ticks ∧
    0 + 250000 * d.rd ING_ISLAND_TIMEOUT ≤ d.time.ticks) := by decide +kernel
theorem test_replay : (let d : Dev := { tBatch with ing := { tBatch.ing with replaying := true } }
    min d.maxRecords d.ing.unsent.length ≠ 0 ∧ d.ing.replayTick ≤ d.time.ticks) := by decide +kernel

/-! ## BatchesAndAcknowledgements -/

/-- A module with a BATCH lane, ING and QRY running, and one datagram of 80 octets to a port in the lane's receive queue. -/
def tLane (role port : Nat) : Dev :=
  { ([(PG_CTRL pING, 1), (SYS_ROLE, role), (TRK_BATCH_PORT, 7), (NVS_JRN_LEN, 100), (KEY_LINK, 0xFF0505),
      (LN_CFG 1, 0x123)] : List (Nat × Nat)).foldl (fun d e => d.wr e.1 e.2) Dev.reset with
    key := { slots := [(5, { st := 1, alg := 0, usage := 0, scope := 15, parent := 0xFF, key := zeroBytes 16 })] }
    ing := { acks := [{ station := 3, seq := 4, mirror := 0, write := 0 }] }
    qry := { queues := [(3, { ids := [0] })], nextId := 1
             frames := [(0, { data := zeroBytes 42 ++ beBytes 2 port ++ zeroBytes 36, producer := 0, queue := 3, t := 0, tUnc := 0, fseq := 0,
                              holders := [3], charged := 3 })] } }
theorem test_batch_receive : (let d := tLane 1 7
    d.starts pING = true ∧ d.role ≠ 0 ∧ d.pairSlave = false ∧ d.jrnFull = false ∧ d.batchLane = some 1 ∧
    (d.engineFront 1).any (fun f => udpPort f.data = d.rd TRK_BATCH_PORT ∧ 32 ≤ (udpPayload f.data).length)) := by decide +kernel
theorem test_batch_ack_receive : (let d := tLane 0 8
    d.starts pING = true ∧ d.role = 0 ∧ d.batchLane = some 1 ∧
    (d.engineFront 1).any (fun f => udpPort f.data = d.rd TRK_BATCH_PORT + 1 ∧ (udpPayload f.data).length = 32)) := by decide +kernel
theorem test_batch_ack_send : (let d := tLane 1 7
    d.ing.acks.find? d.ackReady = some ⟨3, 4, 0, 0⟩ ∧ (d.linkSeal (ackNonce 3 1 4) (ackHeader 3 4) []).isSome = true) := by decide +kernel

/-! ## BoundaryAndSealBegin -/

/-- A head-end with EPC running, the governor off, an hour gone and one epoch unsealed. -/
def tSeal (st : SealState) : Dev :=
  { ([(PG_CTRL pEPC, 1), (PG_CTRL pPWR, 0), (SYS_ROLE, 1)] : List (Nat × Nat)).foldl (fun d e => d.wr e.1 e.2) Dev.reset with
    time := { acc := 2 ^ 64 - 1, wrap := 1000 }
    epc := { state := st, unsealed := [{ no := 1, tStart := 0, tEnd := 900000000000, length := 900000000000, len := 2, slot := 5, seals := true,
                                         worst := 0, stepped := false, gen := 0 }] } }
theorem test_boundary_due : (tSeal .idle).runs pEPC = true ∧ (tSeal .idle).nextBoundary ≤ (tSeal .idle).ext ∧
    (let d : Dev := { tSeal .idle with time := {} }
     d.runs pEPC = true ∧ d.ext < d.nextBoundary) := by decide +kernel
theorem test_seal_begin : (tSeal .idle).sealRuns = true ∧ 900000000000 + (tSeal .idle).settle * 900000000000 ≤ (tSeal .idle).ext ∧
    (tSeal .leave).sealRuns = true ∧ ((tSeal .leave).request 7 sealClient).granted 7 sealClient = true ∧
    (Dev.amendAll ((tSeal .leave).request 7 sealClient).sealedEpochs [] ((tSeal .leave).request 7 sealClient)).isSome = true := by decide +kernel

/-! ## SealToSignature -/

/-- The same module with a job of no leaves in sealing, and a signing key. -/
def tJob (st : SealState) : Dev :=
  let e : EpochRec := ⟨1, 0, 900000000000, 900000000000, 2, 5, true, 0, false, 0⟩
  { tSeal st with
    epc := { (tSeal st).epc with job := some (newAshlar 0 e []) }
    key := { slots := [(5, { st := 1, alg := 2, usage := 0, scope := 15, parent := 0xFF, key := zeroBytes 32 })] } }
theorem test_finalise : (tSeal .finalise).sealRuns = true ∧ ((tSeal .finalise).request 7 sealClient).granted 7 sealClient = true ∧
    ((tSeal .finalise).request 7 sealClient).trf.closing = [] := by decide +kernel
theorem test_bal_report : (tJob .waitBal).sealRuns = true ∧ (tJob .waitBal).en pBAL = false ∧ (tJob .waitBal).epc.job.isSome = true := by
  decide +kernel
theorem test_hash : (tJob .hash).sealRuns = true ∧ ((tJob .hash).request 7 sealClient).setFree 0 = true ∧
    ((((tJob .hash).request 7 sealClient).putFill 0 224).putInSet 0 []).isSome = true := by decide +kernel
theorem test_sign : (let d := (tJob .waitSign).wr (PG_CTRL pKEY) 1
    d.sealRuns = true ∧ d.pairSlave = false ∧ d.en pKEY = true ∧ d.epc.ashlars = [] ∧ d.useSlot 5 [2] 0 = 0 ∧ d.key.rngFault = false) := by
  decide +kernel

/-! ## ExportAndLiveFence -/

theorem test_export : (let d := ((tSeal .exporting).wr EPC_EXP_CFG 4).wr EPC_EXP_BASE_LO 0x80000000
    d.sealRuns = true ∧ d.pairSlave = false ∧ d.expFull = false ∧ d.mirrored 0 = true) := by decide +kernel
theorem test_fence : State.reset.dev.mayWrite ⟨.sys, 0⟩ EPC_LIVE_FENCE = true ∧ State.reset.dev.mayWrite ⟨.sys, 0⟩ EPC_EXP_CONS = true ∧
    (let d : Dev := { Dev.reset with epc := { fence := some 0 }, time := { ticks := 250000000 } }
     0 + 250 * d.rd EPC_FENCE_MAX ≤ d.time.ticks) := by decide +kernel

/-! ## TariffCommands -/

theorem test_tbl_validate : State.reset.dev.mayWrite ⟨.sys, 0⟩ TRF_TBL_CMD = true ∧ State.reset.dev.trf.job = none ∧
    inDram 0x80000000 0x200000 = true ∧ inDram 0 0x200000 = false ∧ Dev.reset.checkScheme 0x80000000 = none ∧
    ((Dev.reset.st 0x80000000 2 9).checkScheme 0x80000000).isSome = true := by decide +kernel
/-- A module with TRF running over one scheme (demand intervals of 15 minutes, a switch at 00:30), and an hour gone. -/
def tTrf : Dev :=
  let d := ([(PG_CTRL pTRF, 1), (TRF_SCHED_BASE_LO, 0x80000000)] : List (Nat × Nat)).foldl (fun d e => d.wr e.1 e.2) Dev.reset
  let d := ((d.st 0x80000000 2 1).st 0x80000007 1 1).st 0x8000000A 2 0x010F
  let d := ((d.st 0x80000040 4 0x11).st 0x80000280 2 0x8000).st 0x80000282 2 0x881E
  { d with time := { acc := 0, wrap := 839 } }
theorem test_trf_running : tTrf.runs pTRF = true ∧ tTrf.schemesInUse.contains 0 = true := by decide +kernel
theorem test_trf_due : (tTrf.switches (tTrf.scheme tTrf.ext 0) tTrf.trf.switchDone tTrf.ext).isEmpty = false := by decide +kernel
theorem test_trf_demand : tTrf.evalCount (tTrf.scheme tTrf.ext 0) tTrf.trf.demandDone < tTrf.evalCount (tTrf.scheme tTrf.ext 0) tTrf.ext := by
  decide +kernel

/-! ## ObjectRequests -/

/-- A module with OBJ running, a rights table that grants role 0 the right of a byte on class 9 slot 2, and one request waiting. -/
def tObj (right op view cls id : Nat) : Dev :=
  let d := ([(PG_CTRL pOBJ, 1), (OBJ_ROLE_EN, 0xFFFF), (OBJ_RIGHTS_BASE_LO, 0x80000000), (OBJ_REQ_CFG, 4), (OBJ_REQ_BASE_LO, 0x80010000),
    (OBJ_RSP_CFG, 4), (OBJ_RSP_BASE_LO, 0x80020000), (OBJ_AUD_CFG, 4), (OBJ_AUD_BASE_LO, 0x80030000), (OBJ_REQ_PROD, 1),
    (OBJ_USER_BASE_LO, 0x80040000)] : List (Nat × Nat)).foldl (fun d e => d.wr e.1 e.2) Dev.reset
  let d := d.st (0x80000000 + 32 * cls + id) 1 right
  let d := d.st 0x8001000E 1 cls
  let d := (d.st 0x8001000F 1 id).st 0x80010010 1 op
  let d := (d.st 0x80010013 1 view).st 0x80010020 8 0x80050000
  (d.st 0x80010028 4 64).stBytes 0x80010008 [0, 0, if cls = 1 then 96 else 1, if cls = 1 then 128 else 0, 0, 255]
theorem test_obj_hyp : (tObj 1 1 0 9 2).starts pOBJ = true ∧ objCfgInvalid (tObj 1 1 0 9 2) = false ∧ (tObj 1 1 0 9 2).rspFull = false ∧
    (tObj 1 1 0 9 2).reqLog ≠ 0 ∧ (tObj 1 1 0 9 2).reqCount ≠ 0 := by decide +kernel
theorem test_obj_get : (let d := tObj 1 1 0 9 2
    d.decideReq d.ext (d.reqAt 0) = .inl .clock ∧ (d.liveAttr (d.reqAt 0) .clock).any (fun b => b.length ≤ (d.reqAt 0).dataLen) = true ∧
    inDram (d.reqAt 0).dataAddr 8 = true) := by decide +kernel
theorem test_obj_set : (let d := tObj 2 2 0 1 2
    d.decideReq d.ext (d.reqAt 0) = .inl (.user 0) ∧ d.storedAt (d.reqAt 0) (.user 0) = some (0x80040000, 64) ∧ (d.reqAt 0).op = opSET) := by
  decide +kernel
theorem test_obj_denied : (let d := tObj 0 1 0 9 2
    d.decideReq d.ext (d.reqAt 0) = .inr oDENIED_RIGHT) := by decide +kernel
/-- The same with an endpoint registered at address 0 and a method asked of it. -/
def tObjEp : Dev :=
  let d := ([(ING_HASH_CFG, 0x010A), (ING_HASH_BASE_LO, 0x81000000), (ING_REC_BASE_LO, 0x82000000)] : List (Nat × Nat)).foldl
    (fun d e => d.wr e.1 e.2) (tObj 0 3 0 5 1)
  let d := ((d.st 0x800000B1 1 4).st 0x81000008 4 (2 ^ 29)).st 0x8200000C 4 1
  d.stBytes 0x80010008 [1, 0, 96, 1, 0, 255]
theorem test_obj_method : tObjEp.decideReq tObjEp.ext (tObjEp.reqAt 0) = .inl (.endpoint 0) ∧ tObjEp.ing.cmd = 0 ∧ tObjEp.regLocked = false := by
  decide +kernel
/-- The same with zone 0 in use and its suspicion to be acknowledged. -/
def tObjZone : Dev :=
  let d := ([(BAL_TBL_BASE_LO, 0x90000000)] : List (Nat × Nat)).foldl (fun d e => d.wr e.1 e.2) (tObj 0 3 0 7 1)
  ((d.st 0x800000F1 1 4).st 0x90000000 1 1).stBytes 0x80010008 [0, 0, 130, 0, 0, 255]
theorem test_obj_ack : tObjZone.decideReq tObjZone.ext (tObjZone.reqAt 0) = .inl (.zone 0) := by decide +kernel

/-! ## ObjectTableAndResponses -/

theorem test_obj_table : State.reset.dev.mayWrite ⟨.sys, 0⟩ OBJ_TBL_CMD = true ∧ State.reset.dev.obj.job = none ∧
    State.reset.dev.mayWrite ⟨.sys, 0⟩ OBJ_RSP_CONS = true ∧ inDram 0x80000000 16384 = true ∧ inDram 0 16384 = false ∧
    rightsFault 0 (Dev.reset.ld 0x80000000 1) = 0 ∧ rightsFault 0 ((Dev.reset.st 0x80000000 1 1).ld 0x80000000 1) = 1 := by decide +kernel
theorem test_obj_table_good (k : Nat) : rightsFault k 0 = 0 := by simp [rightsFault, bitsOf]

/-! ## BalanceSamplesAndPasses -/

/-- A head-end with BAL running, the governor off, the fast cadence on, one sample waiting and EPC waiting for BAL. -/
def tBal (ns : Nat) : Dev :=
  let e : EpochRec := ⟨1, 0, 900000000000, 900000000000, 2, 5, true, 0, false, 0⟩
  { ([(PG_CTRL pBAL, 1), (PG_CTRL pPWR, 0), (SYS_ROLE, 1), (BAL_CFG, 2), (BAL_FAST_LAG, 10), (BAL_SAMP_CFG, 4), (BAL_SAMP_PROD, 1),
      (BAL_TBL_BASE_LO, 0x90000000), (BAL_STATE_BASE_LO, 0xA0000000), (BAL_SAMP_BASE_LO, 0xB0000000)] : List (Nat × Nat)).foldl
      (fun d e => d.wr e.1 e.2) Dev.reset with
    time := { acc := ns % 2 ^ 32 * 2 ^ 32, wrap := ns / 2 ^ 32 }
    epc := { state := .waitBal, job := some (newAshlar 0 e []) } }
theorem test_bal_sample : (tBal 0).balStarts = true ∧ (tBal 0).pairSlave = false ∧ (tBal 0).fld BAL_SAMP_CFG 4 0 ≠ 0 ∧
    (tBal 0).waiting BAL_SAMP_PROD BAL_SAMP_CONS ≠ 0 := by decide +kernel
theorem test_inventory_fix : (let d := (tBal (2 ^ 50)).st (0x90000000 + 0x400000) 1 1
    d.balStarts = true ∧ d.openBoundaries.find? (fun b => !((d.fixedOf 0).any fun e => e.1 == b)) = some 900000000000 ∧
    900000000000 + 1000000000 * (d.itemAt (d.balTbl 900000000000) 0).staleMax ≤ d.ext) := by decide +kernel
theorem test_epoch_pass : (tBal 0).epc.job.isSome = true ∧ (tBal 0).epc.balDone = false ∧ (tBal 0).bal.susp = [] ∧
    ((tBal 0).request 9 balEpochClient).granted 9 balEpochClient = true := by decide +kernel
theorem test_fast_pass : (tBal (75 * 10 ^ 9)).bit BAL_CFG 1 = true ∧ (tBal (75 * 10 ^ 9)).nextFast + 1000000000 * (tBal (75 * 10 ^ 9)).rd BAL_FAST_LAG ≤ (tBal (75 * 10 ^ 9)).ext ∧
    (tBal (75 * 10 ^ 9)).ext < (tBal (75 * 10 ^ 9)).nextFast + 1000000000 * (tBal (75 * 10 ^ 9)).rd BAL_FAST_LAG + 60000000000 ∧
    ((tBal (75 * 10 ^ 9)).request 9 balFastClient).granted 9 balFastClient = true ∧
    (tBal (10 ^ 12)).nextFast + 1000000000 * (tBal (10 ^ 12)).rd BAL_FAST_LAG + 60000000000 ≤ (tBal (10 ^ 12)).ext := by decide +kernel

/-! ## BalanceTablesAndAlarms -/

theorem test_bal_writes : State.reset.dev.mayWrite ⟨.sys, 0⟩ BAL_SUSP_CONS = true ∧ State.reset.dev.mayWrite ⟨.sys, 0⟩ BAL_ACK = true ∧
    State.reset.dev.mayWrite ⟨.sys, 0⟩ BAL_TBL_CMD = true ∧ State.reset.dev.bal.job = none ∧ State.reset.dev.bal.susp = [] := by decide +kernel
theorem test_bal_table : inDram 0x90000000 (0x700000 + 16 * 64) = true ∧ inDram 0 (0x700000 + 16 * 64) = false := by decide +kernel
theorem test_map_rewrite : (let d : Dev := { Dev.reset.wr (PG_CTRL pBAL) 1 with bal := { mapBusy := true } }
    d.continues pBAL = true) := by decide +kernel
theorem test_map_invalid : balCfgInvalid ((Dev.reset.wr BAL_TBL_BASE_LO 0xFFFFFFFF).wr BAL_TBL_BASE_HI 0xFFFFFFFF) = true := by decide +kernel

/-! ## CampaignCommands -/

/-- A module with one firmware campaign in slot 0 in a state, of no targets. -/
def tDst (st : Nat) : Dev :=
  { Dev.reset.wr (PG_CTRL pDST) 1 with dst := { slots := [(0, { st := st, header := [1#8, 0#8, 2#8, 0#8] ++ zeroBytes 124 })] } }
theorem test_dst_write : State.reset.dev.mayWrite ⟨.sys, 0⟩ (DST_C_CTRL 0) = true ∧ State.reset.dev.mirrors = false ∧
    State.reset.dev.startCheck 0 1 ≠ 0 ∧ ((tDst dsREADY).dslot 0).tariff = false ∧ (tDst dsDONE).cancelDue 0 = false := by decide +kernel
theorem test_dst_mirrors : (let d : Dev := { Dev.reset with red := { state := .active, resyncing := true, nextSeq := 4, ackedSeq := 4 } }
    d.mirrors = true ∧ d.dst.due = [] ∧ d.red.ackedSeq ≤ d.red.nextSeq) := by decide +kernel

/-! ## CampaignTraffic -/

/-- A delivering campaign in slot 0 for all meters of the radio, its multicast lane 5, ready to send. -/
def tSend : Dev :=
  let d := ([(PG_CTRL pDST, 1), (PG_CTRL pRAD, 1), (PG_CTRL pRMC, 1), (PG_CTRL pPWR, 0), (DST_CFG, 1 + 256 * 5), (DST_ROUNDS, 1), (DST_C_CTRL 0, 256)] : List (Nat × Nat)).foldl
    (fun d e => d.wr e.1 e.2) Dev.reset
  { d with dst := { slots := [(0, { st := dsDELIVER, header := [1#8, 0#8, 2#8, 0#8, 0#8, 0#8, 0#8, 0#8, 0#8, 1#8] ++ zeroBytes 118 })] } }
theorem test_dst_send : tSend.dstLink 0 = true ∧ (tSend.nextMsg 0).isSome = true ∧
    (tSend.request (dstClass 0) (dstClient 0)).granted (dstClass 0) (dstClient 0) = true := by decide +kernel
theorem test_dst_no_leave : (let d := (tSend.wr (PG_CTRL pPWR) 1)
    let e : Dev := { d with pwr := { d.pwr with pfActive := false, isOver := true } }
    (e.request (dstClass 0) (dstClient 0)).granted (dstClass 0) (dstClient 0) = false) := by decide +kernel
theorem test_dst_pushed : ((((tSend.wr (PG_CTRL pQRY) 1).wr (QRY_Q_CFG 10) 1).wr (QRY_Q_QUOTA 10) 100).enginePush codeDST 5 []).2 = true := by
  decide +kernel
theorem test_dst_report : tSend.runs pDST = true ∧ leAt [3#8] 0 1 = msgREPORT ∧ tSend.rd64 (DST_C_DEADLINE_LO 0) ≤ tSend.ext := by decide +kernel
/-- The same with one target, the meter with address 0. -/
def tTarget (st tstate : Nat) : Dev :=
  let d := ([(ING_HASH_CFG, 0x010A), (ING_REC_BASE_LO, 0x82000000), (DST_C_TGT_LO 0, 0x83000000), (DST_C_TGT_COUNT 0, 1)] : List (Nat × Nat)).foldl
    (fun d e => d.wr e.1 e.2) tSend
  let d := d.st 0x83000000 4 (tstate * 2 ^ 25)
  { d with
    dst := { slots := [(0, { st := st, header := [1#8, 0#8, 2#8, 0#8, 0#8, 0#8, 0#8, 0#8, 0#8, 1#8] ++ zeroBytes 118, asked := [(0, 0)] })] }
    time := { acc := 0, wrap := 10 ^ 8 } }
theorem test_dst_report_target : ((tTarget dsDELIVER tRECEIVING).dTargets 0).find? (fun k => (tTarget dsDELIVER tRECEIVING).dEui 0 k == 0) = some 0 := by
  decide +kernel
theorem test_dst_silent : (tTarget dsACTIVATING tCOMPLETE).dIn 0 [tCOMPLETE] = [0] ∧
    ((tTarget dsACTIVATING tCOMPLETE).silentUntil 0 0).any (fun t => t ≤ ((tTarget dsACTIVATING tCOMPLETE).ext : Int)) = true := by decide +kernel

/-! ## QuarryProducer -/

/-- A device whose queues 4 and 5 are enabled, with a quota, and hold some frames and an open one. -/
def tQry (port : Option OpenFrame) (n : Nat) : Dev :=
  let d := ([(PG_CTRL pQRY, 1), (QRY_Q_CFG 4, 1), (QRY_Q_QUOTA 4, 100), (QRY_Q_CFG 5, 1), (QRY_Q_QUOTA 5, 100)] : List (Nat × Nat)).foldl (fun d e => d.wr e.1 e.2) Dev.reset
  let d := (List.range n).foldl (fun d _ => d.addFrame 5 0 [1#8, 2#8] 0 0) d
  d.setQueue 4 { d.queue 4 with port := port }
theorem test_q_hyp : (tQry none 0).laneFenced (4 / 2) = false ∧ (tQry none 0).mayWrite ⟨.sys, 0⟩ (QRY_Q_WR 4) = true ∧
    (tQry none 0).mayWrite ⟨.sys, 0⟩ (QRY_Q_CMD 4) = true := by
  decide +kernel
theorem test_q_touch (n : Nat) (h : (tQry none n).leased 2 = false) : (tQry none n).touchLane 2 (ownerCode ⟨.sys, 0⟩) 0 = (tQry none n, none) := by
  simp only [Dev.touchLane, h]; rfl
theorem test_q_free : (tQry none 0).leased 2 = false ∧ (tQry none 2).leased 2 = false := by decide +kernel
theorem test_q_room : (tQry none 0).cellWhy 4 0 = none ∧ cellsOf 4 = 1 ∧ (tQry (some { data := zeroBytes 4, cells := 1 }) 0).queue 4 ≠ {} ∧
    cellsOf (4 + 4) ≤ 1 := by decide +kernel
theorem test_q_no_room : Dev.reset.cellWhy 4 0 = some 0 := by decide +kernel
theorem test_q_tag : (let o : OpenFrame := { data := zeroBytes 4, cells := 1 }
    4 * ((o.data.length - 32 * (lastWord o.data.length - 1)) / 4 - 1) < 1 ∧ 1 ≤ 4 * ((o.data.length - 32 * (lastWord o.data.length - 1)) / 4)) := by decide

/-! ## QuarryConsumer -/

theorem test_qc_hyp : (tQry none 2).laneFenced (5 / 2) = false ∧ (tQry none 2).mayWrite ⟨.sys, 0⟩ (QRY_Q_CMD 5) = true ∧ (tQry none 2).en pQRY = true ∧
    ((tQry none 2).queue 5).rd < ((tQry none 2).queue 5).ids.length ∧
    ((tQry none 0).queue 5).ids.length ≤ ((tQry none 0).queue 5).rd := by decide +kernel
theorem test_qc_release : (((tQry none 2).setQueue 5 { (tQry none 2).queue 5 with mark := 1, rd := 1 }).queue 5).mark ≠ 0 := by decide +kernel
theorem test_qc_seek : (((tQry none 1).queue 5).cur.bind (tQry none 1).frame?).isSome = true := by decide +kernel
theorem test_qc_forward : ((tQry none 1).queue 5).cur = some 0 ∧ ((tQry none 1).frame? 0).any (fun f => !f.poisoned && f.holders.length < 4) = true ∧
    (tQry none 1).occ 4 + 1 ≤ (tQry none 1).qQuota 4 ∧ ((tQry none 1).qCfg 4).testBit 0 = true := by decide +kernel
theorem test_qc_reads : (tQry none 1).mayRead ⟨.sys, 0⟩ (QRY_Q_AP 5 0) = true ∧ (tQry none 1).takeLatch (QRY_Q_AP 5 0) = none ∧
    (tQry none 1).mayRead ⟨.sys, 0⟩ (QRY_Q_COUNT 5) = true ∧ (tQry none 1).takeLatch (QRY_Q_COUNT 5) = none := by decide +kernel

/-! ## LeasesFencesAndSweep -/

/-- A device whose lane 2 is leased to hart 0, the lease not renewed for 16 s. -/
def tLease : Dev :=
  { Dev.reset.wr (QRY_Q_CFG 4) 0x13 with qry := { owners := [(2, { code := 1, id := 0, renewed := 0 })] }, time := { ticks := 4000000000 } }
theorem test_lease_out : tLease.leaseOut 2 = true ∧ Dev.reset.leaseOut 2 = false := by decide +kernel
theorem test_fence_hyp : tLease.mayWrite ⟨.sys, 0⟩ QRY_FENCE = true ∧ tLease.laneFenced 2 = false ∧
    (let d : Dev := { tLease with qry := { fenced := [2] } }
     d.laneFenced 2 = true ∧ d.qry.sweeping ≠ some 2 ∧ d.qry.waiting.contains 2 = false) ∧
    (let d : Dev := { tLease with qry := { fenced := [2], sweeping := some 2 } }
     d.qry.sweeping = some 2) := by decide +kernel

/-! ## MeterLinkAccess -/

/-- A device whose link of a medium runs, with its DEFAULT lane 0, a queue with a frame of an address and 16 octets of header. -/
def tMac (m n : Nat) (z : MacSt) : Dev :=
  let d := ([(PG_CTRL pQRY, 1), (PG_CTRL pRAD, 1), (PG_CTRL pRMC, 1), (PG_CTRL pPLC, 1), (QRY_Q_CFG 0, 1), (QRY_Q_QUOTA 0, 100),
    (LN_CFG 0, 0x101 + m), (RMC_SLOT_SPLIT, 64), (PLC_BCN, 4)] : List (Nat × Nat)).foldl (fun d e => d.wr e.1 e.2) Dev.reset
  let d := (List.range n).foldl (fun d _ => d.addFrame 0 0 (leBytes 8 7 ++ [0#8, 1#8] ++ zeroBytes 7) 0 0) d
  ({ d with time := { acc := 40000000 * 2 ^ 32 } } : Dev).setMac m z
theorem test_mac_send : (tMac 0 1 {}).macSends 0 = true ∧ (tMac 0 1 {}).laneOn 0 = true ∧ (tMac 0 1 {}).laneLink 0 = 1 ∧ (tMac 0 1 {}).laneKind 0 = 0 ∧
    ((tMac 0 1 {}).txFront? 0).isSome = true ∧ ((tMac 0 1 {}).laneTx 0 0).mpdu = [] := by decide +kernel
theorem test_mac_send_plc : (tMac 1 1 {}).macSends 1 = true ∧ (tMac 1 1 {}).laneOn 0 = true ∧ (tMac 1 1 {}).laneLink 0 = 2 ∧ (tMac 1 1 {}).laneKind 0 = 0 ∧
    ((tMac 1 1 {}).txFront? 0).isSome = true := by decide +kernel
theorem test_mac_built : (let d := tMac 0 1 { lanes := [(0, { mpdu := [1#8] })] }
    (d.laneTx 0 0).mpdu ≠ []) := by decide +kernel
theorem test_mac_psdu : ((tMac 0 1 {}).psduOf 0 0 false false (leBytes 8 7 ++ [0#8, 1#8] ++ zeroBytes 6)).2.isSome = true ∧
    ((tMac 0 1 {}).psduOf 0 0 false false (leBytes 8 7 ++ [0#8, 0#8] ++ zeroBytes 6)).2 = none := by decide +kernel
theorem test_mac_backoff : (let d := tMac 0 1 { access := some { lane := 0, nb := 0, be := 3 }, lanes := [(0, { mpdu := [1#8] })] }
    d.contention = true ∧ d.fitsContention 1 = true ∧ (d.txFront? 0).isSome = true ∧ 0 + 1 ≤ d.maxBackoffs 0 ∧ d.maxBackoffs 0 < 6 + 1 ∧
    ((d.wr (PG_CTRL pPWR) 0).request 2 ⟨pRMC, 0⟩).granted 2 ⟨pRMC, 0⟩ = true ∧ d.contention ≠ (d.wr (PG_CTRL pRMC) 1 |>.wr RMC_SLOT_SPLIT 1).contention) := by
  decide +kernel
theorem test_mac_not_fit : (tMac 0 1 {}).fitsContention 100000 = false := by decide +kernel
theorem test_mac_denied : (let d := ({ (tMac 0 1 {}).wr (PG_CTRL pPWR) 1 with pwr := { isOver := true, pfActive := false } } : Dev)
    (d.request 2 ⟨pRMC, 0⟩).granted 2 ⟨pRMC, 0⟩ = false) := by decide +kernel
theorem test_mac_plc_fits : (let d := tMac 1 1 { access := some { lane := 0, nb := 0, be := 3 }, lanes := [(0, { mpdu := [1#8] })] }
    let map := d.plcMap 0 (some 7) false
    let need := d.plcSymbol + d.plcAir map.1 map.2 1 + 5000000
    need ≤ d.plcPeriod ∧ d.ext + need ≤ d.plcNominal d.plcBcnNow) := by decide +kernel
theorem test_mac_tries : (tMac 0 1 {}).maxRetry 0 = 3 ∧ (tMac 1 1 {}).maxRetry 1 = 3 := by decide +kernel

/-! ## RadioBeaconsFramesAndScans -/

theorem test_sf : (let d := (tMac 0 1 {}).wr RMC_NET 0x10000
    d.runs pRMC = true ∧ d.rad.sfDone < d.sfNow ∧ (let e := (d.boundary fun a => onPage pRAD a || onPage pRMC a).observe
      e.macSends 0 = true ∧ (e.gov RMC_NET).testBit 16 = true ∧ e.beacon.2.isSome = true)) := by decide +kernel
theorem test_sf_missed : (tMac 0 1 {}).runs pRAD = true ∧ (tMac 0 1 {}).macHears 0 = true ∧ ((((tMac 0 1 {}).wr RMC_NET 0)).gov RMC_NET).testBit 16 = false ∧
    Dev.reset.runs pRAD = false ∧ Dev.reset.macHears 0 = false := by decide +kernel
/-- A DATA frame without security from source 9, as the radio brings it. -/
def tFrame : RadioRx :=
  let h := mpduHead fDATA false true 5 0 none (some 9) none ++ [1#8, 2#8]
  { phrOk := true, fcs32 := true, psdu := h ++ fcsBytes 4 h, channel := 3, rssi := 0x80#8, margin := 0#8, ant := false, ago := 0 }
theorem test_rx : (let b := tFrame.psdu.take (tFrame.psdu.length - 4)
    7 ≤ tFrame.psdu.length ∧ fcsBytes 4 b = tFrame.psdu.drop (tFrame.psdu.length - 4) ∧
    (parseMpdu b).any (fun x => x.typ == fDATA && x.ver == 1 && x.dst == none && !x.sec && x.ar && x.src == 9) = true) := by decide +kernel
theorem test_rx_fcs : fcsBytes 4 (zeroBytes 4) ≠ zeroBytes 4 ∨ fcsBytes 4 [1#8] ≠ zeroBytes 4 := by decide +kernel
theorem test_rx_lane : (let d := (tMac 0 1 {}).wr (QRY_Q_CFG 1) 1 |>.wr (QRY_Q_QUOTA 1) 100
    d.peerOf 0 9 = none ∧ d.laneOf 1 0 = some 0 ∧ d.en pQRY = true ∧ d.laneFenced 0 = false ∧ d.cellsWhy 1 (cellsOf 18) = none ∧
    (let e := ({ (d.wr (LN_CFG 1) 0x111).wr (LN_PEER_LO 1) 9 with rad := { conn := [(1, { st := 2 })] } } : Dev)
     e.peerOf 0 9 = some 1)) := by decide +kernel
theorem test_scan : State.reset.dev.mayWrite ⟨.sys, 0⟩ RAD_SCAN_CMD = true ∧ State.reset.dev.rad.scan = none ∧
    (Dev.reset.wr (PG_CTRL pRAD) 1).starts pRAD = true ∧ (Dev.reset.wr (PG_CTRL pRAD) 1).en pRMC = false := by decide +kernel

/-! ## ConnectionsAndSleepyMeters -/

/-- A connection lane 3 with a state, and an INDIRECT lane 4 with frames for meter 7. -/
def tConn (c : ConnLane) : Dev :=
  let d := ([(LN_CFG 3, 0x111), (LN_CONN 3, 8 + 0x10000), (LN_CFG 4, 0x121), (RMC_IND_CFG, 0), (QRY_Q_CFG 8, 1), (QRY_Q_QUOTA 8, 100),
    (PG_CTRL pPWR, 0), (RMC_EVT_WIN, 15)] : List (Nat × Nat)).foldl (fun d e => d.wr e.1 e.2) (tMac 0 0 {})
  let d := d.addFrame 8 0 (leBytes 8 7 ++ [0#8, 1#8] ++ zeroBytes 7) 0 0
  { d with rad := { d.rad with conn := [(3, c)], connectDue := some 3, indDue := some 7 } }
/-- The same with meter 7 in the registry and its key in the cache. -/
def tKeyed (d : Dev) : Dev :=
  let d := ([(ING_HASH_CFG, 0x010A), (ING_HASH_BASE_LO, 0x81000000), (ING_REC_BASE_LO, 0x82000000)] : List (Nat × Nat)).foldl (fun d e => d.wr e.1 e.2) d
  let d := ((d.st (d.hashAddr (homeSlot 7 10)) 8 7).st (d.hashAddr (homeSlot 7 10) + 8) 4 (2 ^ 29)).recPut 0 (rSECURITY + 12) 4 (2 ^ 31)
  { d with key := { d.key with cache := [{ blob := 0, kek := 0, kekGen := 0, addr := 7, key := zeroBytes 16 }] } }
theorem test_conn_key : ((tKeyed (tConn { st := 1 })).frameTo 0 fCONNECT_RSP false false true (some 7) []).2.isSome = true := by decide +kernel
theorem test_conn_write : (tConn {}).mayWrite ⟨.sys, 0⟩ (LN_CMD 3) = true ∧ (tConn {}).isConn 3 = true ∧
    (tConn {}).mayWrite ⟨.sys, 0⟩ (LN_CMD 4) = true ∧ (tConn {}).laneLink 4 = 1 ∧ (tConn {}).isConn 4 = false := by decide +kernel
theorem test_conn_rsp : (tConn { st := 1 }).rad.connectDue = some 3 ∧ (tConn { st := 1 }).macSends 0 = true ∧ ((tConn { st := 1 }).conn 3).st = 1 ∧
    (tConn {}).laneOf 1 2 = some 4 ∧
    ((tConn {}).request 2 ⟨pRMC, 3⟩).granted 2 ⟨pRMC, 3⟩ = true ∧
    (({ (tConn {}).wr (PG_CTRL pPWR) 1 with pwr := { isOver := true, pfActive := false } } : Dev).request 2 ⟨pRMC, 3⟩).granted 2 ⟨pRMC, 3⟩ = false ∧
    ((tConn {}).frameTo 0 fCONNECT_RSP false false true (some 7) []).2 = none := by decide +kernel
theorem test_supervision : (let d := ({ tConn { st := 2 } with time := { ticks := 25000000, acc := 40000000 * 2 ^ 32 } } : Dev)
    d.runs pRMC = true ∧ d.past 0 (25000000 * d.supTo 3) = true ∧ (tConn {}).past 0 (25000000 * (tConn {}).supTo 3) = false) := by decide +kernel
theorem test_event : (let d := tConn { st := 2, next := 2 }
    0 < d.sfNow ∧ d.globalSlot = 2 ∧ (d.conn 3).last ≠ some 2 ∧ d.txFront? 3 = none ∧ (d.gov RAD_PHY).testBit 3 = true ∧
    (let e : Dev := { d with time := { acc := 32000000 * 2 ^ 32 } }
     e.inSlot = 0 ∧ e.globalSlot = 2 ∧ e.radAir 25 + 1000000 + e.radAir 9 ≤ e.eventWindow 3 2)) := by decide +kernel
theorem test_event_late : (let d := tConn { st := 2, next := 0 }
    d.globalSlot < 0 + ceilDiv 2 (d.connCi 3) * d.connCi 3 ∧ ((d.wr RMC_EVT_WIN 0).eventWindow 3 2 = 0)) := by decide +kernel
theorem test_indirect : (tConn {}).rad.indDue = some 7 ∧ (tConn {}).pendingFrames 7 = [0] := by decide +kernel
theorem test_indirect_psdu : ((tConn {}).psduOf 0 4 false false (leBytes 8 7 ++ [0#8, 1#8] ++ zeroBytes 7)).2.isSome = true := by decide +kernel

/-! ## PowerLine -/

/-- A device with the power line on and its DEFAULT lane 0, the time 40 ms, some zero-crossing state. -/
def tPlc (z : PlcSt) : Dev :=
  let d := ([(PG_CTRL pQRY, 1), (PG_CTRL pTIM, 1), (PG_CTRL pPLC, 1), (QRY_Q_CFG 1, 1), (QRY_Q_QUOTA 1, 100), (LN_CFG 0, 0x102), (LN_CFG 1, 0x112),
    (TIM_CAP_CFG 0, 0x12), (PLC_BCN, 0x104), (PLC_ZC_STAT, 2000000)] : List (Nat × Nat)).foldl (fun d e => d.wr e.1 e.2) Dev.reset
  { d with time := { ticks := 10000000, acc := 40000000 * 2 ^ 32 }, plc := z }
theorem test_plc_beacon : (let d := tPlc {}
    d.runs pPLC = true ∧ d.plc.bcnDone < d.plcBcnNow ∧ d.zcAligned = false ∧ d.plcBcnNow - 1 - d.plc.bcnDone = 0 ∧
    d.macSends 1 = true ∧ (d.gov PLC_BCN).testBit 8 = true ∧ (d.plcBeacon 0).2.isSome = true ∧ (Dev.reset.gov PLC_BCN).testBit 8 = true ∧
    ((d.wr PLC_BCN 4).gov PLC_BCN).testBit 8 = false ∧ ((d.wr PLC_BCN 0x304).gov PLC_BCN).testBit 9 = true) := by decide +kernel
theorem test_plc_waits : (let d := (tPlc { zcOk := true }).wr PLC_ZC_MODE 1
    d.zcAligned = true ∧ (d.plc.zcEdges.filter fun e => decide (0 ≤ e)).getLast? = none ∧ d.pairSlave = false) := by decide +kernel
/-- A DATA frame without security from source 9, as the power line brings it. -/
def tPlcFrame : PlcRx :=
  let h := mpduHead fDATA false true 5 0 none (some 9) none ++ [1#8, 2#8]
  { hdrOk := true, modu := 0, gmask := 1#17, zco := 0xFFFF#16, rsOk := true, psdu := h ++ fcsBytes 4 h, snr := [9#8], noise := 3, ago := 0 }
theorem test_plc_rx : (let b := tPlcFrame.psdu.take (tPlcFrame.psdu.length - 4)
    fcsBytes 4 b = tPlcFrame.psdu.drop (tPlcFrame.psdu.length - 4) ∧
    (parseMpdu b).any (fun x => x.typ == fDATA && x.ver == 1 && x.dst == none && !x.sec && x.ar && x.src == 9 && x.net == 0) = true) := by decide +kernel
theorem test_plc_rx_state : (let d := (tPlc {}).wr PLC_NET 0
    d.macHears 1 = true ∧ d.plc.bcnEnd = 0 ∧ (1 &&& d.plcUnmasked) = 1 ∧ d.peerOf 1 9 = none ∧ d.laneOf 2 0 = some 0 ∧ d.gov PLC_NET % 65536 = 0 ∧
    d.cellsWhy 1 (cellsOf 18) = none ∧ d.en pQRY = true ∧ d.laneFenced 0 = false) := by decide +kernel
theorem test_plc_abort : (let d := tPlc { bcnStart := 1, bcnEnd := 50000000 }
    d.ext - 0 - 6 * 256 * d.plcSample < d.plc.bcnEnd ∧ d.plc.bcnStart < d.ext) := by decide +kernel
theorem test_plc_deaf : Dev.reset.macHears 1 = false := by decide +kernel
theorem test_tonemap : (let d := tPlc { tmapDue := [(1, 0x80000005, 9)] }
    d.plc.tmapDue.find? (fun e => e.1 == 1) = some (1, 0x80000005, 9) ∧ d.macSends 1 = true ∧ d.plc.mac.ackWait = none ∧
    ((tKeyed d).frameTo 1 fTONEMAP false true true (some 7) []).2.isSome = true) := by decide +kernel
theorem test_zc : (let d := tPlc { zcOk := true, zcEdges := [20000000] }
    d.runs pPLC = true ∧ d.en pTIM = true ∧ d.capOn 0 2 = true ∧ d.plc.zcEdges.headD 0 = 20000000 ∧ d.ext = 40000000 ∧
    10 * d.fld PLC_ZC_STAT 21 0 = 20000000 ∧ d.past 0 (250000 * 40) = true) := by decide +kernel
theorem test_zc_loss : (let d := (tPlc { zcOk := true }).wr PLC_ZC_CFG 1
    d.past d.plc.zcTick (250000 * d.fld PLC_ZC_CFG 7 0) = true ∧ Dev.reset.runs pPLC = false) := by decide +kernel

/-! ## RingPortsAndMastership -/

/-- A ring station with both ports enabled and in a state. -/
def tRing (t : TrkSt) : Dev :=
  let d := ([(PG_CTRL pTRK0, 1), (PG_CTRL pTRK1, 1), (PG_CTRL pQRY, 1), (TRK_CFG, 1), (TRK_STN, 5), (LN_CFG 0, 0x103), (QRY_Q_CFG 1, 1),
    (QRY_Q_QUOTA 1, 100)] : List (Nat × Nat)).foldl (fun d e => d.wr e.1 e.2) Dev.reset
  { d with time := { ticks := 250000000 }, trk := t }
theorem test_ring_on : (tRing {}).portOn 0 = true ∧ (tRing {}).portOn 1 = true ∧ Dev.reset.portOn 0 = false ∧ (tRing {}).helloOk 0 = false ∧
    (tRing { p0 := { helloTick := some 250000000 } }).helloOk 0 = true ∧ 0 < (tRing {}).helloTo := by decide +kernel
theorem test_ring_hold : (tRing {}).past 0 (250000 * (tRing {}).rd TRK_UNWRAP_HOLD) = true ∧ (tRing {}).past 0 (tRing {}).helloMs = true ∧
    (tRing {}).past 250000000 (tRing {}).helloMs = false := by decide +kernel
theorem test_ring_join : (tRing {}).primaryVisit 1 = some true ∧ (tRing {}).primaryVisit 0 = some false ∧ (tRing {}).mayAsk = true ∧
    (tRing { refused := some 250000000 }).mayAsk = false := by decide +kernel
theorem test_ring_master : (tRing { mayMaster := true }).trkOn = true ∧ ((tRing { mayMaster := true }).gov TRK_CFG).testBit 0 = true ∧
    ((tRing {}).red.state == .solo) = true := by decide +kernel

/-! ## RingTokenClaimsAndFrames -/

/-- A good ring frame of a type from station 7 to station 5, its payload as given. -/
def tRf (typ dst src hops : Nat) (b : Bytes) : Bytes := ringFrame typ 0 dst src 0 hops b
def tGood (f : Bytes) : Bool :=
  decide (64 ≤ f.length) && decide (f.length ≤ 2068) && leAt f (f.length - 4) 4 == crc32 (f.take (f.length - 4)) && f.length == max 64 (20 + leAt f 10 2)
theorem test_ring_frames : tGood (tRf ftDATA 5 7 0 (zeroBytes 50)) = true ∧ tGood (tRf ftHELLO 0 7 0 [1#8]) = true ∧
    tGood (tRf ftDATA 6 7 2047 []) = true ∧ tGood (tRf ftTOKEN 0 7 0 (tokenBytes 1 false 0xFFFF)) = true ∧ tGood (zeroBytes 64) = false := by decide +kernel
theorem test_ring_hops : leAt ((tRing {}).transparent (tRf ftDATA 6 7 2047 []) 9) 8 2 = 2047 ∧ (leAt (tRf ftDATA 6 7 2047 []) 1 1).testBit 0 = false ∧
    leAt (tRf ftDATA 6 7 2047 []) 2 2 % 1024 = 6 ∧ leAt (tRf ftDATA 6 7 2047 []) 4 2 % 1024 = 7 := by decide +kernel
/-- An IPv6/UDP datagram of no payload with its checksum. -/
def tUdp : Bytes :=
  let b := beBytes 4 (6 * 2 ^ 28) ++ beBytes 2 8 ++ [17#8, 1#8] ++ zeroBytes 36 ++ beBytes 2 8 ++ zeroBytes 2
  setBytes b 46 (beBytes 2 (udp6Csum b))
theorem test_ring_datagram : isUdp6 tUdp = true ∧ beAt tUdp 46 2 = udp6Csum tUdp ∧ isUdp6 [] = false ∧ isUdp6 (setBytes tUdp 46 [0#8, 0#8]) = true ∧
    beAt (setBytes tUdp 46 [0#8, 0#8]) 46 2 ≠ udp6Csum (setBytes tUdp 46 [0#8, 0#8]) ∧
    slice (tRf ftDATA 5 7 0 tUdp) 16 (leAt (tRf ftDATA 5 7 0 tUdp) 10 2) = tUdp ∧ tGood (tRf ftDATA 5 7 0 tUdp) = true := by decide +kernel
theorem test_ring_lane : (tRing {}).trunkLane 0 = some 0 ∧ (tRing {}).cellsWhy 1 2 = none ∧ (tRing {}).laneFenced 0 = false ∧
    (tRing {}).trunkWaiting = [] ∧ (tRing {}).stn = 5 := by decide +kernel
theorem test_ring_is_master : (tRing { master := true }).isMaster = true ∧ (tRing {}).isMaster = false ∧
    (tRing {}).past 0 (250 * (tRing {}).rd TRK_TOKEN_TO) = true ∧ (tRing {}).newer 1 = true ∧ (tRing {}).newer 0xFFFF = false := by decide +kernel

/-! ## Uplink -/

/-- An uplink with LINK up, its DEFAULT lane 0 with n frames to send, its MGMT lane 1 with m frames received. -/
def tUpl (n m : Nat) : Dev :=
  let d := ([(PG_CTRL pUPL, 1), (PG_CTRL pQRY, 1), (UPL_STAT, 5), (LN_CFG 0, 0x105), (LN_CFG 1, 0x125), (QRY_Q_CFG 0, 1), (QRY_Q_QUOTA 0, 100),
    (QRY_Q_CFG 1, 1), (QRY_Q_QUOTA 1, 100), (UPL_CFG, 4), (UPL_MGMT, 0x1C8B0), (UPL_SES_IDLE, 10), (UPL_MAC_LO, 5), (UPL_MAC_HI, 0)] : List (Nat × Nat)).foldl (fun d e => d.wr e.1 e.2) Dev.reset
  let d := (List.range n).foldl (fun d _ => d.addFrame 0 0 (zeroBytes 40) 0 0) d
  (List.range m).foldl (fun d _ => d.addFrame 3 0 (zeroBytes 40) 0 0) d
def tEth (dest : Nat) : Bytes := let b := beBytes 6 dest ++ zeroBytes 54; b ++ leBytes 4 (crc32 b)
theorem test_upl_rx : (tUpl 0 0).runs pUPL = true ∧ (tUpl 0 0).bit UPL_STAT 0 = true ∧ (tEth 0).length = 64 ∧
    leAt (tEth 0xFFFFFFFFFFFF) 60 4 = crc32 ((tEth 0xFFFFFFFFFFFF).take 60) ∧ isPause (tEth 0xFFFFFFFFFFFF) = false ∧
    (tUpl 0 0).uplAccepts (tEth 0xFFFFFFFFFFFF) = true ∧ (tUpl 0 0).uplAccepts (tEth 0x020000000000) = false ∧
    (tUpl 0 0).uplLane ((tEth 0xFFFFFFFFFFFF).take 60) = some 0 ∧ (tUpl 0 0).cellsWhy 1 (cellsOf 76) = none ∧ (tUpl 0 0).laneFenced 0 = false := by
  decide +kernel
theorem test_upl_pause : isPause (beBytes 6 0x0180C2000001 ++ zeroBytes 6 ++ beBytes 2 0x8808 ++ beBytes 2 1 ++ zeroBytes 44) = true ∧
    ((tUpl 0 0).gov UPL_CFG).testBit 2 = true := by decide +kernel
theorem test_upl_tx : (tUpl 1 0).linkStarts pUPL = true ∧ (tUpl 1 0).laneLink 0 = 5 ∧ (tUpl 1 0).laneOn 0 = true ∧
    ((tUpl 1 0).txFront? 0).isSome = true ∧ (tUpl 1 0).upl.pauseEnd = 0 := by decide +kernel
theorem test_upl_mgmt : (tUpl 0 1).laneOf 5 2 = some 1 ∧ ((tUpl 0 1).engineFront 1).isSome = true ∧ (mgmtParse (zeroBytes 24)).isNone = true := by
  decide +kernel
/-- A request in form to session 0: IPv6/UDP of one operation, its tag zero. -/
def tMgmt : Bytes := zeroBytes 12 ++ beBytes 2 0x86DD ++ beBytes 4 (6 * 2 ^ 28) ++ beBytes 2 48 ++ [17#8, 64#8] ++ zeroBytes 36 ++ beBytes 2 48 ++
  zeroBytes 2 ++ mgmtHead 0 1 1 ++ zeroBytes 24
theorem test_mgmt_parse : (mgmtParse tMgmt).any (fun q => q.ses == 0 && q.ver == 1 && q.ops == 1 && q.seq == 1 && q.formed) = true := by decide +kernel
/-- Slots 1 and 2 as GCM keys to open and to seal. -/
def tSes : Dev :=
  let d := tUpl 0 0
  { d with
    key := { d.key with slots := [(1, { st := 1, alg := 0, usage := 1, scope := 15, parent := 0xFF, key := zeroBytes 32 }),
      (2, { st := 1, alg := 0, usage := 0, scope := 15, parent := 0xFF, key := zeroBytes 32 })] }
    time := { ticks := 2500000000 } }
theorem test_ses : tSes.sesSlots 0x020101 = true ∧ Dev.reset.sesSlots 0x020101 = false ∧ tSes.mayWrite ⟨.sys, 0⟩ (UPL_SES_CTRL 0) = true ∧
    (tSes.wr (UPL_SES_CTRL 0) 1).bit (UPL_SES_CTRL 0) 0 = true ∧ tSes.past (tSes.session 0).tick (250000000 * tSes.rd UPL_SES_IDLE) = true := by decide +kernel
/-- The request under the all-zero key with its tag. -/
def tMgmtReq : MgmtReq :=
  let head := mgmtHead 0 1 1
  let c := gcmSeal (zeroBytes 32) (mgmtNonce 0 0 1) head (zeroBytes 8)
  { ses := 0, ver := 1, ops := 1, seq := 1, head := head, body := c.take 8, tag := c.drop 8 }
theorem test_mgmt_open : ((tSes.wr (UPL_SES_CTRL 0) 0x020101).mgmtOpen tMgmtReq).isSome = true := by decide +kernel

/-! ## FieldBus -/

/-- Bus 0 with lane 0, a poll list of two entries at the start of DRAM, the time 1 s, and a state of the bus. -/
def tFb (x : FbSt) : Dev :=
  let d := ([(PG_CTRL (pFB 0), 1), (PG_CTRL pQRY, 1), (LN_CFG 0, 0x106), (QRY_Q_CFG 1, 1), (QRY_Q_QUOTA 1, 100), (QRY_Q_CFG 0, 1), (QRY_Q_QUOTA 0, 100),
    (FB_LIST_BASE_LO 0, 0x80000000), (FB_LIST_LEN 0, 2)] : List (Nat × Nat)).foldl (fun d e => d.wr e.1 e.2) Dev.reset
  let d := (d.st 0x80000000 2 1).st 0x80000002 2 1 |>.st 0x80000004 4 10
  { d with time := { ticks := 250000000, acc := 10 ^ 9 * 2 ^ 32 }, fb := [(0, x)] }
theorem test_fb_due : (tFb {}).fbRuns 0 = true ∧ 0 < (tFb {}).pollLen 0 ∧ ((tFb {}).ld ((tFb {}).pollAddr 0 0) 2).testBit 0 = true ∧
    (tFb {}).pollInstant 0 0 = some (10 ^ 9) := by decide +kernel
theorem test_fb_starts : (tFb {}).fbStarts 0 = true ∧ (tFb {}).laneLink 0 = 6 ∧ (tFb {}).laneOn 0 = true ∧ (tFb {}).fld (FB_LANE 0) 8 0 = 0 ∧
    (((tFb {}).addFrame 0 0 (zeroBytes 20) 0 0).txFront? 0).isSome = true ∧ ((tFb {}).txFront? 0).isNone = true := by decide +kernel
theorem test_fb_judge : judge false false [1#8, 3#8] ([1#8, 3#8, 0#8] ++ leBytes 2 (crcModbus [1#8, 3#8, 0#8])) = 0 ∧
    judge false false [1#8, 3#8] ([1#8, 0x83#8, 2#8] ++ leBytes 2 (crcModbus [1#8, 0x83#8, 2#8])) = 6 ∧
    judge false false [1#8] [1#8] = 4 ∧ judge true false [0x10#8, 0x5B#8, 1#8] [0xE5#8] = 0 ∧ judge false true [] [] = 3 := by decide +kernel
theorem test_fb_room : (tFb {}).cellsWhy 1 (cellsOf 19) = none ∧ (tFb {}).laneFenced 0 = false ∧ ((Dev.reset).qCfg 1).testBit 0 = false ∧
    (tFb {}).runs (pFB 0) = true ∧ (tFb {}).past 0 (250000 * 200) = true ∧ (tFb {}).past 0 (250000 * (tFb {}).rd (FB_TURN 0)) = true := by decide +kernel

/-! ## TimeRatesStepsAndClass -/

/-- A device with TIM enabled in a correction mode and some state of the time base. -/
def tTim (corr : Nat) (x : TimeSt) : Dev :=
  let d := ([(PG_CTRL pTIM, 1), (TIM_CORR, corr), (TIM_STEP_THR, 1000)] : List (Nat × Nat)).foldl (fun d e => d.wr e.1 e.2) Dev.reset
  { d with time := x }
theorem test_tim_access : (tTim 0 {}).mayRead ⟨.sys, 0⟩ TIM_NS = true ∧ (tTim 0 {}).takeLatch TIM_NS = none ∧ (tTim 0 {}).mayWrite ⟨.sys, 0⟩ TIM_INC_HI = true ∧
    (tTim 0 {}).mayWrite ⟨.sys, 0⟩ TIM_STEP_HI = true ∧ (tTim 0 {}).mayWrite ⟨.sys, 0⟩ TIM_OFFSET_HI = true ∧
    (tTim 0 {}).mayWrite ⟨.sys, 0⟩ TIM_CLASS_SET = true := by decide +kernel
theorem test_tim_modes : (tTim 0 {}).timMode = 0 ∧ (tTim 4 {}).timSrc = 1 ∧ (tTim 4 {}).timMode = 0 ∧ (tTim 0x15 {}).timMode = 1 ∧ (tTim 0x15 {}).timSrc = 1 ∧
    (tTim 0x15 {}).bit TIM_CORR 4 = true ∧ (tTim 0x15 {}).rd TIM_STEP_THR < 2000 ∧ 500 ≤ (tTim 0x15 {}).fld TIM_LOCK 15 0 ∧
    (tTim 0x15 {}).fld TIM_LOCK 15 0 < 70000 := by decide +kernel
theorem test_tim_wrapped : (tTim 0 { wrapPend := true, cls := .synced }).time.wrapPend = true ∧ Dev.reset.time.wrapPend = false := by decide +kernel
theorem test_tim_lost : (let d := tTim 5 { cls := .synced, ticks := 250000 * 3000 }
    d.time.masterLost = false ∧ d.past d.time.lossTick (250000 * d.rd TIM_MASTER_TO) = true ∧ d.en pTIM = true ∧ d.timMode ≠ 0) := by decide +kernel
theorem test_tim_hold : (let d := tTim 0 { cls := .holdover, uncBase := 2000000 }
    d.rd TIM_HOLD_MAX < d.uncRaw) := by decide +kernel

/-! ## CompareCaptureAndStamps -/

theorem test_cmp_access : (tTim 0 {}).mayWrite ⟨.sys, 0⟩ (TIM_CMP_CTRL 3) = true ∧ (tTim 0 {}).mayRead ⟨.sys, 0⟩ (TIM_CAP_NS 2) = true ∧
    (tTim 0 {}).takeLatch (TIM_CAP_NS 2) = none ∧ (tTim 0 {}).mayRead ⟨.sys, 0⟩ TIM_TXTS_NS = true ∧ (tTim 0 {}).mayWrite ⟨.sys, 0⟩ TIM_TXTS_POP = true ∧
    (tTim 0 {}).takeLatch TIM_TXTS_NS = none := by decide +kernel
theorem test_cmp_reached : (let d := tTim 0 { cmps := List.replicate 16 { armed := true } }
    d.en pTIM = true ∧ (d.cmp 3).armed = true ∧ d.cmpReached 3 = true ∧ (d.rd (TIM_CMP_CFG 3)).testBit 1 = false ∧
    ((d.wr (TIM_CMP_NS 3) 5).setCmp 3 {}).cmpReached 3 = false ∧ ((d.wr (TIM_CMP_CFG 3) 7).rd (TIM_CMP_CFG 3)).testBit 1 = true ∧
    (d.wr (TIM_CMP_PERIOD 3) 9).rd (TIM_CMP_PERIOD 3) ≠ 0) := by decide +kernel
theorem test_cap_on : (let d := ((tTim 0 { ppsPrev := some 0, acc := 10 ^ 9 * 2 ^ 32 }).wr (TIM_CAP_CFG 1) 0x11).wr TIM_LAT_PPS 0
    d.timSrc = 0 ∧ (List.range 8).any (fun n => d.capOn n 1 && d.bit (TIM_CAP_CFG n) 3 == !true) = true ∧
    0 + 900000000 ≤ d.ext - d.rd TIM_LAT_PPS ∧ d.ext - d.rd TIM_LAT_PPS ≤ 0 + 1100000000) := by decide +kernel
theorem test_cap_gpio : (let d := ((Dev.reset.wr (TIM_CAP_CFG 1) 0x10).wr (PIN_FUNC 0) 2).wr (PIN_ARG 0) 1
    (d.pinFunc 0 == 2 && (d.pinArg 0).testBit 4 != true && d.capOn (bitsOf (d.pinArg 0) 2 0) 0) = true) := by decide +kernel

/-! ## KeyJobRings -/

/-- A device in a life-cycle state with KEY and no governor, a ring of jobs at a base, and one job. -/
def tKeyDev (lc ring : Nat) (slots : Assoc KeySlot) (job : Bytes) : Dev :=
  let base := Config.dramBase
  let d := ([(PG_CTRL pKEY, 1), (PG_CTRL pPWR, 0), (KEY_JOB_BASE_LO ring, base), (KEY_JOB_BASE_HI ring, base / 2 ^ 32), (KEY_JOB_CFG ring, 4),
    (KEY_JOB_PROD ring, 1), (KEY_BLOB_BASE_LO, base + 0x10000), (KEY_BLOB_BASE_HI, base / 2 ^ 32), (KEY_BLOB_COUNT, 8), (KEY_CFG, 8),
    (ING_REG_HWM, 4)] : List (Nat × Nat)).foldl (fun d e => d.wr e.1 e.2) Dev.reset
  let d := { d with rst := { d.rst with fuse := { d.rst.fuse with lc := lc } } }
  let d := { d with key := { d.key with slots := slots } }
  d.stBytes base job
/-- The bytes of a job. -/
def tJobBytes (op slot dest attr inLen outLen auxLen : Nat) : Bytes :=
  leBytes 1 op ++ leBytes 1 slot ++ leBytes 2 dest ++ leBytes 4 attr ++ leBytes 8 (Config.dramBase + 0x1000) ++ leBytes 4 inLen ++
    leBytes 4 outLen ++ leBytes 8 (Config.dramBase + 0x2000) ++ leBytes 8 (Config.dramBase + 0x3000) ++ leBytes 4 auxLen ++ zeroBytes 20
/-- A job is ready to be taken from a ring. -/
def tReady (d : Dev) (ring : Nat) : Bool :=
  d.starts pKEY && !keyCfgInvalid d && d.fld (KEY_JOB_CFG ring) 4 0 != 0 && d.jobCount ring != 0
/-- The job in front of a ring. -/
def tFront (d : Dev) (ring : Nat) : Job := Job.ofBytes (d.ldBytes (d.jobAddr ring) 64)
/-- A slot of an algorithm and usage that every state may use. -/
def tSlot (alg usage : Nat) : KeySlot := { st := 1, alg := alg, usage := usage, scope := 15, parent := 0xFF, key := zeroBytes 32 }
theorem test_key_idle : tReady Dev.reset 0 = false := by decide +kernel
theorem test_key_hash : (let d := tKeyDev 3 1 [] (tJobBytes 15 0 0 0 64 32 0)
    tReady d 1 = true ∧ (tFront d 1).op = 15 ∧ d.jobNeedsLeave (tFront d 1) = false) := by decide +kernel
theorem test_key_no_op : (let d := tKeyDev 3 1 [] (tJobBytes 21 0 0 0 64 32 0)
    tReady d 1 = true ∧ (tFront d 1).op = 21) := by decide +kernel
theorem test_key_denied : (let d := tKeyDev 3 1 [] (tJobBytes 4 0 9 0 0 0 0)
    tReady d 1 = true ∧ (tFront d 1).op = 4) := by decide +kernel
theorem test_key_leave : (let d := tKeyDev 3 1 [(5, tSlot 2 0)] (tJobBytes 9 5 0 0 32 64 0)
    tReady d 1 = true ∧ d.jobNeedsLeave (tFront d 1) = true ∧ (d.request 10 ⟨pKEY, 1⟩).granted 10 ⟨pKEY, 1⟩ = true) := by decide +kernel
theorem test_key_waits : (let d := (tKeyDev 3 1 [(5, tSlot 2 0)] (tJobBytes 9 5 0 0 32 64 0)).wr (PG_CTRL pPWR) 1
    let d := { d with pwr := { d.pwr with pfActive := true } }
    tReady d 1 = true ∧ d.jobNeedsLeave (tFront d 1) = true ∧ (d.request 10 ⟨pKEY, 1⟩).granted 10 ⟨pKEY, 1⟩ = false) := by decide +kernel

/-! ## KeysMadeLoadedAndWiped -/

/-- A job that fills slot 9 from slot 5 may run. -/
def tFills (op : Nat) (slots : Assoc KeySlot) (inLen auxLen : Nat) : Bool :=
  let d := tKeyDev 3 0 slots (tJobBytes op 5 9 0x1E00 inLen 128 auxLen)
  tReady d 0 && (tFront d 0).op == op && d.fillTest (tFront d 0).dest false == 0 && !attrBad (tFront d 0).attr && !d.key.rngFault &&
    (!d.jobNeedsLeave (tFront d 0) || (d.request 10 ⟨pKEY, 0⟩).granted 10 ⟨pKEY, 0⟩)
theorem test_key_fill : tFills 1 [] 0 0 = true ∧ tFills 2 [(5, tSlot 0 3)] 0 8 = true ∧ tFills 16 [(5, tSlot 2 3)] 0 72 = true ∧
    tFills 3 [(5, tSlot 1 2)] 192 0 = true := by decide +kernel
theorem test_key_use : (let d := tKeyDev 3 0 [(0, tSlot 1 2), (5, tSlot 0 3), (6, tSlot 2 3), (7, tSlot 1 2)] []
    d.useSlot 5 [0, 1] 3 = 0 ∧ d.useSlot 6 [2] 3 = 0 ∧ d.useSlot 7 [1] 2 = 0 ∧ d.useSlot 0 [1] 2 = 0 ∧ d.useSlot 4 [0, 1] 3 = 4 ∧
    d.useSlot 7 [0, 1] 3 = 2) := by decide +kernel
/-- A job on slot 9 may run. -/
def tActs (op inLen : Nat) : Bool :=
  let d := tKeyDev 3 0 [(0, tSlot 1 2), (9, tSlot 0 0)] (tJobBytes op 5 9 0 inLen 128 0)
  tReady d 0 && (tFront d 0).op == op && (d.slot 9).st == 1
theorem test_key_save_load : tActs 5 0 = true ∧ tActs 6 128 = true ∧ tActs 4 0 = true := by decide +kernel

/-! ## CryptographicJobs -/

/-- A job of an operation under a slot may run and its slot's test passes. -/
def tRuns (op slot : Nat) (z : KeySlot) (algs : List Nat) (usage inLen outLen auxLen : Nat) : Bool :=
  let d := tKeyDev 3 1 [(slot, z)] (tJobBytes op slot slot 0 inLen outLen auxLen)
  let j := tFront d 1
  tReady d 1 && j.op == op && d.useSlot j.slot algs usage == 0 && inDram j.inAddr j.inLen && inDram j.auxAddr j.auxLen && inDram j.outAddr j.outLen &&
    !d.key.rngFault && (!d.jobNeedsLeave j || (d.request 10 ⟨pKEY, 1⟩).granted 10 ⟨pKEY, 1⟩)
set_option maxRecDepth 4000 in
theorem test_key_crypto : tRuns 9 5 (tSlot 2 0) [2] 0 32 64 0 = true ∧ tRuns 10 5 (tSlot 2 1) [2] 1 32 0 64 = true ∧
    tRuns 11 5 (tSlot 0 0) [0, 1] 0 16 32 12 = true ∧ tRuns 12 5 (tSlot 1 1) [0, 1] 1 32 16 12 = true ∧
    tRuns 13 5 (tSlot 3 0) [0, 1, 3] 0 8 32 0 = true ∧ tRuns 14 5 (tSlot 0 1) [0, 1, 3] 1 8 0 16 = true ∧
    tRuns 20 5 (tSlot 0 0) [0] 0 0 64 0 = true ∧ tRuns 8 1 (tSlot 2 0) [2] 0 0 192 0 = true ∧ tRuns 7 1 (tSlot 2 0) [2] 0 0 256 32 = true := by
  decide +kernel

/-! ## MeterKeysAndLevelZero -/

theorem test_key_blob : tRuns 17 10 (tSlot 1 3) [0, 1] 3 0 0 8 = true ∧
    (let d := tKeyDev 3 1 [(8, tSlot 1 2), (10, tSlot 1 3)] (tJobBytes 17 10 0 0 0 0 8)
     tReady d 1 = true ∧ d.kekTest = 0 ∧ d.useSlot 10 [0, 1] 3 = 0) ∧
    (let d := tKeyDev 3 1 [(8, tSlot 1 2)] (tJobBytes 18 0 0 0 0 0 0)
     tReady d 1 = true ∧ d.kekTest = 0) ∧
    (let d := tKeyDev 3 1 [] (tJobBytes 19 0 0 0 3 0 0)
     tReady d 1 = true ∧ (tFront d 1).op = 19 ∧ (tFront d 1).inLen < d.rd KEY_BLOB_COUNT) := by decide +kernel
theorem test_key_waiting : (Dev.reset.mac 0).waitKey = [] ∧ (Dev.reset.mac 1).waitKey = [] ∧
    ((Dev.reset.setMac 1 { Dev.reset.mac 1 with waitKey := [{ mpdu := [], t := 0, tUnc := 0, info := [], cls := 0 }] }).mac 1).waitKey.length = 1 := by decide +kernel
theorem test_key_l0 : Dev.reset.mayWrite ⟨.sec, 0⟩ KEY_L0_CMD = true ∧ (tKeyDev 3 0 [] []).lc = 3 ∧ (tKeyDev 3 0 [] []).key.l0Last = none := by decide +kernel

/-! ## ConditionRecorder -/

/-- A device whose recorder runs after its scan, with some of its state. -/
def tRec (lc : Nat) (x : RecSt) : Dev :=
  let d := ([(PG_CTRL pREC, 1), (PG_CTRL pPWR, 0), (REC_CH_CFG 0, 1), (REC_CH_CFG 12, 1), (REC_WIN_STAT, 3)] : List (Nat × Nat)).foldl
    (fun d e => d.wr e.1 e.2) Dev.reset
  { d with rcd := x, rst := { d.rst with fuse := { d.rst.fuse with lc := lc } } }
/-- A span that ends at tick 0 of the time base. -/
def tSpan : Span := { start := 0, next := 0, kind := 1, part := false, worst := 3 }
/-- A condition record opened at tick 0. -/
def tCond : OpenCond := { code := 17, sev := 1, first := 0, last := 0, tick := 0, detail := [], repeats := 1, worst := 0 }
/-- The recorder may program into the NOR. -/
def tRecGranted (d : Dev) : Bool := (d.request 11 ⟨pREC, 0⟩).granted 11 ⟨pREC, 0⟩ && d.starts pREC
theorem test_rec_span : (let d := tRec 2 { ready := true, spans := [(0, tSpan), (12, tSpan)] }
    (d.runs pREC && d.rcd.ready) = true ∧ d.en pREC = true ∧ (d.rcd.spans.find? fun e => e.1 == 12).isSome = true ∧
    d.ext < d.spanEnd 1 0 ∧ d.mayWrite ⟨.sys, 0⟩ (REC_FW_SAMPLE 0) = true) := by decide +kernel
theorem test_rec_condition : (let d := tRec 2 { ready := true, cond := some tCond }
    let d := { d with evq := [{ event := 17, page := pPLC, ext := 0, cls := 0, faultAddr := 0, faultInfo := 0 }] }
    d.bit REC_CFG 1 = true ∧ (d.rd REC_EVT_MASK0).testBit 17 = true ∧ d.mayWrite ⟨.sys, 0⟩ REC_FW_CODE = true ∧
    d.mayWrite ⟨.sys, 0⟩ REC_WIN_CMD = true ∧ d.mayWrite ⟨.sec, 0⟩ REC_CLEAR = true ∧ d.lc ≠ 3) := by decide +kernel
theorem test_rec_write : (let d := tRec 2 { ready := true, buf := [zeroBytes 128] }
    tRecGranted d = true ∧ d.nextSlot = some 0) ∧ tRecGranted (tRec 2 { ready := true, clearing := true }) = true ∧
    (tRec 3 { ready := true }).lc = 3 ∧ (tRec 2 { slots := [{ slot := 5, seq := 1, sev := 0, ok := true }] }).victim.1 = some 0 := by decide +kernel
theorem test_rec_scan : (tRec 2 {}).rcd.ready = false ∧ (tRec 2 {}).runs pREC = true ∧ (tRec 2 {}).chSpan 0 = 1 := by decide +kernel

/-! ## PairHeartbeatsAndFence -/

/-- A paired device whose RED page runs, with its state of the pair and the tick. -/
def tPair (ctrl tick : Nat) (x : RedSt) : Dev :=
  let d := ([(PG_CTRL pRED, 1), (PG_CTRL pTIM, 1), (PG_CTRL pPWR, 0), (RED_CTRL, ctrl), (RED_KEY, 0x0605), (RED_REGION_SIZE 3, 1),
    (RED_REGION_STAT 5, 1)] : List (Nat × Nat)).foldl (fun d e => d.wr e.1 e.2) Dev.reset
  { d with red := x, time := { d.time with ticks := tick, cls := .rtcOnly } }
/-- A heartbeat of a partner. -/
def tBeat (state : Fin 4) (yield pref : Bool) : Heartbeat :=
  { state := state, armValid := true, yield := yield, claiming := false, pref := pref, seq := 1, eui := 5, sealLo := 0, role := 0 }
/-- RED works. -/
def tPairOn (d : Dev) : Bool := d.runs pRED && d.bit RED_CTRL 0 && d.red.state != .solo
theorem test_pair_on : tPairOn (tPair 0xD 0 { state := .active }) = true ∧ tPairOn Dev.reset = false ∧
    (tPair 0xD 0 { state := .standby }).rd64 RED_PARTNER_EUI_LO = 0 := by decide +kernel
theorem test_pair_opens : (let d := tPair 0xD 0 { state := .standby }
    let d := { d with key := { d.key with slots := [(5, tSlot 0 0), (6, tSlot 0 1)] } }
    d.pairOpens = true ∧ (tPair 0xD 0 {}).pairOpens = false) := by decide +kernel
theorem test_pair_ticks : (let d := tPair 0xD (250000 * 1000) { state := .resync, armValid := true, kicked := true, pathA := true }
    d.past d.red.hbTickA (250000 * d.fld RED_HB 7 0) = true ∧ d.past d.red.kickTick (250000 * d.rd RED_KICK_TO) = true ∧
    d.past d.red.lastA (250000 * (10 * d.fld RED_HB 15 8)) = true ∧ d.past d.red.joinTick (250000 * d.rd RED_JOIN_WAIT) = true) := by decide +kernel
theorem test_pair_access : (tPair 0xD 0 {}).mayWrite ⟨.sec, 0⟩ RED_KICK = true ∧ (tPair 0xD 0 {}).mayWrite ⟨.sec, 0⟩ RED_CMD = true ∧
    (tPair 0xD 0 {}).mayWrite ⟨.sys, 0⟩ RED_CMD = true := by decide +kernel
theorem test_pair_claim : (let d := tPair 0xD (250000 * 50) { state := .standby, claim := some { why := .takeover, since := 0, driving := some 0 } }
    tPairOn d = true ∧ d.past 0 (250000 * 30) = true ∧ d.past 0 (250000 * 20) = true) := by decide +kernel
theorem test_pair_ring : (let d := tPair 0xD 0 { state := .standby, ringSeen := some 0, partner := some (tBeat 1 true true) }
    d.bit RED_CTRL 3 = true ∧ d.past 0 (250000 * (10 * d.fld RED_HB 15 8)) = false ∧ d.partnerYields = true) := by decide +kernel

/-! ## ArmatureAndResynchronisation -/

/-- What a partner's path-A frame carries. -/
def tView (slot : Fin 256) (digest : Bytes) : PairView := { sent := 0, arrival := none, signSlot := slot, digest := digest, stn := 0, partnerStn := 0 }
theorem test_arm_cause : (let d := tPair 0xD 0 { state := .resync }
    (tBeat 1 false false).role.toNat = d.role ∧ (tView 9 []).signSlot.val ≠ d.fld EPC_SIGN_SLOT 7 0 ∧
    (tView 9 []).stn.val = d.fld RED_PARTNER_STN 9 0 ∧ (tView 9 []).partnerStn.val = d.stn) := by decide +kernel
theorem test_arm_mirrors : (let x : RedSt := { state := .active, partner := some (tBeat 2 false false), stream := [⟨0, 0, .balAck 0⟩], nextSeq := 1 }
    let d := tPair 0xD (250000 * 6000) x
    d.mirrors = true ∧ tPairOn d = true ∧ d.past 0 (250000 * d.rd RED_LAG_MAX) = true ∧ d.fld (RED_REGION_SIZE 3) 22 0 ≠ 0 ∧
    d.bit (RED_REGION_STAT 5) 0 = true ∧ d.mayWrite ⟨.sys, 0⟩ RED_CMD = true) := by decide +kernel
/-- A root of an epoch, one's own or the partner's. -/
def tRoot (own : Bool) (digest : Bytes) : RootRec := { own := own, epoch := 1, typ := 0, amend := 0, root := [], digest := digest }
theorem test_arm_roots : (firstMeeting [tRoot true [], tRoot false [1#8]] [tRoot true [], tRoot false [1#8]]).isSome = true := by decide +kernel
theorem test_arm_pass : (let d := tPair 0xD 0 { state := .active, resyncing := true }
    tPairOn d = true ∧ (d.request 12 ⟨pRED, 0⟩).granted 12 ⟨pRED, 0⟩ = true) := by decide +kernel

/-! ## SupplyAndGovernor -/

/-- A device whose governor works, with the state of the supply. -/
def tPwr (x : PwrSt) : Dev := { Dev.reset.wr (PG_CTRL pPWR) 1 with pwr := x, time := { Dev.reset.time with ticks := 10000000 } }
theorem test_pwr_warn : (tPwr {}).pwr.upStep ≠ 0 ∧ 9000 < 100 * (tPwr {}).fld PWR_PFW 9 0 ∧
    100 * ((tPwr {}).fld PWR_PFW 9 0 + (tPwr {}).fld PWR_PFW 14 10) ≤ 12000 ∧ (tPwr {}).mayWrite ⟨.sys, 0⟩ PWR_FW_CMD = true ∧
    (tPwr {}).en pPWR = true := by decide +kernel
theorem test_pwr_headroom : ((tPwr {}).clsGrant 15 : Int) ≤ (tPwr {}).headroom ∧
    (tPwr { grants := [⟨13, ⟨pNVS, 0⟩, 0, false⟩, ⟨12, ⟨pRED, 0⟩, 0, false⟩, ⟨7, ⟨pEPC, 0⟩, 0, false⟩, ⟨9, ⟨pBAL, 0⟩, 0, false⟩] }).headroom < 50 := by
  decide +kernel
theorem test_pwr_overrun : (let d := tPwr { grants := [⟨6, ⟨pING, 0⟩, 0, false⟩] }
    250 * d.rd (PWR_CLS_MAX 6) ≤ d.time.ticks ∧ d.en pPWR = true ∧ d.ceilEff < 2000 ∧ 100 * 100 ≤ 95 * d.ceilEff) := by decide +kernel

/-! ## ThermalDerating -/

theorem test_therm : (tPwr {}).fld PWR_THERM 7 0 = 110 ∧ (tPwr {}).pwr.upStep ≠ 0 ∧ (tPwr {}).mayRead ⟨.sys, 0⟩ PWR_CEIL_EFF = true ∧
    (tPwr {}).takeLatch PWR_CEIL_EFF = none ∧ (tPwr { thermDerate := true }).ceilEff < (tPwr {}).ceilEff := by decide +kernel

/-! ## ResetsClocksBootAndWatchdog -/

/-- A device as reset leaves it, with its boot, its clocks and its NOR, image and watchdog jobs in given states. -/
def tSys (x : RstSt) (c : ClkSt) (y : SysSt) : Dev := { Dev.reset with rst := x, clk := c, sys := y, time := { Dev.reset.time with ticks := 20000000000 } }
theorem test_sys_soft : (tSys {} {} {}).mayWrite ⟨.sec, 0⟩ SYS_RST_CMD = true ∧ (tSys {} {} {}).mayWrite ⟨.sys, 0⟩ SYS_WDT_KICK = true ∧
    RegMap.rising (tSys {} {} {}).reg.live = true ∧ Memory.wf (tSys {} {} {}).mem = true ∧ Awake ⟨tSys {} {} {}, []⟩ := by decide +kernel
theorem test_sys_clock : (let d := tSys {} { rootOk := false } {}; d.clk.rootOk = false ∧ d.clk.lossTick + msTicks (d.rd CLK_LOSS_TO) ≤ d.time.ticks) ∧
    (let d := tSys {} { rootOk := false, lossTick := 20000000000 } {}
     ¬d.clk.lossTick + msTicks (d.rd CLK_LOSS_TO) ≤ d.time.ticks) ∧ (tSys {} {} {}).clk.rootOk = true ∧ (tSys {} {} {}).clk.dramPll = true := by decide +kernel
theorem test_sys_boot : (tSys {} {} {}).rst.phase = .inReset ∧ 7 ≤ (tSys {} {} {}).pwr.upStep ∧
    (tSys { phase := .noBank } {} {}).rst.phaseTick + msTicks 60000 ≤ (tSys {} {} {}).time.ticks ∧
    (tSys { lcReset := some 0, fuse := { partialLc := some 2 } } {} {}).rst.lcReset = some 0 ∧
    (tSys { fuse := { lc := 2 }, vbatLost := true, tamperWaits := true } {} {}).rst.tamperWaits = true := by decide +kernel
theorem test_sys_watchdog : (let d := tSys {} {} { secRunning := true }
    (d.rd SYS_WDT_CFG).testBit 31 = true ∧ msTicks (d.fld SYS_WDT_CFG 15 0) ≤ d.time.ticks - d.sys.wdtTick ∧
    msTicks (10 * d.fld SYS_WDT_CFG 23 16) ≤ d.time.ticks - d.sys.wdtTick ∧ d.fld SYS_WDT_CFG 25 24 = 0) := by decide +kernel

/-! ## TamperLifeCycleAndUpdate -/

theorem test_sys_update : (∀ a ∈ [RST_TAMPER_CLR, RST_LC_AUTH_CMD, RST_OWNER_CMD, RST_SVN_CMD, SYS_NOR_CMD, SYS_IMG_CMD, SYS_UC_CMD],
      (tSys {} {} {}).mayWrite ⟨.sec, 0⟩ a = true) ∧ (tSys {} {} {}).bit RST_TAMPER 0 = false ∧
    (tSys { fuse := { lc := 2 } } {} {}).lc = 2 ∧ (tSys { fuse := { owners := [(0, [1]), (1, [2])] } } {} {}).lc = 1 := by decide +kernel
theorem test_sys_tamper : (((tSys { fuse := { lc := 2 } } {} {}).wr RST_TAMPER_CFG 1).bit RST_TAMPER_CFG 0 = true) ∧
    ((tSys {} {} {}).wr RST_TAMPER 1).bit RST_TAMPER 0 = true ∧ (tSys { authJob := some (2, 0x80000000, []) } {} {}).rst.authJob = some (2, 0x80000000, []) := by
  decide +kernel
theorem test_sys_nor : (tSys {} {} { norJob := some (2, 256, 0x80000000) }).sys.norJob = some (2, 256, 0x80000000) ∧
    (tSys {} {} { norJob := some (1, 0x8000000, 0) }).sys.norJob ≠ none ∧ Memory.wf (tSys {} {} {}).mem = true ∧
    (tSys {} {} { imgJob := some 1, ucJob := some 0x80000000 }).sys.imgJob = some 1 ∧ ¬(0x11000000 ≤ (tSys {} {} {}).rd SYS_NOR_ADDR % 0x20000000) ∧
    (tSys {} {} {}).rd SYS_NOR_ADDR % 65536 = 0 := by decide +kernel

/-! ## MemoryDrivePanelAndTestPort -/

/-- A device as reset leaves it, with its memory and drive, its panel and its test port in given states. -/
def tIo (x : IoSt) (y : DspSt) (z : JtagSt) : Dev :=
  { ((Dev.reset.wr (PG_CTRL pNVS) 1).wr (PG_CTRL pDSP) 1).wr DSP_RATE 60 with io := x, dsp := y, jtag := z, time := { Dev.reset.time with ticks := 20000000000000 } }
theorem test_io_writes : (∀ a ∈ [SYS_CAL_CMD, SYS_MBOX_TO_APP, SYS_MBOX_TO_SEC, SYS_APP_RUN, DSP_CMD], (tIo {} {} {}).mayWrite ⟨.sec, 0⟩ a = true) ∧
    (tIo {} {} {}).setLockedKs = false ∧ (tIo {} {} {}).othersSet ⟨.sec, 0⟩ = false ∧ inDram 0 1 = false ∧ inDram 0x80000000 1 = true ∧
    (tIo {} {} {}).io.summaryTick + 250000000 * (tIo {} {} {}).rd MEM_SUMMARY_S ≤ (tIo {} {} {}).time.ticks := by decide +kernel
theorem test_io_drive : (let d := tIo { outstanding := [⟨.journal, 0, 1⟩] } {} {}
    d.io.nvsWait = [] ∧ (d.rd NVS_STAT).testBit 1 = false ∧ msTicks (d.rd NVS_TMO) ≤ d.time.ticks) ∧
    (let d : Dev := { tIo { nvsWait := [⟨.journal, 0, 1⟩], perstTick := some 0 } {} {} with pwr := { grants := [⟨13, ⟨pNVS, 0⟩, 0, false⟩] }, rst := { phase := .running } }
     d.io.nvsWait ≠ [] ∧ d.starts pNVS = true ∧ (d.pwr.grants.find? fun g => g.cls == 13 && g.who == ⟨pNVS, 0⟩).isSome = true) := by decide +kernel
theorem test_io_panel : (tIo {} { st := .run } {}).runs pDSP = true ∧ Dev.reset.fld DSP_RATE 6 0 = 0 ∧ (tIo {} { st := .run } {}).fld DSP_RATE 6 0 ≠ 0 ∧
    25 * frameCycles (bitsOf ((tIo {} { st := .run, frame := some 0 } {}).gov DSP_RATE) 6 0) ≤ (tIo {} {} {}).time.ticks ∧
    (tIo {} { st := .rampDown } {}).dsp.offTick + msTicks (bitsOf ((tIo {} {} {}).gov DSP_PHASE) 19 16) ≤ (tIo {} {} {}).time.ticks ∧
    [4, 2, 1, 3].getD 2 0 ≤ (tIo {} { st := .rampUp } {}).dsp.step + 1 := by decide +kernel
theorem test_io_port : 6 ≤ (tIo {} {} {}).pwr.upStep ∧ (tIo {} {} {}).lc = 1 ∧ (tIo {} {} { instr := .extest }).jtag.holds = true ∧
    (tIo {} {} {}).jtag.holds = false := by decide +kernel

/-! ## Operands that WellFormed refuses -/

theorem test_wf_width : (Instr.regWrite ⟨⟨.sec, 0⟩, 0xE0000180, 3, true, 1⟩).wellFormed = false := by decide +kernel
theorem test_wf_align : (Instr.regWrite ⟨⟨.sec, 0⟩, 0xE0000182, 4, true, 1⟩).wellFormed = false := by decide +kernel
theorem test_wf_value : (Instr.regWrite ⟨⟨.sec, 0⟩, 0xE0000180, 2, true, 65536⟩).wellFormed = false := by decide +kernel
theorem test_wf_radio : (Instr.radFrameRx ⟨true, true, List.replicate 2048 0, 0, 0, 0, false, 0⟩).wellFormed = false := by decide +kernel
theorem test_wf_plc : (Instr.plcFrameRx ⟨true, 0, 0, 0, true, List.replicate 2048 0, [], 0, 0⟩).wellFormed = false := by decide +kernel
theorem test_wf_claim_return : (Instr.claimReturn 0 ⟨false, 1, 0, 0, false, [3, 2]⟩).wellFormed = false := by decide +kernel
theorem test_wf_claim_rx : (Instr.claimRx 1 ⟨false, 1, 0, 0, false, [2, 2]⟩).wellFormed = false := by decide +kernel
theorem test_wf_accepts : (Instr.regWrite ⟨⟨.sec, 0⟩, 0xE0000180, 4, true, 1⟩).wellFormed = true ∧
    (Instr.claimRx 1 ⟨false, 1, 0, 0, false, [2, 3]⟩).wellFormed = true ∧
    (Instr.radFrameRx ⟨true, true, List.replicate 2047 0, 0, 0, 0, false, 0⟩).wellFormed = true := by decide +kernel

end Sys2Proof.Tests
end

section
/-!
SUPPORT. The queue of waiting commands: what exec answers, one step, a run, and with them the statements about the queue.
-/
namespace Sys2Proof.Machine

/-! ## What a command answers -/

/-- The answer leaves the queue of s alone: a next state in which at most the device has changed. -/
def KeepsQueue (s : State) (o : Result) : Prop := ∃ d, o = .next { s with dev := d }

/-- A meaning that faults on the operands that are not well-formed and otherwise acts on the device. -/
theorem fault_or_keepsQueue_ite {ok : Bool} {bad : Prop} [Decidable bad] (h : bad → ok = false) (r : Fault) (s : State) (f : Dev → Dev) :
    (ok = false ∧ ∃ r', (if bad then .fault r else s.logic f : Result) = .fault r') ∨
      KeepsQueue s (if bad then .fault r else s.logic f) := by
  by_cases hb : bad
  · exact .inl ⟨h hb, r, if_pos hb⟩
  · rw [if_neg hb]
    exact .inr ⟨_, rfl⟩

/-- All that exec can do to the queue: it faults on a command that is not well-formed, or changes the device alone. Only the two
receptions of a frame, which is at most 2,047 octets long (R182, R202), look at an operand before they act; every other meaning is
one action on the device. -/
theorem exec_fault_or_keepsQueue (i : Instr) (s : State) :
    (i.wellFormed = false ∧ ∃ r, exec i s = .fault r) ∨ KeepsQueue s (exec i s) := by
  cases i with
  | radFrameRx f => exact fault_or_keepsQueue_ite (fun long => decide_eq_false (Nat.not_le.mpr long)) _ s _
  | plcFrameRx f => exact fault_or_keepsQueue_ite (fun long => decide_eq_false (Nat.not_le.mpr long)) _ s _
  | _ => exact .inr ⟨_, rfl⟩

/-- A well-formed command answers a next state with the queue it was given. -/
theorem exec_keepsQueue {i : Instr} (h : i.wellFormed = true) (s : State) : KeepsQueue s (exec i s) :=
  (exec_fault_or_keepsQueue i s).resolve_left fun ⟨hf, _⟩ => Bool.false_ne_true (hf.symm.trans h)

/-- Settles O4: exec faults, and answers no next state, or it changes the device alone. -/
theorem everyCommandLeavesTheQueue : Obligations.EveryCommandLeavesTheQueue := by
  intro i s t ht
  rcases exec_fault_or_keepsQueue i s with ⟨_, r, hr⟩ | ⟨d, hd⟩
  · cases hr.symm.trans ht
  · cases hd.symm.trans ht
    rfl

/-! ## One step -/

theorem step_cons (d : Dev) (c : Instr) (rest : List Instr) :
    step { dev := d, pending := c :: rest } = exec c { dev := d, pending := rest } := rfl

theorem step_nil (d : Dev) : step { dev := d, pending := [] } = .next { dev := d.tick d.rootRuns, pending := [] } := rfl

/-- Settles O1: the queue's front is what step looks at. -/
theorem stepRunsFront : Obligations.StepRunsFront := fun c rest d => step_cons d c rest

theorem queueWellFormed_of_pending_tail {s t : State} (h : QueueWellFormed s) (ht : t.pending = s.pending.tail) : QueueWellFormed t :=
  fun c hc => h c (List.mem_of_mem_tail (ht ▸ hc))

/-- From a well-formed queue a step answers a next state, in which the front of the queue is gone. -/
theorem step_next_pending_tail {s : State} (h : QueueWellFormed s) : ∃ t, step s = .next t ∧ t.pending = s.pending.tail := by
  obtain ⟨d, pending⟩ := s
  cases pending with
  | nil => exact ⟨_, step_nil d, rfl⟩
  | cons c rest =>
    obtain ⟨e, he⟩ := exec_keepsQueue (h c List.mem_cons_self) ⟨d, rest⟩
    exact ⟨_, (step_cons d c rest).trans he, rfl⟩

/-- Settles O5: the tail of a well-formed queue is well-formed. -/
theorem stepNeverStopsAndKeepsTheQueueWellFormed : Obligations.StepNeverStopsAndKeepsTheQueueWellFormed := by
  intro s h
  obtain ⟨t, hstep, htail⟩ := step_next_pending_tail h
  exact ⟨t, hstep, queueWellFormed_of_pending_tail h htail, htail⟩

/-! ## A run -/

/-- A run whose first step answers a next state goes on from there. -/
theorem run_succ_of_step {s t : State} (h : step s = .next t) (n : Nat) : Host.Core.run core (n + 1) s = Host.Core.run core n t := by
  have hc : core.step s = .next t := h
  simp only [Host.Core.run, hc]

/-- A well-formed queue loses its first n commands in n steps. -/
theorem run_next_pending_drop (n : Nat) : ∀ {s : State}, QueueWellFormed s →
    ∃ t : State, Host.Core.run core n s = .next t ∧ t.pending = s.pending.drop n := by
  induction n with
  | zero => exact fun {s} _ => ⟨s, rfl, rfl⟩
  | succ n ih =>
    intro s h
    obtain ⟨u, hstep, hu, htail⟩ := stepNeverStopsAndKeepsTheQueueWellFormed s h
    obtain ⟨t, hrun, ht⟩ := ih hu
    refine ⟨t, (run_succ_of_step hstep n).trans hrun, ?_⟩
    rw [ht, htail, List.drop_tail]

/-- Settles O6: of n commands none is left after n steps. -/
theorem queueRunsEmpty : Obligations.QueueRunsEmpty := by
  intro s h
  obtain ⟨t, hrun, ht⟩ := run_next_pending_drop s.pending.length h
  exact ⟨t, hrun, ht.trans List.drop_length⟩

end Sys2Proof.Machine
end

section
/-!
SUPPORT. Batches and acknowledgements: what their commands do with the datagram at the front of the BATCH lane.
-/
namespace Sys2Proof.Machine

/-! ## A batch at the head-end (R69) -/

/-- The batch in a payload, opened under the link's keys; none when the payload is too short or its tag fails. -/
def Dev.batchOpened (d : Dev) (p : Bytes) : Dev × Option Bytes :=
  if 32 ≤ p.length then
    d.linkOpen (ackNonce (leAt p 0 2) 0 (leAt p 4 4)) (p.take 16) (slice p 16 (p.length - 32)) (p.drop (16 + (p.length - 32)))
  else (d, none)

/-- What becomes of an opened batch: taken, busy, a duplicate or a gap, by the sequence its station is expected to send. -/
def Dev.batchJudged (d : Dev) (p pt : Bytes) : Dev :=
  let seq := leAt p 4 4
  let stn := leAt p 0 2 % 1024
  let expected := Assoc.get 0 d.ing.stations stn
  if seq = expected then
    if d.inLog 7 = 0 ∨ 2 ^ d.inLog 7 < d.inCount 7 + leAt p 2 2 then d.bump ING_BATCH_BUSY_COUNT
    else d.takeBatch stn seq (leAt p 2 2) (recordsOf (leAt p 2 2) pt)
  else if seqLe seq expected then (d.bump ING_BATCH_DUP_COUNT).ackAgain stn expected
  else (d.bump ING_BATCH_GAP_COUNT).ackAgain stn expected

/-- A batch as it comes out of opening: one that did not open is counted. -/
def Dev.batchFiled (p : Bytes) : Dev × Option Bytes → Dev
  | (d, none) => d.bump ING_BATCH_FAIL_COUNT
  | (d, some pt) => d.batchJudged p pt

/-- A head-end that may take a batch pops the datagram to the batch port, opens it and files it. -/
theorem Dev.batchReceive_front {d : Dev} {lane : Nat} {f : Frame} (hrole : d.role ≠ 0) (hrun : d.starts pING = true)
    (hpf : d.pwr.pfActive = false) (hslave : d.pairSlave = false) (hjrn : d.jrnFull = false) (hlane : d.batchLane = some lane)
    (hfront : d.engineFront lane = some f) (hport : udpPort f.data = d.rd TRK_BATCH_PORT) :
    d.batchReceive = Dev.batchFiled (udpPayload f.data) ((d.popFront (2 * lane + 1)).batchOpened (udpPayload f.data)) := by
  unfold Dev.batchReceive
  rw [if_neg (by simp [hrole, hrun, hpf, hslave, hjrn])]
  simp only [hlane, hfront]
  rw [if_neg (not_not_intro hport)]
  rfl

/-! ## An acknowledgement at the field module (R69, R70, R224) -/

/-- The acknowledgement in a payload, opened under the link's keys; none when its length is wrong or its tag fails. -/
def Dev.ackOpened (d : Dev) (p : Bytes) : Dev × Option Bytes :=
  if p.length = 32 then d.linkOpen (ackNonce (leAt p 0 2) 1 (leAt p 4 4)) (p.take 16) [] (p.drop 16) else (d, none)

/-- The acknowledged batches are outstanding no longer and the module is islanded no longer; a backlog is replayed. -/
def Dev.ackTaken (d : Dev) (seq : Nat) : Dev :=
  let back := d.ing.islanded && !d.ing.unsent.isEmpty
  ({ d with ing := { d.ing with
    outstanding := d.ing.outstanding.filter fun b => !seqLe b.seq seq, ackedSeq := seq, ackTick := d.time.ticks, islanded := false,
    replaying := d.ing.replaying || back, replayTick := if back then d.time.ticks else d.ing.replayTick } } : Dev).closeFullBatches

/-- An acknowledgement as it comes out of opening: one that did not open is counted, another station's is left. -/
def Dev.ackFiled (p : Bytes) : Dev × Option Bytes → Dev
  | (d, none) => d.bump TRK_ACK_FAIL
  | (d, some _) => if leAt p 0 2 % 1024 ≠ d.fld TRK_STN 9 0 then d else d.ackTaken (leAt p 4 4)

theorem Dev.ackFiled_own {d : Dev} {p : Bytes} (pt : Bytes) (h : leAt p 0 2 % 1024 = d.fld TRK_STN 9 0) :
    Dev.ackFiled p (d, some pt) = d.ackTaken (leAt p 4 4) := if_neg (not_not_intro h)

theorem Dev.batchRuns_of_field {d : Dev} (hrole : d.role = 0) (hrun : d.starts pING = true) (hpf : d.pwr.pfActive = false) :
    d.batchRuns = true := by simp [Dev.batchRuns, hrole, hrun, hpf]

/-- A field module pops the datagram to the port of acknowledgements, opens it and files it. -/
theorem Dev.batchAckReceive_front {d : Dev} {lane : Nat} {f : Frame} (hruns : d.batchRuns = true) (hlane : d.batchLane = some lane)
    (hfront : d.engineFront lane = some f) (hport : udpPort f.data = d.rd TRK_BATCH_PORT + 1) :
    d.batchAckReceive = Dev.ackFiled (udpPayload f.data) ((d.popFront (2 * lane + 1)).ackOpened (udpPayload f.data)) := by
  unfold Dev.batchAckReceive
  rw [if_neg (by simp [hruns])]
  simp only [hlane, hfront]
  rw [if_neg (not_not_intro hport)]
  rfl

/-! ## An acknowledgement from the head-end (R69, R224, R293) -/

/-- The first acknowledgement that may go is sealed and sent, and with it the station's older ones are owed no longer. -/
theorem Dev.batchAckSend_first {d : Dev} {a : AckDue} {tag : Bytes} (hrun : d.starts pING = true) (hpf : d.pwr.pfActive = false)
    (hslave : d.pairSlave = false) (hjrn : d.jrnFull = false) (ha : d.ing.acks.find? d.ackReady = some a)
    (htag : d.linkSeal (ackNonce a.station 1 a.seq) (ackHeader a.station a.seq) [] = some tag) :
    d.batchAckSend = ({ d with ing := { d.ing with
      acks := d.ing.acks.filter fun b => !(b.station == a.station && seqLe b.seq a.seq) } } : Dev).sendDatagram
        a.station (d.rd TRK_BATCH_PORT + 1) (ackHeader a.station a.seq ++ tag) := by
  unfold Dev.batchAckSend
  rw [if_neg (by simp [hrun, hpf, hslave, hjrn])]
  simp only [ha, htag]
  rfl

/-! ## The statement -/

/-- Settles O25: each command is its front lemma, then the opening that the case gives. -/
theorem batchesAndAcknowledgements : Obligations.BatchesAndAcknowledgements := by
  intro s hawake hrun hpf
  refine ⟨fun lane f hlane hfront => ⟨fun hrole hslave hjrn hport => ?_, fun hrole hport => ?_⟩, fun a tag hslave hjrn ha htag => ?_⟩
  · have hfiled := Dev.batchReceive_front hrole hrun hpf hslave hjrn hlane hfront hport
    refine ⟨fun hshort => ?_, fun e o hlong hopen => ⟨fun ho => ?_, fun pt ho => ?_⟩⟩
    · exact completes_logic _ rfl hawake (by rw [hfiled, Dev.batchOpened, if_neg (by omega)]; rfl)
    · exact completes_logic _ rfl hawake (by rw [hfiled, Dev.batchOpened, if_pos hlong, hopen, ho]; rfl)
    · exact completes_logic _ rfl hawake (by rw [hfiled, Dev.batchOpened, if_pos hlong, hopen, ho]; rfl)
  · have hfiled := Dev.batchAckReceive_front (Dev.batchRuns_of_field hrole hrun hpf) hlane hfront hport
    refine ⟨fun hlen => ?_, fun e o hlen hopen => ⟨fun ho => ?_, fun pt ho hstn => ?_⟩⟩
    · exact completes_logic _ rfl hawake (by rw [hfiled, Dev.ackOpened, if_neg hlen]; rfl)
    · exact completes_logic _ rfl hawake (by rw [hfiled, Dev.ackOpened, if_pos hlen, hopen, ho]; rfl)
    · exact completes_logic _ rfl hawake (by rw [hfiled, Dev.ackOpened, if_pos hlen, hopen, ho, Dev.ackFiled_own pt hstn]; rfl)
  · exact completes_logic _ rfl hawake (Dev.batchAckSend_first hrun hpf hslave hjrn ha htag)

end Sys2Proof.Machine
end

section
/-!
SUPPORT. The endpoint registry: what each command of ING_REG_CMD answers, and what its writes leave alone.
-/
namespace Sys2Proof.Machine

/-! ## Byte stores, staged words and the armature stream -/

/-- Storing bytes changes memory alone. -/
theorem Dev.stBytes_frame (d : Dev) (a : Nat) (bs : Bytes) : ∃ m, d.stBytes a bs = { d with mem := m } := by
  induction bs generalizing d a with
  | nil => exact ⟨d.mem, rfl⟩
  | cons b t ih =>
    obtain ⟨m, hm⟩ := ih (d.stByte a b) (a + 1)
    refine ⟨m, ?_⟩
    rw [Dev.stBytes, hm]
    unfold Dev.stByte
    split <;> rfl

@[simp] theorem Dev.stBytes_reg (d : Dev) (a : Nat) (bs : Bytes) : (d.stBytes a bs).reg = d.reg := by
  obtain ⟨m, hm⟩ := d.stBytes_frame a bs
  rw [hm]

@[simp] theorem Dev.stBytes_time (d : Dev) (a : Nat) (bs : Bytes) : (d.stBytes a bs).time = d.time := by
  obtain ⟨m, hm⟩ := d.stBytes_frame a bs
  rw [hm]

/-- What a store makes of memory depends on memory alone. -/
theorem Dev.stBytes_mem_congr {d e : Dev} (h : d.mem = e.mem) (a : Nat) (bs : Bytes) : (d.stBytes a bs).mem = (e.stBytes a bs).mem := by
  induction bs generalizing d e a with
  | nil => exact h
  | cons b t ih =>
    refine ih ?_ (a + 1)
    unfold Dev.stByte
    split
    · exact congrArg (Cells.put memDflt · a b) h
    · exact h

/-- Registers read alike where the register files are alike. -/
theorem Dev.rd_congr {d e : Dev} (h : d.reg = e.reg) (a : Nat) : d.rd a = e.rd a := by
  unfold Dev.rd
  rw [h]

@[simp] theorem Dev.rd_stBytes (d : Dev) (a b : Nat) (bs : Bytes) : (d.stBytes a bs).rd b = d.rd b := Dev.rd_congr (d.stBytes_reg a bs) b
@[simp] theorem Dev.rd_recPut (d : Dev) (i off n v a : Nat) : (d.recPut i off n v).rd a = d.rd a := d.rd_stBytes ..

@[simp] theorem Dev.ext_stBytes (d : Dev) (a : Nat) (bs : Bytes) : (d.stBytes a bs).ext = d.ext := by
  unfold Dev.ext
  rw [Dev.stBytes_time]

@[simp] theorem Dev.recBase_stBytes (d : Dev) (a i : Nat) (bs : Bytes) : (d.stBytes a bs).recBase i = d.recBase i := by
  simp only [Dev.recBase, Dev.rd64, Dev.rd_stBytes]

theorem Dev.rd_wrS (d : Dev) (a v b : Nat) : (d.wrS a v).rd b = (d.wr a v).rd b := by unfold Dev.wrS; split <;> rfl

theorem Dev.rd_wrS_same (d : Dev) (a v : Nat) : (d.wrS a v).rd a = v % 2 ^ 32 := by rw [Dev.rd_wrS, Dev.rd_wr_same]

theorem Dev.rd_wrS_other (d : Dev) {a b : Nat} (v : Nat) (h : b ≠ a) : (d.wrS a v).rd b = d.rd b := by
  rw [Dev.rd_wrS, Dev.rd_wr_other _ _ h]

@[simp] theorem Dev.mirror_reg (d : Dev) (i : ArmItem) : (d.mirror i).reg = d.reg := by unfold Dev.mirror; split <;> rfl
@[simp] theorem Dev.mirror_mem (d : Dev) (i : ArmItem) : (d.mirror i).mem = d.mem := by unfold Dev.mirror; split <;> rfl
@[simp] theorem Dev.mirror_ing (d : Dev) (i : ArmItem) : (d.mirror i).ing = d.ing := by unfold Dev.mirror; split <;> rfl

theorem bitsOf_lt (n hi lo : Nat) : bitsOf n hi lo < 2 ^ (hi + 1 - lo) := Nat.mod_lt _ (Nat.two_pow_pos _)

/-! ## The write of a command (R57) -/

/-- A command written while none runs and no set changes the layout runs from then on. -/
theorem Dev.poke_regCmd {d : Dev} {r : Requester} {k : Nat} (hk : k < 8) (hmay : d.mayWrite r ING_REG_CMD = true) (hidle : d.ing.cmd = 0)
    (hlock : d.regLocked = false) : d.poke r ING_REG_CMD k = ({ d with ing := { d.ing with cmd := k } } : Dev).answer 0 := by
  have hnamed := d.named_page (p := pING) (off := 0x190) (by decide) (by decide) (by decide) rfl
  have hblock : d.blockWrite r ING_REG_CMD (k % 2 ^ 32) = .done { d with ing := { d.ing with cmd := k % 2 ^ 32 % 8 } } := by
    show ingWrite d 0x190 (k % 2 ^ 32) = _
    unfold ingWrite
    simp [hidle, hlock]
  refine (Dev.poke_l (a := ING_REG_CMD) k rfl rfl hnamed hmay rfl rfl rfl).trans ?_
  rw [hblock, Nat.mod_eq_of_lt (by omega : k < 2 ^ 32), Nat.mod_eq_of_lt hk]
  rfl

/-! ## The end of a command (R57) -/

/-- The device t is what the command left, e, with the command ended and its result stored. -/
structure Dev.RegEnded (e : Dev) (res : Nat) (t : Dev) : Prop where
  idle : t.ing.cmd = 0
  reseq : t.ing.reseq = e.ing.reseq
  stat : t.rd ING_REG_STAT = 16 * res
  mem : t.mem = e.mem
  rd : ∀ a, a ≠ ING_REG_STAT → t.rd a = e.rd a

theorem Dev.regDone_ended {d e : Dev} {res : Nat} (hk : d.ing.cmd ≠ 0)
    (hcmd : d.regCommand d.ing.cmd (d.rd64 ING_REG_ADDR_LO) = (e, res)) (hres : res < 8) : e.RegEnded res d.regDone := by
  unfold Dev.regDone
  rw [if_neg hk]
  simp only [hcmd]
  constructor
  case idle => rfl
  case reseq => simp
  case stat => rw [Dev.rd_wr_same]; omega
  case mem => simp
  case rd =>
    intro a ha
    rw [Dev.rd_wr_other _ _ ha]
    exact Dev.rd_congr (Dev.mirror_reg ..) a

/-- REG_CMD_DONE by what the command leaves and answers. -/
theorem completes_regCmdDone {s : State} {e : Dev} {res : Nat} {P : Dev → Prop} (hawake : Awake s) (hk : s.dev.ing.cmd ≠ 0)
    (hcmd : s.dev.regCommand s.dev.ing.cmd (s.dev.rd64 ING_REG_ADDR_LO) = (e, res)) (hres : res < 8)
    (hP : ∀ t, e.RegEnded res t → P t) : Completes .regCmdDone s (fun t => t.ing.cmd = 0 ∧ P t) :=
  have hend := Dev.regDone_ended hk hcmd hres
  completes_logic _ rfl hawake ⟨hend.idle, hP _ hend⟩

/-- A command that leaves the device as it was stores its result and nothing else. -/
theorem Dev.RegEnded.same {d t : Dev} {res : Nat} (h : d.RegEnded res t) :
    t.rd ING_REG_STAT = 16 * res ∧ t.mem = d.mem ∧ ∀ a, a ≠ ING_REG_STAT → t.rd a = d.rd a := ⟨h.stat, h.mem, h.rd⟩

/-! ## Which command runs -/

theorem Dev.regCommand_invalid {d : Dev} (k addr : Nat) (h : ingCfgInvalid d = true) : d.regCommand k addr = (d, 7) := if_pos h

theorem Dev.regCommand_add {d : Dev} (addr : Nat) (h : ingCfgInvalid d = false) : d.regCommand cmdADD addr = d.regAdd addr := by
  unfold Dev.regCommand
  rw [if_neg (by simp [h]), if_pos rfl]

theorem Dev.regCommand_free {d : Dev} (addr : Nat) (h : ingCfgInvalid d = false) :
    d.regCommand cmdFREE addr = d.regFree (addr % 2 ^ 25) := by
  unfold Dev.regCommand
  rw [if_neg (by simp [h]), if_neg (show ¬ cmdFREE = cmdADD by decide), if_pos rfl]

theorem Dev.regCommand_entry {d : Dev} {k : Nat} (addr : Nat) (h : ingCfgInvalid d = false) (hlo : 2 ≤ k) (hhi : k ≤ 6) :
    d.regCommand k addr = d.regOnEntry k addr := by
  unfold Dev.regCommand
  rw [if_neg (by simp [h]), if_neg (show ¬ k = 1 by omega), if_neg (show ¬ k = 7 by omega)]

/-! ## Commands on an entry found by its address -/

theorem Dev.regOnEntry_absent {d : Dev} {addr : Nat} (k : Nat) (h : d.lookup addr = none) : d.regOnEntry k addr = (d, 2) := by
  simp only [Dev.regOnEntry, h]

section
variable {d : Dev} {addr : Nat} {h : Hit} (hfound : d.lookup addr = some h)
include hfound

theorem Dev.regAdd_found : d.regAdd addr = (d, 1) := by simp only [Dev.regAdd, hfound]

/-- What the commands make of an entry that the lookup finds. -/
theorem Dev.regOnEntry_found (k : Nat) : d.regOnEntry k addr =
    if k = cmdREMOVE then ((d.setEntryState h stTOMBSTONE).setReseq h.idx false, 0)
    else if k = cmdSUSPEND then if h.state = stLIVE then (d.setEntryState h stSUSPENDED, 0) else (d, 6)
    else if k = cmdRESUME then if h.state = stSUSPENDED then (d.setEntryState h stLIVE, 0) else (d, 6)
    else if k = cmdRESEQ then (d.setReseq h.idx true, 0)
    else (d.wr ING_REG_INDEX (h.idx + 2 ^ 29 * h.state), 0) := by simp only [Dev.regOnEntry, hfound]

theorem Dev.regOnEntry_remove :
    d.regOnEntry cmdREMOVE addr = ((d.setEntryState h stTOMBSTONE).setReseq h.idx false, 0) := by
  rw [Dev.regOnEntry_found hfound, if_pos rfl]

theorem Dev.regOnEntry_suspend :
    d.regOnEntry cmdSUSPEND addr = if h.state = stLIVE then (d.setEntryState h stSUSPENDED, 0) else (d, 6) := by
  rw [Dev.regOnEntry_found hfound, if_neg (show ¬ cmdSUSPEND = cmdREMOVE by decide), if_pos rfl]

theorem Dev.regOnEntry_resume :
    d.regOnEntry cmdRESUME addr = if h.state = stSUSPENDED then (d.setEntryState h stLIVE, 0) else (d, 6) := by
  rw [Dev.regOnEntry_found hfound, if_neg (show ¬ cmdRESUME = cmdREMOVE by decide), if_neg (show ¬ cmdRESUME = cmdSUSPEND by decide),
    if_pos rfl]

theorem Dev.regOnEntry_reseq : d.regOnEntry cmdRESEQ addr = (d.setReseq h.idx true, 0) := by
  rw [Dev.regOnEntry_found hfound, if_neg (show ¬ cmdRESEQ = cmdREMOVE by decide), if_neg (show ¬ cmdRESEQ = cmdSUSPEND by decide),
    if_neg (show ¬ cmdRESEQ = cmdRESUME by decide), if_pos rfl]

theorem Dev.regOnEntry_lookup : d.regOnEntry cmdLOOKUP addr = (d.wr ING_REG_INDEX (h.idx + 2 ^ 29 * h.state), 0) := by
  rw [Dev.regOnEntry_found hfound, if_neg (show ¬ cmdLOOKUP = cmdREMOVE by decide), if_neg (show ¬ cmdLOOKUP = cmdSUSPEND by decide),
    if_neg (show ¬ cmdLOOKUP = cmdRESUME by decide), if_neg (show ¬ cmdLOOKUP = cmdRESEQ by decide)]

end

/-! ## ADD of a new endpoint (R57, R58) -/

/-- The free list is empty: the next endpoint takes a new index. -/
abbrev Dev.FreeListEmpty (d : Dev) : Prop := d.fld ING_REG_FREE_HEAD 24 0 = noIndex

/-- The index that the next endpoint takes. -/
def Dev.nextIndex (d : Dev) : Nat := if d.FreeListEmpty then d.fld ING_REG_HWM 25 0 else d.fld ING_REG_FREE_HEAD 24 0

/-- The generation of its registration: 1 for a new index, one more than before for an index used again (R57). -/
def Dev.nextGen (d : Dev) : Nat := if d.FreeListEmpty then 1 else (d.recGet d.nextIndex rREG_GEN 4 + 1) % 2 ^ 32

/-- The index is taken: the high-water mark goes up, or the free list loses its head. -/
def Dev.indexTaken (d : Dev) : Dev :=
  if d.FreeListEmpty then d.wrS ING_REG_HWM (d.nextIndex + 1)
  else d.wrS ING_REG_FREE_HEAD (bitsOf (d.recGet d.nextIndex rADDR 8) 24 0)

/-- The hash entry of a LIVE endpoint (R56). -/
def entryBytes (addr i gen : Nat) : Bytes := leBytes 8 addr ++ leBytes 4 (i + 2 ^ 29) ++ leBytes 4 gen

/-- The record of a LIVE endpoint that has had no reading yet (R58). -/
def Dev.freshRecord (d : Dev) (addr i gen : Nat) : Bytes :=
  leBytes 8 addr ++ leBytes 4 (i + 2 ^ 29) ++ leBytes 4 (d.rd ING_REG_ATTR0) ++ leBytes 4 (d.rd ING_REG_ATTR1) ++ leBytes 4 gen ++
    leBytes 8 d.ext ++ zeroBytes 352

/-- The hash entry and a cleared record are written. -/
def Dev.entryWritten (d : Dev) (addr sl i gen : Nat) : Dev :=
  let e := d.stBytes (d.hashAddr sl) (entryBytes addr i gen)
  e.recPutBytes i 0 (e.freshRecord addr i gen)

/-- The endpoint is counted, its index stands in ING_REG_INDEX, and what an earlier holder of the index left is forgotten. -/
def Dev.endpointCounted (d : Dev) (i : Nat) : Dev :=
  let e := ((d.wr ING_REG_COUNT (d.rd ING_REG_COUNT + 1)).wr ING_REG_INDEX (i + 2 ^ 29)).setReseq i false
  { e with epc := { e.epc with points := Assoc.del e.epc.points i }, trf := { e.trf with close := Assoc.del e.trf.close i } }

/-- All that ADD of a new endpoint does, its hash entry going to slot sl. -/
def Dev.endpointAdded (d : Dev) (addr sl : Nat) : Dev :=
  (d.indexTaken.entryWritten addr sl d.nextIndex d.nextGen).endpointCounted d.nextIndex

theorem Dev.regAdd_new {d : Dev} {addr sl : Nat} (habsent : d.lookup addr = none) (hroom : d.indexFull = false)
    (hslot : d.freeSlot d.probeMax (homeSlot addr d.hashLog) = some sl) :
    d.regAdd addr = (d.endpointAdded addr sl, 0) := by
  unfold Dev.regAdd Dev.endpointAdded Dev.nextGen Dev.indexTaken Dev.nextIndex Dev.endpointCounted Dev.entryWritten entryBytes Dev.freshRecord
  simp only [habsent, hroom, hslot, Bool.false_eq_true, if_false, beq_iff_eq, stLIVE, Nat.mul_one]

/-- Taking an index changes the high-water mark and the head of the free list alone. -/
theorem Dev.rd_indexTaken_other (d : Dev) {a : Nat} (hhwm : a ≠ ING_REG_HWM) (hhead : a ≠ ING_REG_FREE_HEAD) :
    d.indexTaken.rd a = d.rd a := by
  unfold Dev.indexTaken
  split
  · exact Dev.rd_wrS_other _ _ hhwm
  · exact Dev.rd_wrS_other _ _ hhead

@[simp] theorem Dev.indexTaken_mem (d : Dev) : d.indexTaken.mem = d.mem := by unfold Dev.indexTaken; split <;> simp
@[simp] theorem Dev.indexTaken_ext (d : Dev) : d.indexTaken.ext = d.ext := by unfold Dev.indexTaken; split <;> simp [Dev.ext]

@[simp] theorem Dev.indexTaken_hashAddr (d : Dev) (sl : Nat) : d.indexTaken.hashAddr sl = d.hashAddr sl := by
  simp (disch := decide) only [Dev.hashAddr, Dev.rd64, Dev.rd_indexTaken_other]

@[simp] theorem Dev.indexTaken_recBase (d : Dev) (i : Nat) : d.indexTaken.recBase i = d.recBase i := by
  simp (disch := decide) only [Dev.recBase, Dev.rd64, Dev.rd_indexTaken_other]

@[simp] theorem Dev.indexTaken_freshRecord (d : Dev) (addr i gen : Nat) : d.indexTaken.freshRecord addr i gen = d.freshRecord addr i gen := by
  simp (disch := decide) only [Dev.freshRecord, Dev.rd_indexTaken_other, Dev.indexTaken_ext]

@[simp] theorem Dev.rd_entryWritten (d : Dev) (addr sl i gen a : Nat) : (d.entryWritten addr sl i gen).rd a = d.rd a := by
  unfold Dev.entryWritten Dev.recPutBytes
  simp only [Dev.rd_stBytes]

theorem Dev.entryWritten_mem (d : Dev) (addr sl i gen : Nat) : (d.entryWritten addr sl i gen).mem =
    ((d.stBytes (d.hashAddr sl) (entryBytes addr i gen)).stBytes (d.recBase i) (d.freshRecord addr i gen)).mem := by
  unfold Dev.entryWritten Dev.recPutBytes Dev.freshRecord
  simp only [Dev.recBase_stBytes, Dev.rd_stBytes, Dev.ext_stBytes, Nat.add_zero]

theorem Dev.rd_endpointCounted_index (d : Dev) (i : Nat) : (d.endpointCounted i).rd ING_REG_INDEX = (i + 2 ^ 29) % 2 ^ 32 :=
  Dev.rd_wr_same _ _ _

theorem Dev.rd_endpointCounted_count (d : Dev) (i : Nat) : (d.endpointCounted i).rd ING_REG_COUNT = (d.rd ING_REG_COUNT + 1) % 2 ^ 32 :=
  (Dev.rd_wr_other _ _ (by decide)).trans (Dev.rd_wr_same _ _ _)

theorem Dev.rd_endpointCounted_other (d : Dev) (i : Nat) {a : Nat} (hindex : a ≠ ING_REG_INDEX) (hcount : a ≠ ING_REG_COUNT) :
    (d.endpointCounted i).rd a = d.rd a :=
  (Dev.rd_wr_other _ _ hindex).trans (Dev.rd_wr_other _ _ hcount)

@[simp] theorem Dev.endpointCounted_mem (d : Dev) (i : Nat) : (d.endpointCounted i).mem = d.mem := rfl

theorem Dev.rd_endpointAdded_index (d : Dev) (addr sl : Nat) :
    (d.endpointAdded addr sl).rd ING_REG_INDEX = (d.nextIndex + 2 ^ 29) % 2 ^ 32 := Dev.rd_endpointCounted_index _ _

theorem Dev.rd_endpointAdded_count (d : Dev) (addr sl : Nat) :
    (d.endpointAdded addr sl).rd ING_REG_COUNT = (d.rd ING_REG_COUNT + 1) % 2 ^ 32 := by
  unfold Dev.endpointAdded
  rw [Dev.rd_endpointCounted_count, Dev.rd_entryWritten, Dev.rd_indexTaken_other _ (by decide) (by decide)]

theorem Dev.rd_endpointAdded_other (d : Dev) (addr sl : Nat) {a : Nat} (hindex : a ≠ ING_REG_INDEX) (hcount : a ≠ ING_REG_COUNT) :
    (d.endpointAdded addr sl).rd a = d.indexTaken.rd a :=
  (Dev.rd_endpointCounted_other _ _ hindex hcount).trans (Dev.rd_entryWritten ..)

theorem Dev.rd_endpointAdded_hwm_of_empty {d : Dev} (addr sl : Nat) (h : d.FreeListEmpty) :
    (d.endpointAdded addr sl).rd ING_REG_HWM = (d.nextIndex + 1) % 2 ^ 32 := by
  rw [Dev.rd_endpointAdded_other _ _ _ (by decide) (by decide), Dev.indexTaken, if_pos h, Dev.rd_wrS_same]

theorem Dev.rd_endpointAdded_head_of_empty {d : Dev} (addr sl : Nat) (h : d.FreeListEmpty) :
    (d.endpointAdded addr sl).rd ING_REG_FREE_HEAD = d.rd ING_REG_FREE_HEAD := by
  rw [Dev.rd_endpointAdded_other _ _ _ (by decide) (by decide), Dev.indexTaken, if_pos h, Dev.rd_wrS_other _ _ (by decide)]

theorem Dev.rd_endpointAdded_hwm_of_list {d : Dev} (addr sl : Nat) (h : ¬ d.FreeListEmpty) :
    (d.endpointAdded addr sl).rd ING_REG_HWM = d.rd ING_REG_HWM := by
  rw [Dev.rd_endpointAdded_other _ _ _ (by decide) (by decide), Dev.indexTaken, if_neg h, Dev.rd_wrS_other _ _ (by decide)]

/-- The next free index, of 25 bits, fits the register. -/
theorem Dev.rd_endpointAdded_head_of_list {d : Dev} (addr sl : Nat) (h : ¬ d.FreeListEmpty) :
    (d.endpointAdded addr sl).rd ING_REG_FREE_HEAD = bitsOf (d.recGet d.nextIndex rADDR 8) 24 0 := by
  rw [Dev.rd_endpointAdded_other _ _ _ (by decide) (by decide), Dev.indexTaken, if_neg h, Dev.rd_wrS_same]
  exact Nat.mod_eq_of_lt (Nat.lt_of_lt_of_le (bitsOf_lt _ 24 0) (by decide))

theorem Dev.endpointAdded_mem (d : Dev) (addr sl : Nat) : (d.endpointAdded addr sl).mem =
    ((d.stBytes (d.hashAddr sl) (entryBytes addr d.nextIndex d.nextGen)).stBytes (d.recBase d.nextIndex)
      (d.freshRecord addr d.nextIndex d.nextGen)).mem := by
  unfold Dev.endpointAdded
  rw [Dev.endpointCounted_mem, Dev.entryWritten_mem, Dev.indexTaken_hashAddr, Dev.indexTaken_recBase, Dev.indexTaken_freshRecord]
  exact Dev.stBytes_mem_congr (Dev.stBytes_mem_congr d.indexTaken_mem _ _) _ _

/-! ## FREE of a tombstone's index (R57, R387) -/

/-- The index becomes the head of the free list, and its record names the head before it. -/
def Dev.indexFreed (d : Dev) (i : Nat) : Dev :=
  let e := (d.recPut i rADDR 8 (d.fld ING_REG_FREE_HEAD 24 0)).recPut i rIDX_STATE 4 i
  ((e.wrS ING_REG_FREE_HEAD i).wr ING_REG_COUNT (e.rd ING_REG_COUNT - 1)).setReseq i false

theorem Dev.regFree_tombstone {d : Dev} {i : Nat} (hused : i < d.fld ING_REG_HWM 25 0) (htomb : d.recState i = stTOMBSTONE)
    (hnew : d.recGet i rNEWEST 8 = 0) : d.regFree i = (d.indexFreed i, 0) := by
  unfold Dev.regFree
  rw [if_neg (by simp [htomb, hused]), if_neg (by simp [hnew])]
  rfl

theorem Dev.rd_indexFreed_head (d : Dev) {i : Nat} (hi : i < 2 ^ 32) : (d.indexFreed i).rd ING_REG_FREE_HEAD = i := by
  refine (Dev.rd_wr_other _ _ (by decide)).trans ?_
  rw [Dev.rd_wrS_same, Nat.mod_eq_of_lt hi]

theorem Dev.rd_indexFreed_count (d : Dev) (i : Nat) : (d.indexFreed i).rd ING_REG_COUNT = d.rd ING_REG_COUNT - 1 := by
  refine (Dev.rd_wr_same _ _ _).trans ?_
  rw [Dev.rd_recPut, Dev.rd_recPut]
  exact Nat.mod_eq_of_lt (Nat.lt_of_le_of_lt (Nat.sub_le _ _) (d.rd_lt _))

theorem Dev.indexFreed_mem (d : Dev) (i : Nat) :
    (d.indexFreed i).mem = ((d.recPut i rADDR 8 (d.fld ING_REG_FREE_HEAD 24 0)).recPut i rIDX_STATE 4 i).mem := Dev.wrS_mem _ _ _

/-! ## The statement -/

/-- The writes of a command by its name. -/
theorem exec_regCommand (r : Requester) (s : State) :
    ∀ c ∈ [(Instr.regAdd r, 1), (Instr.regRemove r, 2), (Instr.regSuspend r, 3), (Instr.regResume r, 4), (Instr.regReseq r, 5),
        (Instr.regLookup r, 6), (Instr.regFree r, 7)], exec c.1 s = s.logic (·.poke r ING_REG_CMD c.2) ∧ c.2 < 8 := by
  intro c hc
  simp only [List.mem_cons, List.not_mem_nil, or_false] at hc
  rcases hc with rfl | rfl | rfl | rfl | rfl | rfl | rfl <;> exact ⟨rfl, of_decide_eq_true rfl⟩

/-- REG_CMD_DONE of a command on an entry, by what the command leaves and answers. -/
theorem completes_regOnEntry {s : State} {e : Dev} {res k : Nat} {P : Dev → Prop} (hawake : Awake s) (hok : ingCfgInvalid s.dev = false)
    (hk : s.dev.ing.cmd = k) (hlo : 2 ≤ k) (hhi : k ≤ 6) (hcmd : s.dev.regOnEntry k (s.dev.rd64 ING_REG_ADDR_LO) = (e, res))
    (hres : res < 8) (hP : ∀ t, e.RegEnded res t → P t) : Completes .regCmdDone s (fun t => t.ing.cmd = 0 ∧ P t) :=
  completes_regCmdDone hawake (by omega) (by rw [hk, Dev.regCommand_entry _ hok hlo hhi, hcmd]) hres hP

/-- Settles O22: the write is one poke whatever the command; its end is what the command leaves, with the result stored. -/
theorem registryCommands : Obligations.RegistryCommands := by
  intro s r hawake
  refine ⟨fun hmay hidle hlock c hc => ?write, fun hk hbad => ?invalid, fun hok => ⟨fun habsent hrange => ?absent,
    fun h hfound => ⟨fun hk => ?add, fun hk => ?remove, fun hk hst => ?suspend, fun hk hst => ?suspendRefused, fun hk hst => ?resume,
      fun hk hst => ?resumeRefused, fun hk => ?reseq, fun hk => ?lookup⟩,
    fun sl hk habsent hroom hslot => ?new, fun hk hused htomb hnew => ?free⟩⟩
  case write =>
    obtain ⟨hexec, hcode⟩ := exec_regCommand r s c hc
    exact completes_logic _ hexec hawake (Dev.poke_regCmd hcode hmay hidle hlock)
  case invalid => exact completes_regCmdDone hawake hk (Dev.regCommand_invalid _ _ hbad) (by decide) fun t ht => ht.same
  case absent =>
    exact completes_regOnEntry hawake hok rfl hrange.1 hrange.2 (Dev.regOnEntry_absent _ habsent) (by decide) fun t ht => ht.same
  case add =>
    have hcmd := (Dev.regCommand_add _ hok).trans (Dev.regAdd_found hfound)
    exact completes_regCmdDone hawake (by omega) (by rw [hk, hcmd]) (by decide) fun t ht => ht.same
  case remove =>
    exact completes_regOnEntry hawake hok hk (by decide) (by decide) (Dev.regOnEntry_remove hfound) (by decide)
      fun t ht => ⟨ht.stat, ht.mem⟩
  case suspend =>
    exact completes_regOnEntry hawake hok hk (by decide) (by decide) ((Dev.regOnEntry_suspend hfound).trans (if_pos hst)) (by decide)
      fun t ht => ⟨ht.stat, ht.mem⟩
  case suspendRefused =>
    exact completes_regOnEntry hawake hok hk (by decide) (by decide) ((Dev.regOnEntry_suspend hfound).trans (if_neg hst)) (by decide)
      fun t ht => ht.same
  case resume =>
    exact completes_regOnEntry hawake hok hk (by decide) (by decide) ((Dev.regOnEntry_resume hfound).trans (if_pos hst)) (by decide)
      fun t ht => ⟨ht.stat, ht.mem⟩
  case resumeRefused =>
    exact completes_regOnEntry hawake hok hk (by decide) (by decide) ((Dev.regOnEntry_resume hfound).trans (if_neg hst)) (by decide)
      fun t ht => ht.same
  case reseq =>
    exact completes_regOnEntry hawake hok hk (by decide) (by decide) (Dev.regOnEntry_reseq hfound) (by decide)
      fun t ht => ⟨ht.reseq ▸ List.mem_cons_self, ht.same⟩
  case lookup =>
    exact completes_regOnEntry hawake hok hk (by decide) (by decide) (Dev.regOnEntry_lookup hfound) (by decide)
      fun t ht => ⟨ht.stat, (ht.rd _ (by decide)).trans (Dev.rd_wr_same _ _ _), ht.mem,
        fun a hstat hindex => (ht.rd a hstat).trans (Dev.rd_wr_other _ _ hindex)⟩
  case new =>
    have hcmd := (Dev.regCommand_add _ hok).trans (Dev.regAdd_new habsent hroom hslot)
    refine completes_regCmdDone hawake (by omega) (by rw [hk, hcmd]) (by decide) fun t ht => ?_
    exact ⟨ht.stat, (ht.rd _ (by decide)).trans (Dev.rd_endpointAdded_index ..),
      (ht.rd _ (by decide)).trans (Dev.rd_endpointAdded_count ..),
      fun hempty => ⟨(ht.rd _ (by decide)).trans (Dev.rd_endpointAdded_hwm_of_empty _ _ hempty),
        (ht.rd _ (by decide)).trans (Dev.rd_endpointAdded_head_of_empty _ _ hempty)⟩,
      fun hlist => ⟨(ht.rd _ (by decide)).trans (Dev.rd_endpointAdded_hwm_of_list _ _ hlist),
        (ht.rd _ (by decide)).trans (Dev.rd_endpointAdded_head_of_list _ _ hlist)⟩,
      ht.mem.trans (Dev.endpointAdded_mem ..)⟩
  case free =>
    have hcmd := (Dev.regCommand_free _ hok).trans (Dev.regFree_tombstone hused htomb hnew)
    refine completes_regCmdDone hawake (by omega) (by rw [hk, hcmd]) (by decide) fun t ht => ?_
    exact ⟨ht.stat, (ht.rd _ (by decide)).trans (Dev.rd_indexFreed_head _ (by omega)),
      (ht.rd _ (by decide)).trans (Dev.rd_indexFreed_count _ _), ht.mem.trans (Dev.indexFreed_mem _ _)⟩

end Sys2Proof.Machine
end

section
/-!
SUPPORT. Intake of a record from a ring, and the exception ring's consumer index.
-/
namespace Sys2Proof.Machine

/-! ## Intake (R60, R71) -/

/-- ING takes nothing from a ring while it may take no input, or when the role does not feed the ring. -/
theorem Dev.intake_idle {d : Dev} {ring : Nat} (native : Option (Nat × List Bytes)) (h : d.ingTakes = false ∨ roleFeeds d.role ring = false) :
    d.intake ring native = d := by
  unfold Dev.intake
  rw [if_pos (by rcases h with h | h <;> simp [h])]

/-- The oldest record of a ring. -/
def Dev.inFront (d : Dev) (ring : Nat) : Bytes :=
  d.ldBytes (d.rd64 (ING_IN_BASE_LO ring) + 48 * (d.rd (ING_IN_CONS ring) % 2 ^ d.inLog ring)) 48

/-- Without a frame for the native decoder ING takes the front of a ring that has one, under leave. -/
theorem Dev.intake_front {d : Dev} {ring : Nat} (htakes : d.ingTakes = true) (hslave : d.pairSlave = false)
    (hfeeds : roleFeeds d.role ring = true) (hlog : d.inLog ring ≠ 0) (hcount : d.inCount ring ≠ 0) :
    d.intake ring none = d.ingUnderLeave ring (d.inFront ring) fun e => e.wr (ING_IN_CONS ring) (d.rd (ING_IN_CONS ring) + 1) := by
  unfold Dev.intake
  rw [if_neg (by simp [htakes, hslave, hfeeds])]
  split
  next h => exact absurd h (by simp)
  next => rw [if_neg (by simp [hlog, hcount])]; rfl

section
variable {d : Dev} {ring : Nat} {rec' : Bytes} (taken : Dev → Dev) (hleave : (d.request 6 ingClient).granted 6 ingClient = true)
include hleave

/-- A record for which TRF allocates nothing goes through under leave of class 6. -/
theorem Dev.ingUnderLeave_plain (hneeds : (d.request 6 ingClient).trfAllocates (Reading.ofBytes rec').t = false) :
    d.ingUnderLeave ring rec' taken =
      (((taken (d.request 6 ingClient)).mirror (.record ring rec')).ingProcess ring rec').giveBack 6 ingClient := by
  simp [Dev.ingUnderLeave, hleave, hneeds]

/-- A record for which TRF allocates goes through under leave of the classes 6 and 8. -/
theorem Dev.ingUnderLeave_allocates (hneeds : (d.request 6 ingClient).trfAllocates (Reading.ofBytes rec').t = true)
    (htrf : ((d.request 6 ingClient).request 8 trfClient).granted 8 trfClient = true) :
    d.ingUnderLeave ring rec' taken =
      ((((taken ((d.request 6 ingClient).request 8 trfClient)).mirror (.record ring rec')).ingProcess ring rec').giveBack 6
        ingClient).giveBack 8 trfClient := by
  simp [Dev.ingUnderLeave, hleave, hneeds, htrf]

end

/-- READING_INTAKE as one action on the device. -/
theorem exec_readingIntake (ring : Fin 8) (native : Option (Fin 512 × List Bytes)) (s : State) :
    exec (.readingIntake ring native) s = s.logic fun d =>
      if d.red.state = .standby then d.feedAll else (d.intake ring (native.map fun x => (x.1.val, x.2))).closeFullBatches := rfl

/-- READING_INTAKE outside STANDBY: what intake leaves, its full batches closed. -/
theorem completes_readingIntake {s : State} {ring : Fin 8} {native : Option (Fin 512 × List Bytes)} {e : Dev} (hawake : Awake s)
    (hstate : s.dev.red.state ≠ .standby) (h : s.dev.intake ring (native.map fun x => (x.1.val, x.2)) = e) :
    Completes (.readingIntake ring native) s (· = e.closeFullBatches) := by
  refine completes_logic _ (exec_readingIntake ring native s) hawake ?_
  exact (if_neg hstate).trans (congrArg Dev.closeFullBatches h)

/-- READING_INTAKE in STANDBY: the stream of the active feeds ING (R292). -/
theorem completes_readingIntake_standby {s : State} (ring : Fin 8) (native : Option (Fin 512 × List Bytes)) (hawake : Awake s)
    (hstate : s.dev.red.state = .standby) : Completes (.readingIntake ring native) s (· = s.dev.feedAll) := by
  refine completes_logic _ (exec_readingIntake ring native s) hawake ?_
  exact if_pos hstate

/-! ## The exception ring's consumer index (R67) -/

theorem Dev.poke_excCons {d : Dev} {r : Requester} (v : Word) (hmay : d.mayWrite r ING_EXC_CONS = true) :
    d.poke r ING_EXC_CONS v.toNat = (d.wr ING_EXC_CONS v.toNat).excFlush.answer 0 := by
  have hnamed := d.named_page (p := pING) (off := 0x310) (by decide) (by decide) (by decide) rfl
  have hblock : d.blockWrite r ING_EXC_CONS v.toNat = .done (d.wr ING_EXC_CONS v.toNat).excFlush := rfl
  refine (Dev.poke_l (a := ING_EXC_CONS) v.toNat rfl rfl hnamed hmay rfl rfl rfl).trans ?_
  rw [Nat.mod_eq_of_lt v.isLt, hblock]
  rfl

/-- With no exception waiting, no stall under way and room in the ring there is nothing to flush. -/
theorem Dev.excFlush_idle {d : Dev} (hexc : d.ing.exc = []) (hstall : d.ing.stallTick = none) (hroom : d.excBlocked = false) :
    d.excFlush = d := by
  have hdrain : excDrain d.ing.exc d = d := by
    rw [hexc, excDrain, ← hexc]
  unfold Dev.excFlush
  simp only [hdrain, hstall, hroom]

/-! ## The statement -/

/-- Settles O23: intake by the gates it passes, then the leave it holds; the index write is one poke. -/
theorem intakeAndExceptions : Obligations.IntakeAndExceptions := by
  intro s r hawake
  refine ⟨fun ring hstate htakes hslave hfeeds hlog hcount => ?intake, fun ring native hstate hidle => ?idle,
    fun ring native hstate => completes_readingIntake_standby ring native hawake hstate, fun v hmay => ?index⟩
  case intake =>
    intro cons rec' d hleave
    have hfront := Dev.intake_front htakes hslave hfeeds hlog hcount
    exact ⟨fun hneeds => completes_readingIntake hawake hstate (hfront.trans (Dev.ingUnderLeave_plain _ hleave hneeds)),
      fun hneeds htrf => completes_readingIntake hawake hstate (hfront.trans (Dev.ingUnderLeave_allocates _ hleave hneeds htrf))⟩
  case idle => exact completes_readingIntake hawake hstate (Dev.intake_idle _ hidle)
  case index =>
    have hpoke := Dev.poke_excCons v hmay
    refine completes_logic (·.poke r ING_EXC_CONS v.toNat) rfl hawake ⟨hpoke, fun hexc hstall hroom => hpoke.trans ?_⟩
    rw [Dev.excFlush_idle (d := s.dev.wr ING_EXC_CONS v.toNat) hexc hstall hroom]

end Sys2Proof.Machine
end

section
/-!
SUPPORT. Batches of a field module: what closing one does, and what leaves the ingestion state alone when it is sent.
-/
namespace Sys2Proof.Machine

/-! ## Sending leaves ING as it is (R163, R170) -/

theorem Dev.touchLane_ing (d : Dev) (lane code id : Nat) : (d.touchLane lane code id).1.ing = d.ing := by
  unfold Dev.touchLane
  split
  · rfl
  · dsimp only
    split
    · rfl
    · split <;> rfl

theorem Dev.pushFrame_ing (d : Dev) (q producer : Nat) (data : Bytes) (t tUnc : Nat) : (d.pushFrame q producer data t tUnc).1.ing = d.ing := by
  unfold Dev.pushFrame
  split
  · rfl
  · split <;> rfl

theorem Dev.enginePush_ing (d : Dev) (code lane : Nat) (data : Bytes) : (d.enginePush code lane data).1.ing = d.ing := by
  have htouch := d.touchLane_ing lane code 0
  unfold Dev.enginePush
  split
  next e _ h => rwa [h] at htouch
  next e h =>
    rw [h] at htouch
    exact (Dev.pushFrame_ing ..).trans htouch

@[simp] theorem Dev.sendDatagram_ing (d : Dev) (s port : Nat) (payload : Bytes) : (d.sendDatagram s port payload).ing = d.ing := by
  unfold Dev.sendDatagram
  split
  · rfl
  · exact Dev.enginePush_ing ..

/-! ## Closing a batch (R68) -/

/-- The station field of a batch: the station's number, with the mark of a replay. -/
def Dev.batchStation (d : Dev) (replay : Bool) : Nat := d.fld TRK_STN 9 0 + 2 ^ 15 * b2n replay

/-- The header of the batch that the n oldest waiting records would make. -/
def Dev.nextHeader (d : Dev) (n : Nat) (replay : Bool) : Bytes :=
  batchHeader (d.batchStation replay) (d.ing.unsent.take n).length d.ing.nextSeq d.ext

/-- Its ciphertext and tag, under the link key (R68). -/
def Dev.nextSealed (d : Dev) (n : Nat) (replay : Bool) : Option Bytes :=
  d.linkSeal (ackNonce (d.batchStation replay) 0 d.ing.nextSeq) (d.nextHeader n replay) ((d.ing.unsent.take n).flatMap (·.body))

/-- The batch itself. -/
def Dev.nextBatch (d : Dev) (n : Nat) (replay : Bool) (ct : Bytes) : Batch :=
  { seq := d.ing.nextSeq, bytes := d.nextHeader n replay ++ ct, count := (d.ing.unsent.take n).length
    journalled := ((d.ing.unsent.take n).filter (·.journalled)).length }

/-- Its records wait no longer and it is outstanding; the first one outstanding begins the waits for an acknowledgement. -/
def Dev.batchKept (d : Dev) (n : Nat) (b : Batch) : Dev :=
  let first := d.ing.outstanding.isEmpty
  { d with ing := { d.ing with
    unsent := d.ing.unsent.drop n, outstanding := d.ing.outstanding ++ [b], nextSeq := (d.ing.nextSeq + 1) % 2 ^ 32,
    ackTick := if first then d.time.ticks else d.ing.ackTick, sendTick := if first then d.time.ticks else d.ing.sendTick } }

/-- The batch closes and is sent. -/
def Dev.batchClosed (d : Dev) (n : Nat) (replay : Bool) (ct : Bytes) : Dev :=
  (d.batchKept n (d.nextBatch n replay ct)).sendBatch (d.nextBatch n replay ct)

theorem Dev.closeBatch_sealed {d : Dev} {n : Nat} {replay : Bool} {ct : Bytes} (hn : n ≠ 0) (hwait : d.ing.unsent ≠ [])
    (hroom : d.ing.outstanding.length < 64) (hseal : d.nextSealed n replay = some ct) :
    d.closeBatch n replay = d.batchClosed n replay ct := by
  unfold Dev.nextSealed Dev.nextHeader Dev.batchStation at hseal
  unfold Dev.closeBatch
  dsimp only
  rw [if_neg (by simp [hn, hwait, hroom]), hseal]
  rfl

/-- A batch that closed is one more outstanding. -/
theorem Dev.batchClosed_outstanding (d : Dev) (n : Nat) (replay : Bool) (ct : Bytes) :
    (d.batchClosed n replay ct).ing.outstanding = d.ing.outstanding ++ [d.nextBatch n replay ct] :=
  congrArg IngSt.outstanding (Dev.sendDatagram_ing ..)

/-! ## What makes batches go out (R68 to R70) -/

theorem Dev.batchHoldExpire_due {d : Dev} {w : Waiting} {ws : List Waiting} (hruns : d.batchRuns = true) (hwait : d.ing.unsent = w :: ws)
    (hisland : d.ing.islanded = false) (hreplay : d.ing.replaying = false) (hdue : w.tick + 250000 * d.holdMs ≤ d.time.ticks) :
    d.batchHoldExpire = d.closeBatch d.maxRecords false := by
  have hpast : d.past w.tick (msTicks d.holdMs) = true := decide_eq_true (by rw [msTicks, Nat.mul_comm]; exact hdue)
  unfold Dev.batchHoldExpire
  simp only [hwait]
  rw [if_neg (by simp [hruns, hisland, hreplay, hpast])]

/-- A batch of the backlog that closes sets the time of the next by the replay rate. -/
theorem Dev.replaySend_closed {d e : Dev} (hruns : d.batchRuns = true) (hreplay : d.ing.replaying = true) (hisland : d.ing.islanded = false)
    (hdue : d.ing.replayTick ≤ d.time.ticks) (hclose : d.closeBatch (min d.maxRecords d.ing.unsent.length) true = e)
    (hmore : e.ing.outstanding.length ≠ d.ing.outstanding.length) :
    d.replaySend = { e with ing := { e.ing with
      replayTick := e.time.ticks + ceilDiv (min d.maxRecords d.ing.unsent.length * 250000000) (e.rd ING_REPLAY_RATE)
      replaying := !e.ing.unsent.isEmpty } } := by
  unfold Dev.replaySend
  rw [if_neg (by simp [hruns, hreplay, hisland, hdue])]
  simp only [hclose]
  rw [if_neg hmore]

theorem Dev.ackTimeout_due {d : Dev} (hruns : d.batchRuns = true) (hout : d.ing.outstanding ≠ [])
    (hdue : max d.ing.ackTick d.ing.sendTick + 250000 * d.rd ING_ACK_TIMEOUT ≤ d.time.ticks) :
    d.ackTimeout = (if d.ing.islanded then d.ing.outstanding.take 1 else d.ing.outstanding).foldl Dev.sendBatch
      { d with ing := { d.ing with sendTick := d.time.ticks } } := by
  have hpast : d.past (max d.ing.ackTick d.ing.sendTick) (msTicks (d.rd ING_ACK_TIMEOUT)) = true :=
    decide_eq_true (by rw [msTicks, Nat.mul_comm]; exact hdue)
  unfold Dev.ackTimeout
  rw [if_neg (by simp [hruns, hout, hpast])]
  rfl

theorem Dev.islandTimeout_due {d : Dev} (hruns : d.batchRuns = true) (hout : d.ing.outstanding ≠ []) (hisland : d.ing.islanded = false)
    (hdue : d.ing.ackTick + 250000 * d.rd ING_ISLAND_TIMEOUT ≤ d.time.ticks) :
    d.islandTimeout = { d with ing := { d.ing with islanded := true, replaying := false } } := by
  have hpast : d.past d.ing.ackTick (msTicks (d.rd ING_ISLAND_TIMEOUT)) = true :=
    decide_eq_true (by rw [msTicks, Nat.mul_comm]; exact hdue)
  unfold Dev.islandTimeout
  rw [if_neg (by simp [hruns, hout, hisland, hpast])]

/-! ## The statement -/

/-- Settles O24: each command by the instant that makes it due, and what closing a batch does. -/
theorem batchesGoOut : Obligations.BatchesGoOut := by
  intro s hawake hruns
  refine ⟨⟨fun w ws ct hwait hisland hreplay hmax hdue hroom hseal => ?hold, fun ct => ?replay⟩, fun hout hdue => ?again,
    fun hout hisland hdue => ?island⟩
  case hold =>
    have hclose := Dev.closeBatch_sealed hmax (by simp [hwait]) hroom hseal
    exact completes_logic _ rfl hawake ((Dev.batchHoldExpire_due hruns hwait hisland hreplay hdue).trans hclose)
  case replay =>
    intro n hreplay hisland hdue hn hroom hseal
    have hwait : s.dev.ing.unsent ≠ [] := by
      intro h
      exact hn (by simp [n, h])
    have hclose := Dev.closeBatch_sealed hn hwait hroom hseal
    have hmore : (s.dev.batchClosed n true ct).ing.outstanding.length ≠ s.dev.ing.outstanding.length := by
      simp [Dev.batchClosed_outstanding]
    exact completes_logic _ rfl hawake (Dev.replaySend_closed hruns hreplay hisland hdue hclose hmore)
  case again => exact completes_logic _ rfl hawake (Dev.ackTimeout_due hruns hout hdue)
  case island => exact completes_logic _ rfl hawake (Dev.islandTimeout_due hruns hout hisland hdue)

end Sys2Proof.Machine
end

section
/-!
SUPPORT. A seal from FINALISE to the signature: what each of its steps does once nothing holds it back.
-/
namespace Sys2Proof.Machine

/-! ## Registers and chain that the steps read again -/

/-- A 64-bit pair keeps its value while another word is written. -/
theorem Dev.rd64_wr_other (d : Dev) {a b : Nat} (v : Nat) (hlo : b ≠ a) (hhi : b + 4 ≠ a) : (d.wr a v).rd64 b = d.rd64 b := by
  unfold Dev.rd64
  rw [Dev.rd_wr_other _ _ hlo, Dev.rd_wr_other _ _ hhi]

@[simp] theorem Dev.mirror_epc (d : Dev) (i : ArmItem) : (d.mirror i).epc = d.epc := by unfold Dev.mirror; split <;> rfl

@[simp] theorem Dev.nvsPump_epc (d : Dev) : d.nvsPump.epc = d.epc := by
  obtain ⟨live, pwr, io, evs, h, _⟩ := d.nvsPump_cases
  rw [h]

/-- An archive write leaves EPC as it is. -/
theorem Dev.nvsSubmit_archive_epc (d : Dev) (seq n : Nat) : (d.nvsSubmit (.archive seq) n).epc = d.epc := by
  unfold Dev.nvsSubmit
  exact Dev.nvsPump_epc _

/-- Writing words one after another leaves EPC as it is. -/
theorem Dev.each_wr_epc {α : Type} (d : Dev) (l : List α) (addr val : α → Nat) :
    (d.each l fun e x => e.wr (addr x) (val x)).epc = d.epc :=
  Dev.each_keeps (P := fun t => t.epc = d.epc) (fun e x h => (e.wr_epc (addr x) (val x)).trans h) l d rfl

/-- An ashlar that is kept is the newest of the chain. -/
theorem Dev.keepAshlar_ashlars (d : Dev) (a : Ashlar) : (d.keepAshlar a).epc.ashlars = d.epc.ashlars ++ [a] := by
  unfold Dev.keepAshlar
  dsimp only
  simp only [Dev.each_wr_epc, Dev.wr64_epc, Dev.bump_epc, Dev.mirror_epc, Dev.nvsSubmit_archive_epc]

/-- Where leave of the sealing class stands, or is granted when asked for, a step goes on under it. -/
theorem Dev.sealLeave_granted {d : Dev} (h : (d.request 7 sealClient).granted 7 sealClient = true) :
    d.sealLeave = (d.request 7 sealClient, true) := by
  unfold Dev.sealLeave
  dsimp only
  rw [h]

/-! ## FINALISE (R81, R83) -/

/-- The endpoints below EPC_WORK_CAP, with their values at the end of an epoch. -/
def Dev.coveredValues (d : Dev) (e : EpochRec) : List (Nat × BVal) :=
  ((d.endpoints known).filter fun i => decide (i < d.rd EPC_WORK_CAP)).map fun i => (i, d.valueAt i e.tEnd)

/-- The leaves of the epoch's ashlar, before zone entries. -/
def Dev.epochLeaves (d : Dev) (e : EpochRec) : List Bytes :=
  sortEntries ((d.coveredValues e).map fun x => d.finalEntry e x.1 x.2)

/-- The endpoints at or above EPC_WORK_CAP are counted. -/
def Dev.uncoveredCounted (d : Dev) (e : EpochRec) : Dev :=
  d.wr EPC_UNCOVERED ((d.endpoints known).length - (d.coveredValues e).length)

/-- The epoch is the seal's job, without a closing, and rest are still unsealed. -/
def Dev.jobBegun (d : Dev) (e : EpochRec) (rest : List EpochRec) (leaves : List Bytes) : Dev :=
  { d with epc := { d.epc with
    unsealed := rest, job := some (newAshlar 0 e leaves), closing := none, zones := [], balDone := false,
    state := if d.balEpochOn e.tEnd then .waitBal else .hash } }

theorem Dev.sealFinalise_withoutClosing {d l : Dev} {e : EpochRec} {rest : List EpochRec} (hruns : d.sealRuns = true)
    (hdue : d.epc.unsealed = e :: rest) (hstate : d.epc.state = .finalise) (hleave : d.sealLeave = (l, true))
    (hclosing : l.rd64 TRF_PEND_CLOSE_LO ≠ e.tEnd ∨ l.trf.closing = []) :
    d.sealFinalise = (l.uncoveredCounted e).jobBegun e rest (l.epochLeaves e) := by
  have hnone (n : Nat) : ((l.wr EPC_UNCOVERED n).rd64 TRF_PEND_CLOSE_LO == e.tEnd && !(l.wr EPC_UNCOVERED n).trf.closing.isEmpty) =
      false := by
    rw [Dev.rd64_wr_other _ n (by decide) (by decide), Dev.wr_trf]
    rcases hclosing with hother | hempty
    · simp [hother]
    · simp [hempty]
  unfold Dev.sealFinalise
  simp only [hdue]
  rw [if_neg (by simp [hruns, hstate])]
  simp only [hleave, hnone, Bool.not_true, Bool.false_eq_true, if_false]
  rfl

/-! ## The report of BAL (R81) -/

/-- The zone entries join the leaves of a job, and its tree is due. -/
def Dev.zonesJoined (d : Dev) (j : Ashlar) : Dev :=
  { d with epc := { d.epc with job := some { j with leaves := sortEntries (j.leaves ++ d.epc.zones) }, zones := [], state := .hash } }

theorem Dev.balEpochReport_done {d : Dev} {j : Ashlar} (hruns : d.sealRuns = true) (hjob : d.epc.job = some j)
    (hstate : d.epc.state = .waitBal) (hbal : d.epc.balDone = true ∧ d.bal.susp = [] ∨ d.en pBAL = false) :
    d.balEpochReport = d.zonesJoined j := by
  have hready : (d.epc.balDone && d.bal.susp.isEmpty || !d.en pBAL) = true := by
    rcases hbal with ⟨hdone, hsusp⟩ | hoff
    · simp [hdone, hsusp]
    · simp [hoff]
  unfold Dev.balEpochReport
  simp only [hjob]
  rw [if_neg (by simp [hruns, hstate]), if_pos hready]
  rfl

/-! ## HASH (R86, R91) -/

/-- Set k is given up by the ashlars that it holds, and the other set is next. -/
def Dev.setTaken (d : Dev) (k : Nat) : Dev :=
  { d with epc := { d.epc with
    ashlars := d.epc.ashlars.map fun (a : Ashlar) => if a.setNo = some k then { a with setNo := none } else a, nextSet := 1 - k } }

/-- The ashlar with its root and its configuration digest, leaves at x and inner nodes at y of set k. -/
def Dev.hashedIn (d : Dev) (j : Ashlar) (k x y : Nat) : Ashlar :=
  { j with root := merkleRoot j.leaves, digest := d.configDigest j.epoch.tEnd, leafAddr := x, nodeAddr := y, setNo := some k }

/-- Set k holds epoch no. -/
def Dev.setNumbered (d : Dev) (k no : Nat) : Dev := d.wr64 (if k = 0 then EPC_SET_EPOCH0_LO else EPC_SET_EPOCH1_LO) no

/-- The job is hashed: it waits for its signature, and the leave ends. -/
def Dev.jobHashed (d : Dev) (j : Ashlar) : Dev :=
  (({ d with epc := { d.epc with job := some j, state := .waitSign } } : Dev).ownRoot j).giveBack 7 sealClient

theorem Dev.sealHashDone_epoch {d l u : Dev} {j : Ashlar} {x y : Nat} (hruns : d.sealRuns = true) (hjob : d.epc.job = some j)
    (hstate : d.epc.state = .hash) (htyp : j.typ = 0) (hleave : d.sealLeave = (l, true)) (hfree : l.setFree l.epc.nextSet = true)
    (hput : ((l.setTaken l.epc.nextSet).putFill l.epc.nextSet 224).putInSet l.epc.nextSet j.leaves = some (u, x, y)) :
    d.sealHashDone = (u.setNumbered l.epc.nextSet j.epoch.no).jobHashed (l.hashedIn j l.epc.nextSet x y) := by
  unfold Dev.setTaken at hput
  unfold Dev.sealHashDone
  simp only [hjob]
  rw [if_neg (by simp [hruns, hstate])]
  simp only [hleave]
  rw [if_neg (by simp [hfree]), if_neg (by simp [htyp]), hput]
  rfl

/-! ## The signature (R81, R87) -/

/-- Where no amendment lacks its signature none is made up for. -/
theorem Dev.signPending_none {d : Dev} (h : ∀ a ∈ d.epc.ashlars, a.header.isEmpty = false) : d.signPending = some d := by
  have hbare : (d.epc.ashlars.filter fun a => a.header.isEmpty) = [] := List.filter_eq_nil_iff.mpr fun a ha => by simp [h a ha]
  have hkept : (d.epc.ashlars.filter fun a => !a.header.isEmpty) = d.epc.ashlars := List.filter_eq_self.mpr fun a ha => by simp [h a ha]
  unfold Dev.signPending
  simp only [hbare, hkept, List.foldl_nil]

/-- The bytes 0x00 to 0x9F of the header with which an ashlar would enter the chain next. -/
def Dev.nextText (d : Dev) (j : Ashlar) : Bytes := d.headerText j (d.rd64 EPC_SEAL_SEQ_LO + 1) j.epoch.slot d.prevHash

/-- The ashlar with its signed header and the next sequence number. -/
def Dev.signed (d : Dev) (j : Ashlar) : Ashlar :=
  { j with header := d.nextText j ++ ecdsaSign (d.slot j.epoch.slot).key (sha256 (d.nextText j)) (beNat (d.freeBytes 32))
           sealSeq := d.rd64 EPC_SEAL_SEQ_LO + 1 }

/-- KEY has made a signature. -/
def Dev.signCounted (d : Dev) : Dev := (d.tookFree 32).bump KEY_SIGN_COUNT

section
variable {d : Dev} {j : Ashlar} (hkey : d.en pKEY = true) (hslot : d.useSlot j.epoch.slot [2] 0 = 0) (hrng : d.key.rngFault = false)
include hkey hslot hrng

/-- While KEY can sign under the epoch's slot, the signed ashlar enters the chain. -/
theorem Dev.signAshlar_able : d.signAshlar j = some (d.signCounted.keepAshlar (d.signed j)) := by
  unfold Dev.signAshlar Dev.signUnder
  dsimp only
  rw [if_neg (by simp [hkey]), if_pos ⟨hslot, by simp [hrng]⟩]
  simp only [Dev.random, Option.map_some]
  rfl

theorem Dev.sealSigned_able (hruns : d.sealRuns = true) (hjob : d.epc.job = some j) (hstate : d.epc.state = .waitSign)
    (hactive : d.pairSlave = false) (hsigned : ∀ a ∈ d.epc.ashlars, a.header.isEmpty = false) :
    let u := (d.signCounted.keepAshlar (d.signed j)).headerToSet (d.signed j)
    d.sealSigned = { u with epc := { u.epc with state := .exporting } } := by
  unfold Dev.sealSigned
  simp only [hjob]
  rw [if_neg (by simp [hruns, hactive, hstate])]
  simp only [Dev.signPending_none hsigned, Dev.signAshlar_able hkey hslot hrng, Dev.keepAshlar_ashlars, List.getLast?_concat]

end

/-! ## The statement -/

/-- Settles O27: each step of the seal passes its gates, and the lemma above for it says what it leaves. -/
theorem sealToSignature : Obligations.SealToSignature := by
  intro s hawake hruns
  refine ⟨fun e rest hdue hstate hleave => ?finalise, fun j hjob hstate hbal => ?report, fun j hjob hstate htyp hleave => ?hash,
    fun j hjob hstate hactive hkey hsigned hslot hrng => ?sign⟩
  case finalise =>
    intro d all mine leaves u hclosing
    exact completes_logic _ rfl hawake (Dev.sealFinalise_withoutClosing hruns hdue hstate (Dev.sealLeave_granted hleave) hclosing)
  case report => exact completes_logic _ rfl hawake (Dev.balEpochReport_done hruns hjob hstate hbal)
  case hash =>
    intro d k e j' hfree u x y hput
    exact completes_logic _ rfl hawake (Dev.sealHashDone_epoch hruns hjob hstate htyp (Dev.sealLeave_granted hleave) hfree hput)
  case sign => exact completes_logic _ rfl hawake (Dev.sealSigned_able hkey hslot hrng hruns hjob hstate hactive hsigned)

end Sys2Proof.Machine
end

section
/-!
SUPPORT. Export of ashlars, and the live fence.
-/
namespace Sys2Proof.Machine

/-! ## Export (R81, R92) -/

/-- The oldest waiting descriptor x stands in its slot of the ring of EPC_EXP_BASE, and its ashlar keeps the slot's index. -/
def Dev.exported (d : Dev) (x : DescDue) (rest : List DescDue) : Dev :=
  let prod := d.rd EPC_EXP_PROD
  let e := (d.stBytes (d.rd64 EPC_EXP_BASE_LO + 256 * (prod % 2 ^ d.expLog)) x.bytes).wr EPC_EXP_PROD (prod + 1)
  { e with epc := { e.epc with
    descs := rest, ashlars := e.epc.ashlars.map fun (a : Ashlar) => if a.sealSeq = x.sealSeq then { a with exportNo := some prod } else a } }

@[simp] theorem Dev.stBytes_epc (d : Dev) (a : Nat) (bs : Bytes) : (d.stBytes a bs).epc = d.epc := by
  obtain ⟨m, hm⟩ := d.stBytes_frame a bs
  rw [hm]

@[simp] theorem Dev.exported_job (d : Dev) (x : DescDue) (rest : List DescDue) : (d.exported x rest).epc.job = d.epc.job := by
  simp [Dev.exported]

@[simp] theorem Dev.exported_state (d : Dev) (x : DescDue) (rest : List DescDue) : (d.exported x rest).epc.state = d.epc.state := by
  simp [Dev.exported]

/-- Exporting leaves the newest sequence number as it is. -/
@[simp] theorem Dev.exported_sealSeq (d : Dev) (x : DescDue) (rest : List DescDue) :
    (d.exported x rest).rd64 EPC_SEAL_SEQ_LO = d.rd64 EPC_SEAL_SEQ_LO := by
  refine (Dev.rd64_wr_other _ _ (by decide) (by decide)).trans ?_
  simp only [Dev.rd64, Dev.rd_stBytes]

/-- What follows once descriptor x is exported: in EXPORT, the last one waiting, if it is of the newest ashlar, ends the seal. -/
def Dev.afterExport (d : Dev) (x : DescDue) (rest : List DescDue) : Dev :=
  match d.epc.job, d.epc.state with
  | some j, .exporting => if d.rd64 EPC_SEAL_SEQ_LO = x.sealSeq ∧ rest.isEmpty then d.sealEnd j else d
  | _, _ => d

theorem Dev.afterExport_last {d : Dev} {x : DescDue} {rest : List DescDue} {j : Ashlar} (hjob : d.epc.job = some j)
    (hstate : d.epc.state = .exporting) (hseq : d.rd64 EPC_SEAL_SEQ_LO = x.sealSeq) (hrest : rest = []) :
    d.afterExport x rest = d.sealEnd j := by
  unfold Dev.afterExport
  simp only [hjob, hstate]
  exact if_pos ⟨hseq, List.isEmpty_iff.mpr hrest⟩

theorem Dev.afterExport_more {d : Dev} {x : DescDue} {rest : List DescDue}
    (hmore : d.epc.job = none ∨ d.epc.state ≠ .exporting ∨ d.rd64 EPC_SEAL_SEQ_LO ≠ x.sealSeq ∨ rest ≠ []) :
    d.afterExport x rest = d := by
  unfold Dev.afterExport
  split
  next j hjob hstate =>
    refine if_neg fun ⟨hseq, hempty⟩ => ?_
    rcases hmore with hidle | hother | holder | hwaiting
    · simp [hjob] at hidle
    · exact hother hstate
    · exact holder hseq
    · exact hwaiting (List.isEmpty_iff.mp hempty)
  next => rfl

section
variable {d : Dev} {x : DescDue} {rest : List DescDue} (hdesc : d.epc.descs = x :: rest) (hruns : d.sealRuns = true)
  (hactive : d.pairSlave = false) (hroom : d.expFull = false) (hmirror : d.mirrored x.mirror = true)
include hdesc hruns hactive hroom hmirror

/-- The descriptor takes its slot, and the seal goes on from there. -/
theorem Dev.sealExport_front : d.sealExport = (d.exported x rest).afterExport x rest := by
  unfold Dev.sealExport
  simp only [hdesc]
  rw [if_neg (by simp [hruns, hactive, hroom, hmirror])]
  rfl

theorem Dev.sealExport_last {j : Ashlar} (hjob : d.epc.job = some j) (hstate : d.epc.state = .exporting)
    (hseq : d.rd64 EPC_SEAL_SEQ_LO = x.sealSeq) (hrest : rest = []) : d.sealExport = (d.exported x rest).sealEnd j := by
  rw [Dev.sealExport_front hdesc hruns hactive hroom hmirror]
  exact Dev.afterExport_last (by simpa using hjob) (by simpa using hstate) (by simpa using hseq) hrest

theorem Dev.sealExport_more (hmore : d.epc.job = none ∨ d.epc.state ≠ .exporting ∨ d.rd64 EPC_SEAL_SEQ_LO ≠ x.sealSeq ∨ rest ≠ []) :
    d.sealExport = d.exported x rest := by
  rw [Dev.sealExport_front hdesc hruns hactive hroom hmirror]
  exact Dev.afterExport_more (by simpa using hmore)

end

/-- A write of EPC_EXP_CONS stores the index. -/
theorem Dev.poke_expCons {d : Dev} {r : Requester} (v : Word) (hmay : d.mayWrite r EPC_EXP_CONS = true) :
    d.poke r EPC_EXP_CONS v.toNat = (d.wr EPC_EXP_CONS v.toNat).answer 0 := by
  have hnamed := d.named_page (p := pEPC) (off := 0x160) (by decide) (by decide) (by decide) rfl
  have hblock : d.blockWrite r EPC_EXP_CONS v.toNat = .plain := rfl
  refine (Dev.poke_l (a := EPC_EXP_CONS) v.toNat rfl rfl hnamed hmay rfl rfl rfl).trans ?_
  rw [Nat.mod_eq_of_lt v.isLt, hblock]
  show (d.wr EPC_EXP_CONS (v.toNat &&& 2 ^ 32 - 1)).answer 0 = _
  rw [Nat.and_two_pow_sub_one_eq_mod, Nat.mod_eq_of_lt v.isLt]

/-! ## The live fence (R90) -/

theorem Dev.poke_fence {d : Dev} {r : Requester} {v : Nat} (hv : v < 2 ^ 32) (hmay : d.mayWrite r EPC_LIVE_FENCE = true) :
    d.poke r EPC_LIVE_FENCE v = (d.writeFence v).answer 0 := by
  have hnamed := d.named_page (p := pEPC) (off := 0x1A8) (by decide) (by decide) (by decide) rfl
  have hblock : d.blockWrite r EPC_LIVE_FENCE v = .done (d.writeFence v) := rfl
  refine (Dev.poke_l (a := EPC_LIVE_FENCE) v rfl rfl hnamed hmay rfl rfl rfl).trans ?_
  rw [Nat.mod_eq_of_lt hv, hblock]
  rfl

/-- HOLD: the fence stands from now on, or from when it first stood, and no expiry is shown. -/
theorem Dev.writeFence_hold (d : Dev) : d.writeFence 1 = { d.wr EPC_LIVE_FENCE 1 with
    epc := { d.epc with fence := some (d.epc.fence.getD d.time.ticks), expired := false } } := by
  unfold Dev.writeFence
  dsimp only
  rw [if_pos (by decide)]
  cases hfence : d.epc.fence <;> simp [hfence]

/-- Release: the fence falls unless OBJ holds it for a group. -/
theorem Dev.writeFence_release (d : Dev) : d.writeFence 0 = { d.wr EPC_LIVE_FENCE 0 with
    epc := { d.epc with fence := if d.objFence then d.epc.fence else none } } := by
  have hobj : (d.wr EPC_LIVE_FENCE 0).objFence = d.objFence := rfl
  unfold Dev.writeFence
  dsimp only
  rw [if_neg (by decide), hobj]
  split <;> rfl

/-- While the live fence stands ING takes no input. -/
theorem Dev.ingTakes_fenced {d : Dev} {t : Nat} (h : d.epc.fence = some t) : d.ingTakes = false := by
  simp [Dev.ingTakes, h]

/-- What a group of OBJ sees of an expiry: a LIVE group has lost the fence (R116). -/
def Group.fenceLost (g : Group) : Group := if g.view = 0 then { g with expired := true, fenced := false } else g

theorem Dev.fenceExpire_due {d : Dev} {t : Nat} (hfence : d.epc.fence = some t)
    (hdue : t + 250 * d.rd EPC_FENCE_MAX ≤ d.time.ticks) : d.fenceExpire = { d.wr EPC_LIVE_FENCE 0 with
      epc := { d.epc with fence := none, expired := true }, obj := { d.obj with group := d.obj.group.map Group.fenceLost } } := by
  have hpast : d.past t (usTicks (d.rd EPC_FENCE_MAX)) = true := decide_eq_true (by rw [usTicks, Nat.mul_comm]; exact hdue)
  unfold Dev.fenceExpire
  simp only [hfence]
  rw [if_neg (by simp [hpast])]
  rfl

/-- In a register file after one write the word written reads as written. -/
theorem Dev.rd_same_of_written {d t : Dev} {a v : Nat} (h : t.reg = (d.wr a v).reg) (hv : v < 2 ^ 32) : t.rd a = v :=
  (Dev.rd_congr h a).trans (Dev.rd_wr_lt _ hv)

/-- In a register file after one write every other word reads as before it. -/
theorem Dev.rd_other_of_written {d t : Dev} {a b v : Nat} (h : t.reg = (d.wr a v).reg) (hb : b ≠ a) : t.rd b = d.rd b :=
  (Dev.rd_congr h b).trans (Dev.rd_wr_other _ _ hb)

/-! ## The statement -/

/-- Settles O28: SEAL_EXPORT by whether the descriptor was the last, the writes as pokes, and the expiry by its equation. -/
theorem exportAndLiveFence : Obligations.ExportAndLiveFence := by
  intro s r hawake
  refine ⟨fun x rest hdesc hruns hactive hroom hmirror => ⟨fun j hjob hstate hseq hrest => ?last, fun hmore => ?more⟩,
    fun v hmay => ?index, fun hmay => ?hold, fun hmay => ?release, fun t0 hfence hdue => ?expire⟩
  case last =>
    exact completes_logic _ rfl hawake (Dev.sealExport_last hdesc hruns hactive hroom hmirror hjob hstate hseq hrest)
  case more => exact completes_logic _ rfl hawake (Dev.sealExport_more hdesc hruns hactive hroom hmirror hmore)
  case index => exact completes_logic (·.poke r EPC_EXP_CONS v.toNat) rfl hawake (Dev.poke_expCons v hmay)
  case hold =>
    refine completes_logic (·.poke r EPC_LIVE_FENCE 1) rfl hawake ?_
    rw [Dev.poke_fence (by decide) hmay, Dev.writeFence_hold]
    exact ⟨rfl, rfl, Dev.rd_same_of_written rfl (by decide), rfl, Dev.ingTakes_fenced rfl, fun a => Dev.rd_other_of_written rfl⟩
  case release =>
    refine completes_logic (·.poke r EPC_LIVE_FENCE 0) rfl hawake ?_
    rw [Dev.poke_fence (by decide) hmay, Dev.writeFence_release]
    exact ⟨Dev.rd_same_of_written rfl (by decide), rfl, rfl, rfl, fun a => Dev.rd_other_of_written rfl⟩
  case expire =>
    refine completes_logic (·.fenceExpire) rfl hawake ?_
    rw [Dev.fenceExpire_due hfence hdue]
    refine ⟨rfl, rfl, Dev.rd_same_of_written rfl (by decide), rfl, fun g hgroup hlive => ⟨g.fenceLost, ?_, ?_⟩,
      fun a => Dev.rd_other_of_written rfl⟩
    · exact congrArg (Option.map Group.fenceLost) hgroup
    · rw [Group.fenceLost, if_pos hlive]
      exact ⟨rfl, rfl⟩

end Sys2Proof.Machine
end

section
/-!
SUPPORT. The tariff engine: the validation of a scheme table, and the events of switches and evaluation points.
-/
namespace Sys2Proof.Machine

/-! ## 64-bit pairs -/

theorem Dev.rd64_wr64_same (d : Dev) (a v : Nat) : (d.wr64 a v).rd64 a = v % 2 ^ 64 := by
  unfold Dev.rd64 Dev.wr64
  rw [Dev.rd_wr_other _ _ (by omega), Dev.rd_wr_same, Dev.rd_wr_same]
  omega

theorem Dev.rd_wr64_other (d : Dev) {a b : Nat} (v : Nat) (hlo : b ≠ a) (hhi : b ≠ a + 4) : (d.wr64 a v).rd b = d.rd b :=
  (Dev.rd_wr_other _ _ hhi).trans (Dev.rd_wr_other _ _ hlo)

/-! ## The validation of a table (R97) -/

/-- VALIDATE while no validation runs notes the table at TRF_TBL_ADDR. -/
theorem Dev.poke_tblCmd {d : Dev} {r : Requester} (hmay : d.mayWrite r TRF_TBL_CMD = true) (hidle : d.trf.job = none) :
    d.poke r TRF_TBL_CMD 1 = ({ d with trf := { d.trf with job := some (d.rd64 TRF_TBL_ADDR_LO) } } : Dev).answer 0 := by
  have hnamed := d.named_page (p := pTRF) (off := 0x128) (by decide) (by decide) (by decide) rfl
  have hblock : d.blockWrite r TRF_TBL_CMD 1 = .done { d with trf := { d.trf with job := some (d.rd64 TRF_TBL_ADDR_LO) } } := by
    show trfWrite d r 0x128 1 = _
    unfold trfWrite
    simp [hidle]
  refine (Dev.poke_l (a := TRF_TBL_CMD) 1 rfl rfl hnamed hmay rfl rfl rfl).trans ?_
  rw [Nat.mod_eq_of_lt (by decide : 1 < 2 ^ 32), hblock]
  rfl

/-- No validation runs any longer. -/
def Dev.tblStopped (d : Dev) : Dev := { d with trf := { d.trf with job := none } }

/-- The lowest failing scheme of the table at base, with its code and offset. -/
def Dev.tblFault (d : Dev) (base : Nat) : Option (Nat × Nat × Nat) :=
  (List.range 256).findSome? fun k => (d.checkScheme (base + 0x2000 * k)).map fun f => (k, f.1, f.2)

/-- The table at base has passed: result 0, and its address stands in TRF_TBL_OK. -/
def Dev.tblPassed (d : Dev) (base : Nat) : Dev := (d.wr TRF_TBL_STAT 0).wr64 TRF_TBL_OK_LO base

theorem Dev.rd_tblPassed_stat (d : Dev) (base : Nat) : (d.tblPassed base).rd TRF_TBL_STAT = 0 :=
  (Dev.rd_wr64_other _ _ (by decide) (by decide)).trans (Dev.rd_wr_lt _ (by decide))

theorem Dev.rd_tblPassed_other (d : Dev) (base : Nat) {a : Nat} (hstat : a ≠ TRF_TBL_STAT) (hlo : a ≠ TRF_TBL_OK_LO)
    (hhi : a ≠ TRF_TBL_OK_HI) : (d.tblPassed base).rd a = d.rd a :=
  (Dev.rd_wr64_other _ _ hlo hhi).trans (Dev.rd_wr_other _ _ hstat)

section
variable {d : Dev} {base : Nat} (hjob : d.trf.job = some base)
include hjob

theorem Dev.trfValidated_passed (hdram : inDram base 0x200000 = true) (hgood : d.tblStopped.tblFault base = none) :
    d.trfValidated = d.tblStopped.tblPassed base := by
  unfold Dev.tblFault Dev.tblStopped at hgood
  unfold Dev.trfValidated outside
  simp only [hjob, hdram, hgood, Bool.not_true, Bool.false_eq_true, if_false]
  rfl

theorem Dev.trfValidated_failed {k code off : Nat} (hdram : inDram base 0x200000 = true)
    (hbad : d.tblStopped.tblFault base = some (k, code, off)) :
    d.trfValidated = d.tblStopped.wr TRF_TBL_STAT (2 * code + 256 * k + 65536 * off) := by
  unfold Dev.tblFault Dev.tblStopped at hbad
  unfold Dev.trfValidated outside
  simp only [hjob, hdram, hbad, Bool.not_true, Bool.false_eq_true, if_false]
  rfl

/-- A table outside DRAM fails with RANGE at its first byte. -/
theorem Dev.trfValidated_outside (hout : inDram base 0x200000 = false) : d.trfValidated = d.tblStopped.wr TRF_TBL_STAT 6 := by
  unfold Dev.trfValidated outside
  simp only [hjob, hout, Bool.not_false, if_true]
  rfl

end

/-! ## The switch map (R109) -/

/-- Scheme k's bit of TRF_SWITCH_MAP is set. -/
def Dev.markSwitch (d : Dev) (k : Nat) : Dev := d.wr (TRF_SWITCH_MAP (k / 32)) (d.rd (TRF_SWITCH_MAP (k / 32)) ||| 2 ^ (k % 32))

/-- Scheme k's bit of TRF_SWITCH_MAP. -/
def Dev.switchMark (d : Dev) (k : Nat) : Bool := (d.rd (TRF_SWITCH_MAP (k / 32))).testBit (k % 32)

theorem Dev.rd_markSwitch_same (d : Dev) (k : Nat) :
    (d.markSwitch k).rd (TRF_SWITCH_MAP (k / 32)) = d.rd (TRF_SWITCH_MAP (k / 32)) ||| 2 ^ (k % 32) :=
  Dev.rd_wr_lt _ (Nat.or_lt_two_pow (d.rd_lt _) (Nat.pow_lt_pow_right (by decide) (Nat.mod_lt _ (by decide))))

theorem Dev.switchMark_markSwitch_same (d : Dev) (k : Nat) : (d.markSwitch k).switchMark k = true := by
  unfold Dev.switchMark
  rw [Dev.rd_markSwitch_same, Nat.testBit_or, Nat.testBit_two_pow_self, Bool.or_true]

/-- A mark that stands is not taken away by another. -/
theorem Dev.switchMark_markSwitch_of_marked {d : Dev} {k : Nat} (j : Nat) (h : d.switchMark k = true) :
    (d.markSwitch j).switchMark k = true := by
  unfold Dev.switchMark at h ⊢
  by_cases hword : k / 32 = j / 32
  · rw [hword] at h ⊢
    rw [Dev.rd_markSwitch_same, Nat.testBit_or, h, Bool.true_or]
  · have hother : TRF_SWITCH_MAP (k / 32) ≠ TRF_SWITCH_MAP (j / 32) := fun hsame =>
      hword (Nat.eq_of_mul_eq_mul_left (by decide) (Nat.add_left_cancel hsame))
    rw [Dev.markSwitch, Dev.rd_wr_other _ _ hother]
    exact h

/-- Marking a list marks each of its schemes. -/
theorem Dev.switchMark_each_of_mem {l : List Nat} {k : Nat} (hk : k ∈ l) (d : Dev) : (d.each l Dev.markSwitch).switchMark k = true := by
  induction hk generalizing d with
  | head t => exact Dev.each_keeps (fun e j => e.switchMark_markSwitch_of_marked j) t _ (d.switchMark_markSwitch_same k)
  | tail j _ ih => exact ih (d.markSwitch j)

/-- Marking changes registers alone. -/
theorem Dev.each_markSwitch_frame (d : Dev) (l : List Nat) :
    (d.each l Dev.markSwitch).trf = d.trf ∧ (d.each l Dev.markSwitch).mem = d.mem ∧ (d.each l Dev.markSwitch).evq = d.evq :=
  Dev.each_keeps (f := Dev.markSwitch) (P := fun t => t.trf = d.trf ∧ t.mem = d.mem ∧ t.evq = d.evq) (fun _ _ h => h) l d
    ⟨rfl, rfl, rfl⟩

/-- TRF's pending word lies outside the switch map, so an event of TRF leaves the map as it is. -/
theorem Dev.switchMark_raise (d : Dev) (b k : Nat) : (d.raise pTRF b).switchMark k = d.switchMark k := by
  unfold Dev.switchMark
  have hbelow : PG_EVT_PEND pTRF < TRF_SWITCH_MAP (k / 32) := Nat.lt_of_lt_of_le (by decide) (Nat.le_add_right _ _)
  rw [Dev.rd_raise_other _ _ _ (Nat.ne_of_gt hbelow)]

/-! ## Switches (R99, R109) -/

/-- The schemes in use of which a period has ended since the last TRF_SWITCH. -/
def Dev.switchesDue (d : Dev) : List Nat :=
  d.schemesInUse.filter fun k => !(d.switches (d.scheme d.ext k) d.trf.switchDone d.ext).isEmpty

/-- Switches are done up to the present. -/
def Dev.switchesDone (d : Dev) : Dev := { d with trf := { d.trf with switchDone := d.ext } }

theorem Dev.trfSwitch_none {d : Dev} (hruns : d.runs pTRF = true) (hdue : d.switchesDue = []) : d.trfSwitch = d := by
  unfold Dev.switchesDue at hdue
  unfold Dev.trfSwitch
  simp [hruns, hdue]

section
variable {d : Dev} (hruns : d.runs pTRF = true) (hdue : d.switchesDue ≠ [])
include hruns hdue

/-- While the class is INVALID neither a mark nor an event comes of a switch. -/
theorem Dev.trfSwitch_invalid (hcls : d.cls = .invalid) : d.trfSwitch = d.switchesDone := by
  unfold Dev.trfSwitch
  rw [if_neg (by simp [hruns])]
  exact (if_neg (mt List.isEmpty_iff.mp hdue)).trans (if_pos hcls)

theorem Dev.trfSwitch_valid (hcls : d.cls ≠ .invalid) :
    d.trfSwitch = (d.switchesDone.each d.switchesDue Dev.markSwitch).raise pTRF 0 := by
  unfold Dev.trfSwitch
  rw [if_neg (by simp [hruns])]
  exact (if_neg (mt List.isEmpty_iff.mp hdue)).trans (if_neg hcls)

end

/-! ## Evaluation points (R102, R109) -/

/-- Evaluation points are done up to the present. -/
def Dev.demandsDone (d : Dev) : Dev := { d with trf := { d.trf with demandDone := d.ext } }

theorem Dev.trfDemandEnd_passed {d : Dev} (hruns : d.runs pTRF = true)
    (hpast : ∃ k ∈ d.schemesInUse, d.evalCount (d.scheme d.ext k) d.trf.demandDone < d.evalCount (d.scheme d.ext k) d.ext) :
    d.trfDemandEnd = d.demandsDone.raise pTRF 2 := by
  unfold Dev.trfDemandEnd
  rw [if_neg (by simp [hruns])]
  exact if_pos (by simpa using hpast)

/-! ## The statement -/

/-- Settles O29: each command is its equation above, and what stands after it is read off. -/
theorem tariffCommands : Obligations.TariffCommands := by
  intro s r hawake
  refine ⟨fun hmay hidle => ?start, fun base hjob => ⟨fun hdram hgood => ?passed, fun k code off hdram hbad => ?failed,
    fun hout => ?outside⟩, fun hruns => ⟨fun hdue => ?switch, fun hnone => ?still, fun hpast => ?demand⟩⟩
  case start => exact completes_logic (·.poke r TRF_TBL_CMD 1) rfl hawake (Dev.poke_tblCmd hmay hidle)
  case passed =>
    refine completes_logic (·.trfValidated) rfl hawake ?_
    rw [Dev.trfValidated_passed hjob hdram hgood]
    exact ⟨rfl, Dev.rd_tblPassed_stat .., Dev.rd64_wr64_same .., rfl, fun a => Dev.rd_tblPassed_other _ _⟩
  case failed => exact completes_logic _ rfl hawake (Dev.trfValidated_failed hjob hdram hbad)
  case outside => exact completes_logic _ rfl hawake (Dev.trfValidated_outside hjob hout)
  case switch =>
    refine completes_logic (·.trfSwitch) rfl hawake ?_
    by_cases hcls : s.dev.cls = .invalid
    · rw [Dev.trfSwitch_invalid hruns hdue hcls]
      exact ⟨rfl, rfl, fun _ => ⟨rfl, rfl⟩, fun hvalid => absurd hcls hvalid⟩
    · rw [Dev.trfSwitch_valid hruns hdue hcls]
      obtain ⟨htrf, hmem, hevq⟩ := s.dev.switchesDone.each_markSwitch_frame s.dev.switchesDue
      obtain ⟨x, hx, hevent, -, -⟩ := Dev.evq_raise (s.dev.switchesDone.each s.dev.switchesDue Dev.markSwitch) pTRF 0
      refine ⟨?_, ?_, fun hinvalid => absurd hinvalid hcls, fun _ => ⟨⟨x, ?_, hevent⟩, fun k hk => ?_⟩⟩
      · rw [Dev.raise_trf, htrf]; rfl
      · rw [Dev.raise_mem, hmem]; rfl
      · rw [hx, hevq]; rfl
      · exact (Dev.switchMark_raise ..).trans (Dev.switchMark_each_of_mem hk _)
  case still => exact completes_logic _ rfl hawake (Dev.trfSwitch_none hruns hnone)
  case demand =>
    refine completes_logic (·.trfDemandEnd) rfl hawake ?_
    rw [Dev.trfDemandEnd_passed hruns hpast]
    obtain ⟨x, hx, hevent, -, -⟩ := Dev.evq_raise s.dev.demandsDone pTRF 2
    exact ⟨by rw [Dev.raise_trf]; rfl, Dev.raise_mem .., ⟨x, hx, hevent⟩, fun a => Dev.rd_raise_other _ _ _⟩

end Sys2Proof.Machine
end

section
/-!
SUPPORT. The object engine: the validation of a rights table, and the response ring's consumer index.
-/
namespace Sys2Proof.Machine

/-! ## Writes to a register of class L -/

section
variable {d : Dev} {r : Requester} {a i : Nat} {x : RegDesc} (v : Word) (hregs : inRegs a = true) (haligned : a % 4 = 0)
  (hnamed : d.named a = .live x i) (hmay : d.mayWrite r a = true) (hclass : x.clsAt a = .l) (hlo : x.marks.contains .lo = false)
  (hhi : x.marks.contains .hi = false)
include hregs haligned hnamed hmay hclass hlo hhi

/-- What the block makes of the word stands. -/
theorem Dev.poke_l_done {e : Dev} (hblock : d.blockWrite r a v.toNat = .done e) : d.poke r a v.toNat = e.answer 0 := by
  rw [Dev.poke_l v.toNat hregs haligned hnamed hmay hclass hlo hhi, Nat.mod_eq_of_lt v.isLt, hblock, Dev.stored_done, Dev.written_done]

/-- A word that the block leaves alone is stored, where every bit of the register is implemented. -/
theorem Dev.poke_l_plain (hmask : x.mask = 2 ^ 32 - 1) (hblock : d.blockWrite r a v.toNat = .plain) :
    d.poke r a v.toNat = (d.wr a v.toNat).answer 0 := by
  rw [Dev.poke_l v.toNat hregs haligned hnamed hmay hclass hlo hhi, Nat.mod_eq_of_lt v.isLt, hblock, Dev.stored_plain, Dev.written_done,
    hmask, Nat.and_two_pow_sub_one_eq_mod, Nat.mod_eq_of_lt v.isLt]

end

/-! ## The start of a validation, and the consumer index (R118, R120) -/

/-- VALIDATE while no validation runs notes the table at OBJ_TBL_ADDR. -/
theorem Dev.poke_objTblCmd {d : Dev} {r : Requester} (hmay : d.mayWrite r OBJ_TBL_CMD = true) (hidle : d.obj.job = none) :
    d.poke r OBJ_TBL_CMD 1 = ({ d with obj := { d.obj with job := some (d.rd64 OBJ_TBL_ADDR_LO) } } : Dev).answer 0 := by
  have hnamed := d.named_page (p := pOBJ) (off := 0x168) (by decide) (by decide) (by decide) rfl
  have hblock : d.blockWrite r OBJ_TBL_CMD 1 = .done { d with obj := { d.obj with job := some (d.rd64 OBJ_TBL_ADDR_LO) } } := by
    show objWrite d 0x168 1 = _
    unfold objWrite
    simp [hidle]
  exact Dev.poke_l_done (a := OBJ_TBL_CMD) 1 rfl rfl hnamed hmay rfl rfl rfl hblock

/-- A write of OBJ_RSP_CONS stores the index. -/
theorem Dev.poke_rspCons {d : Dev} {r : Requester} (v : Word) (hmay : d.mayWrite r OBJ_RSP_CONS = true) :
    d.poke r OBJ_RSP_CONS v.toNat = (d.wr OBJ_RSP_CONS v.toNat).answer 0 := by
  have hnamed := d.named_page (p := pOBJ) (off := 0x140) (by decide) (by decide) (by decide) rfl
  exact Dev.poke_l_plain (a := OBJ_RSP_CONS) v rfl rfl hnamed hmay rfl rfl rfl rfl rfl

/-! ## The end of a validation (R118) -/

/-- No validation of a rights table runs any longer. -/
def Dev.rightsStopped (d : Dev) : Dev := { d with obj := { d.obj with job := none } }

/-- The fault of byte k of the rights table at base: 0 none, 1 RANGE, 2 KIND. -/
def Dev.rightsFaultAt (d : Dev) (base k : Nat) : Nat := rightsFault k (d.ld (base + k) 1)

/-- The offset of the first faulty byte of the rights table at base. -/
def Dev.firstRightsFault (d : Dev) (base : Nat) : Option Nat := (List.range 16384).find? fun k => d.rightsFaultAt base k != 0

theorem Dev.firstRightsFault_none {d : Dev} {base : Nat} (h : ∀ k < 16384, ¬ d.rightsFaultAt base k ≠ 0) :
    d.firstRightsFault base = none :=
  List.find?_eq_none.mpr fun k hk => by simpa using h k (List.mem_range.mp hk)

theorem Dev.firstRightsFault_some {d : Dev} {base k : Nat} (hk : k < 16384) (hbad : d.rightsFaultAt base k ≠ 0)
    (hfirst : ∀ j < k, ¬ d.rightsFaultAt base j ≠ 0) : d.firstRightsFault base = some k := by
  refine List.find?_range_eq_some.mpr ⟨by simpa using hbad, List.mem_range.mpr hk, fun j hj => ?_⟩
  simpa using hfirst j hj

/-- The rights table at base has passed: result 0, and its address stands in OBJ_TBL_OK. -/
def Dev.rightsPassed (d : Dev) (base : Nat) : Dev := (d.wr OBJ_TBL_STAT 0).wr64 OBJ_TBL_OK_LO base

theorem Dev.rd_rightsPassed_stat (d : Dev) (base : Nat) : (d.rightsPassed base).rd OBJ_TBL_STAT = 0 :=
  (Dev.rd_wr64_other _ _ (by decide) (by decide)).trans (Dev.rd_wr_lt _ (by decide))

theorem Dev.rd_rightsPassed_other (d : Dev) (base : Nat) {a : Nat} (hstat : a ≠ OBJ_TBL_STAT) (hlo : a ≠ OBJ_TBL_OK_LO)
    (hhi : a ≠ OBJ_TBL_OK_HI) : (d.rightsPassed base).rd a = d.rd a :=
  (Dev.rd_wr64_other _ _ hlo hhi).trans (Dev.rd_wr_other _ _ hstat)

section
variable {d : Dev} {base : Nat} (hjob : d.obj.job = some base)
include hjob

theorem Dev.objValidated_passed (hdram : inDram base 16384 = true) (hgood : d.rightsStopped.firstRightsFault base = none) :
    d.objValidated = d.rightsStopped.rightsPassed base := by
  unfold Dev.firstRightsFault Dev.rightsFaultAt Dev.rightsStopped at hgood
  unfold Dev.objValidated outside
  simp only [hjob, hdram, hgood, Bool.not_true, Bool.false_eq_true, if_false]
  rfl

theorem Dev.objValidated_failed {k : Nat} (hdram : inDram base 16384 = true)
    (hbad : d.rightsStopped.firstRightsFault base = some k) :
    d.objValidated = d.rightsStopped.wr OBJ_TBL_STAT (2 * d.rightsStopped.rightsFaultAt base k + 16 * k) := by
  unfold Dev.firstRightsFault Dev.rightsFaultAt Dev.rightsStopped at hbad
  unfold Dev.objValidated outside
  simp only [hjob, hdram, hbad, Bool.not_true, Bool.false_eq_true, if_false]
  rfl

/-- A table outside DRAM fails with RANGE at its first byte. -/
theorem Dev.objValidated_outside (hout : inDram base 16384 = false) : d.objValidated = d.rightsStopped.wr OBJ_TBL_STAT 2 := by
  unfold Dev.objValidated outside
  simp only [hjob, hout, Bool.not_false, if_true]
  rfl

end

/-! ## The statement -/

/-- Settles O31: the two writes are pokes, and the end of a validation is one of its three equations. -/
theorem objectTableAndResponses : Obligations.ObjectTableAndResponses := by
  intro s r hawake
  refine ⟨fun hmay hidle => ?start, fun base hjob => ⟨fun hdram hgood => ?passed, fun k hdram hk hbad hfirst => ?failed,
    fun hout => ?outside⟩, fun v hmay => ?index⟩
  case start => exact completes_logic (·.poke r OBJ_TBL_CMD 1) rfl hawake (Dev.poke_objTblCmd hmay hidle)
  case passed =>
    refine completes_logic (·.objValidated) rfl hawake ?_
    rw [Dev.objValidated_passed hjob hdram (Dev.firstRightsFault_none (d := s.dev.rightsStopped) hgood)]
    exact ⟨rfl, Dev.rd_rightsPassed_stat .., Dev.rd64_wr64_same .., rfl, fun a => Dev.rd_rightsPassed_other _ _⟩
  case failed =>
    have hfault := Dev.firstRightsFault_some (d := s.dev.rightsStopped) hk hbad hfirst
    exact completes_logic _ rfl hawake (Dev.objValidated_failed hjob hdram hfault)
  case outside => exact completes_logic _ rfl hawake (Dev.objValidated_outside hjob hout)
  case index => exact completes_logic (·.poke r OBJ_RSP_CONS v.toNat) rfl hawake (Dev.poke_rspCons v hmay)

end Sys2Proof.Machine
end

section
/-!
SUPPORT. The object engine: how the oldest request is taken, decided, served and answered.
-/
namespace Sys2Proof.Machine

/-! ## What serving leaves alone -/

@[simp] theorem Dev.stBytes_obj (d : Dev) (a : Nat) (bs : Bytes) : (d.stBytes a bs).obj = d.obj := by
  obtain ⟨m, hm⟩ := d.stBytes_frame a bs
  rw [hm]

@[simp] theorem Dev.mirror_obj (d : Dev) (i : ArmItem) : (d.mirror i).obj = d.obj := by unfold Dev.mirror; split <;> rfl

@[simp] theorem Dev.audit_obj (d : Dev) (q : Req) (deny : Bool) : (d.audit q deny).obj = d.obj := by
  unfold Dev.audit
  split
  · rfl
  · simp

@[simp] theorem Dev.deny_obj (d : Dev) (q : Req) (r : Nat) : (d.deny q r).obj = d.obj := by
  unfold Dev.deny Dev.iff
  dsimp only
  split <;> simp

@[simp] theorem Dev.respond_obj (d : Dev) (q : Req) (res seq n : Nat) : (d.respond q res seq n).obj = d.obj := by simp [Dev.respond]

@[simp] theorem Dev.setEntryState_obj (d : Dev) (h : Hit) (st : Nat) : (d.setEntryState h st).obj = d.obj :=
  (Dev.stBytes_obj ..).trans (Dev.stBytes_obj ..)

/-- A registry command on an entry leaves OBJ as it is. -/
theorem Dev.regOnEntry_obj (d : Dev) (k addr : Nat) : (d.regOnEntry k addr).1.obj = d.obj := by
  cases hfound : d.lookup addr with
  | none => rw [Dev.regOnEntry_absent k hfound]
  | some h =>
    rw [Dev.regOnEntry_found hfound]
    repeat' split
    all_goals simp [Dev.setReseq]

theorem Dev.regCommand_obj (d : Dev) {k : Nat} (addr : Nat) (hlo : 2 ≤ k) (hhi : k ≤ 6) : (d.regCommand k addr).1.obj = d.obj := by
  cases hcfg : ingCfgInvalid d with
  | true => rw [Dev.regCommand_invalid k addr hcfg]
  | false => rw [Dev.regCommand_entry addr hcfg hlo hhi, Dev.regOnEntry_obj]

@[simp] theorem Dev.balAck_obj (d : Dev) (v : Nat) : (d.balAck v).obj = d.obj := by
  unfold Dev.balAck Dev.ackSides
  rw [Dev.mirror_obj]
  dsimp only
  split <;> rfl

/-! ## Taking the oldest request (R119, R120) -/

/-- OBJ may take the oldest request: no group is being served, the request is of none, and its operation and view are known. -/
structure Dev.ReqReady (d : Dev) : Prop where
  starts : d.starts pOBJ = true
  valid : objCfgInvalid d = false
  powered : d.pwr.pfActive = false
  room : d.rspFull = false
  ring : d.reqLog ≠ 0
  waiting : d.reqCount ≠ 0
  alone : d.obj.group = none
  ungrouped : (d.reqAt 0).group = 0
  firstOp : 1 ≤ (d.reqAt 0).op
  lastOp : (d.reqAt 0).op ≤ 3
  view : (d.reqAt 0).view ≤ 1

/-- The oldest request is off the ring. -/
def Dev.reqTaken (d : Dev) : Dev :=
  let c := d.wr OBJ_REQ_CONS (d.rd OBJ_REQ_CONS + 1)
  { c with obj := { c.obj with arrivals := c.obj.arrivals.tail } }

/-- When the oldest request arrived. -/
def Dev.reqArrival (d : Dev) : Nat := d.obj.arrivals.headD d.ext

/-- The sealed sequence of a request outside a group (R115). -/
def Dev.sealedSeq (d : Dev) (q : Req) : Nat := if q.viewSeq = 0 then d.lastSeal else q.viewSeq

/-- What the decision makes of the oldest request (R119). -/
def Dev.reqDecided (d : Dev) : Obj ⊕ Nat := d.reqTaken.decideReq d.reqArrival (d.reqAt 0)

/-- The oldest request is counted as granted (R122). -/
def Dev.reqGranted (d : Dev) : Dev := d.reqTaken.bump (OBJ_GRANT_COUNT (d.reqAt 0).role)

/-- What the oldest request came to. -/
def Dev.oldestServed (d : Dev) : Served := d.reqTaken.runReq d.reqArrival (d.reqAt 0) (d.sealedSeq (d.reqAt 0))

/-- The answer to what a request outside a group came to; s is its sealed sequence. -/
def Served.answered (x : Served) (q : Req) (s : Nat) : Dev :=
  (x.dev.iff (x.result == oVIEW_UNAVAILABLE) (·.bump OBJ_UNAVAIL_COUNT)).respond q x.result (x.dev.reqSeq q s) x.written

/-- The counts, the response and the end of the group that follow what a request came to. -/
def Served.concluded (x : Served) (q : Req) (s : Nat) : Dev :=
  let d := x.dev.iff (x.result == oRETRY) (·.bump OBJ_RETRY_COUNT)
  let d := d.iff (x.result == oVIEW_UNAVAILABLE) (·.bump OBJ_UNAVAIL_COUNT)
  (d.respond q x.result (d.reqSeq q s) x.written).leaveGroup

@[simp] theorem Dev.iff_bump_obj (d : Dev) (c : Bool) (a : Nat) : (d.iff c (·.bump a)).obj = d.obj := by cases c <;> rfl

/-- Counting an unavailable view leaves the live sequence as it is. -/
theorem Dev.reqSeq_unavailCounted (d : Dev) (c : Bool) (q : Req) (s : Nat) :
    (d.iff c (·.bump OBJ_UNAVAIL_COUNT)).reqSeq q s = d.reqSeq q s := by
  cases c with
  | false => rfl
  | true =>
    rw [Dev.iff_true]
    unfold Dev.reqSeq Dev.bump
    rw [Dev.rd64_wr_other _ _ (by decide) (by decide)]

theorem Dev.leaveGroup_alone {d : Dev} (h : d.obj.group = none) : d.leaveGroup = d := by
  unfold Dev.leaveGroup
  simp only [h]

/-- Outside a group nothing but the answer follows, unless the request is to be asked again. -/
theorem Served.concluded_alone {x : Served} (q : Req) (s : Nat) (hretry : x.result ≠ oRETRY) (halone : x.dev.obj.group = none) :
    x.concluded q s = x.answered q s := by
  unfold Served.concluded Served.answered
  dsimp only
  rw [beq_false_of_ne hretry, Dev.iff_false, Dev.reqSeq_unavailCounted]
  exact Dev.leaveGroup_alone (by rw [Dev.respond_obj, Dev.iff_bump_obj, halone])

/-- The oldest request, outside a group and of the row's kind, is taken, decided and concluded. -/
theorem Dev.objTake_ready {d : Dev} {row : ObjRow} (hready : d.ReqReady) (hrow : (d.reqAt 0).row = row) :
    d.objTake row = d.oldestServed.concluded (d.reqAt 0) (d.sealedSeq (d.reqAt 0)) := by
  have hopen : ¬ (!(d.starts pOBJ || (d.continues pOBJ && d.obj.group.isSome)) || objCfgInvalid d || d.pwr.pfActive || d.rspFull ||
      d.reqLog == 0 || d.reqCount == 0) = true := by
    simp [hready.starts, hready.valid, hready.powered, hready.room, hready.ring, hready.waiting]
  unfold Dev.objTake
  rw [if_neg hopen]
  simp only [hrow, hready.ungrouped, hready.alone, ne_eq, not_true_eq_false, if_false, bne_self_eq_false, Dev.iff_false]
  rfl

/-! ## The row of a request -/

theorem opGET_ne_opSET : opGET ≠ opSET := by decide
theorem opGET_ne_opACTION : opGET ≠ opACTION := by decide
theorem opSET_ne_opGET : opSET ≠ opGET := by decide
theorem opACTION_ne_opGET : opACTION ≠ opGET := by decide
theorem opACTION_ne_opSET : opACTION ≠ opSET := by decide

theorem Req.row_get {q : Req} (hop : q.op = opGET) : q.row = .get := by
  simp only [Req.row, hop, opGET_ne_opSET, opGET_ne_opACTION, false_and, if_false]

theorem Req.row_set {q : Req} (hop : q.op = opSET) : q.row = .set := if_pos hop

/-- The row of an ACTION goes by its class and method. -/
theorem Req.row_action {q : Req} (hop : q.op = opACTION) : q.row =
    if q.cls = 5 ∧ q.id = 1 then .suspend
    else if q.cls = 5 ∧ q.id = 2 then .resume
    else if q.cls = 5 ∧ q.id = 3 then .reseq
    else if q.cls = 7 then .ack
    else .get := by
  simp only [Req.row, hop, opACTION_ne_opSET, true_and, if_false]

theorem Req.row_suspend (q : Req) (hop : q.op = opACTION) (hcls : q.cls = 5) (hid : q.id = 1) : q.row = .suspend :=
  (Req.row_action hop).trans (if_pos ⟨hcls, hid⟩)

theorem Req.row_resume (q : Req) (hop : q.op = opACTION) (hcls : q.cls = 5) (hid : q.id = 2) : q.row = .resume := by
  rw [Req.row_action hop, if_neg (by omega), if_pos ⟨hcls, hid⟩]

theorem Req.row_reseq (q : Req) (hop : q.op = opACTION) (hcls : q.cls = 5) (hid : q.id = 3) : q.row = .reseq := by
  rw [Req.row_action hop, if_neg (by omega), if_neg (by omega), if_pos ⟨hcls, hid⟩]

theorem Req.row_ack {q : Req} (hop : q.op = opACTION) (hcls : q.cls = 7) : q.row = .ack := by
  rw [Req.row_action hop, if_neg (by omega), if_neg (by omega), if_neg (by omega), if_pos hcls]

/-! ## What a request comes to (R119) -/

/-- A SET or an ACTION that went through leaves its audit record (R122). -/
def Served.audited (x : Served) (q : Req) : Served := if x.result = oOK then { x with dev := x.dev.audit q false } else x

theorem Served.audited_ok (d : Dev) (q : Req) (n : Nat) : Served.audited ⟨d, oOK, n⟩ q = ⟨d.audit q false, oOK, n⟩ := if_pos rfl

theorem Served.audited_refused {d : Dev} {q : Req} {r n : Nat} (h : r ≠ oOK) : Served.audited ⟨d, r, n⟩ q = ⟨d, r, n⟩ := if_neg h

theorem Dev.groupResult_alone {d : Dev} (h : d.obj.group = none) : d.groupResult = none := by
  unfold Dev.groupResult
  simp only [h]

section
variable {d : Dev} (hready : d.ReqReady)
include hready

theorem Dev.ReqReady.known : ¬ ((d.reqAt 0).op < 1 ∨ 3 < (d.reqAt 0).op ∨ 1 < (d.reqAt 0).view) := by
  have hfirst := hready.firstOp
  have hlast := hready.lastOp
  have hview := hready.view
  omega

theorem Dev.ReqReady.single : d.reqTaken.groupResult = none := Dev.groupResult_alone hready.alone

/-- A request that the decision refuses comes to its reason; a denial is counted (R122). -/
theorem Dev.oldestServed_refused {r : Nat} (hdecided : d.reqDecided = .inr r) : d.oldestServed =
    ⟨d.reqTaken.iff (r == oDENIED_RIGHT || r == oDENIED_PROTECTION || r == oDENIED_LIFECYCLE) (·.deny (d.reqAt 0) r), r, 0⟩ := by
  unfold Dev.reqDecided at hdecided
  unfold Dev.oldestServed Dev.runReq
  rw [if_neg hready.known]
  simp only [hready.single, hdecided, reduceCtorEq, or_self, if_false]

/-- A request that the decision lets through is served by its operation; a SET or an ACTION that went through is audited. -/
theorem Dev.oldestServed_granted {o : Obj} (hdecided : d.reqDecided = .inl o) : d.oldestServed =
    if (d.reqAt 0).op = opGET then d.reqGranted.serveGet (d.reqAt 0) o (d.sealedSeq (d.reqAt 0))
    else if (d.reqAt 0).op = opSET then (d.reqGranted.serveSet (d.reqAt 0) o).audited (d.reqAt 0)
    else (d.reqGranted.serveAction (d.reqAt 0) o).audited (d.reqAt 0) := by
  unfold Dev.reqDecided at hdecided
  unfold Dev.oldestServed Dev.runReq Dev.reqGranted Served.audited
  rw [if_neg hready.known]
  by_cases hget : (d.reqAt 0).op = opGET
  · simp only [hready.single, hdecided, hget, reduceCtorEq, or_self, if_false, if_true, Option.isSome_none, Bool.false_eq_true,
      ne_eq, not_true_eq_false, false_and]
  · by_cases hset : (d.reqAt 0).op = opSET
    · simp only [hready.single, hdecided, hset, opSET_ne_opGET, reduceCtorEq, or_self, if_false, if_true, Option.isSome_none,
        Bool.false_eq_true, ne_eq, not_false_eq_true, true_and]
    · simp only [hready.single, hdecided, hget, hset, reduceCtorEq, or_self, if_false, Option.isSome_none, Bool.false_eq_true,
        ne_eq, not_false_eq_true, true_and]

end

/-! ## Service (R115, R120) -/

theorem Dev.objDeliver_fits {d : Dev} {q : Req} {b : Bytes} (hlen : b.length ≤ q.dataLen) (hdram : inDram q.dataAddr b.length = true) :
    d.objDeliver q b = ⟨d.stBytes q.dataAddr b, oOK, b.length⟩ := by
  unfold Dev.objDeliver
  rw [if_neg (by omega), if_neg (by simp [hdram])]

theorem Dev.serveGet_live {d : Dev} {q : Req} {o : Obj} {b : Bytes} (s : Nat) (hview : q.view = 0) (hbytes : d.liveAttr q o = some b)
    (hknown : ¬ (q.cls = 3 ∧ q.id = 6)) : d.serveGet q o s = d.objDeliver q b := by
  have hfree : (q.cls == 3 && q.id == 6) = false := by simpa using hknown
  unfold Dev.serveGet
  rw [if_pos hview]
  simp only [hbytes, hfree, Dev.iff_false]

theorem Dev.serveGet_unavailable {d : Dev} {q : Req} {o : Obj} (s : Nat) (hview : q.view = 0) (hnone : d.liveAttr q o = none) :
    d.serveGet q o s = ⟨d, oVIEW_UNAVAILABLE, 0⟩ := by
  unfold Dev.serveGet
  rw [if_pos hview]
  simp only [hnone]

theorem Dev.serveGet_sealed {d : Dev} {q : Req} {o : Obj} {b : Bytes} {s : Nat} (hview : q.view = 1)
    (hbytes : d.sealedAttr q o s = .inl b) : d.serveGet q o s = d.objDeliver q b := by
  unfold Dev.serveGet
  rw [if_neg (by omega)]
  simp only [hbytes]

theorem Dev.serveSet_sealed {d : Dev} {q : Req} (o : Obj) (hview : q.view = 1) : d.serveSet q o = ⟨d, oREAD_ONLY_VIEW, 0⟩ := by
  unfold Dev.serveSet
  rw [if_pos (by omega)]

/-- How many bytes a SET takes from the buffer: a demand's value is 8 bytes long, of which its register keeps fewer (R113). -/
def Req.wanted (q : Req) (n : Nat) : Nat := if q.cls = 4 ∧ q.id = 2 then 8 else n

theorem Dev.serveSet_stored {d : Dev} {q : Req} {o : Obj} {a n : Nat} (hview : q.view = 0) (hstored : d.storedAt q o = some (a, n))
    (hlen : q.wanted n ≤ q.dataLen) (hdram : inDram q.dataAddr (q.wanted n) = true) :
    d.serveSet q o = ⟨d.stBytes a (d.ldBytes q.dataAddr n), oOK, q.wanted n⟩ := by
  unfold Req.wanted at hlen hdram ⊢
  unfold Dev.serveSet
  rw [if_neg (by omega)]
  simp only [hstored]
  rw [if_neg (by omega), if_neg (by simp [hdram])]

theorem Dev.methodRegistry_free {d : Dev} {q : Req} (cmd : Nat) (hview : q.view = 0) (hidle : d.ing.cmd = 0)
    (hlock : d.regLocked = false) :
    d.methodRegistry q cmd = ⟨(d.regCommand cmd q.target).1.mirror (.regCmd cmd 0 0 q.target), oOK, 0⟩ := by
  unfold Dev.methodRegistry
  rw [if_neg (by omega), if_neg (by simp [hidle, hlock])]

theorem Dev.methodAck_zone {d : Dev} {q : Req} (z : Nat) (hview : q.view = 0) (hlen : 1 ≤ q.dataLen) :
    d.methodAck q z = ⟨d.balAck (z + 65536 * (d.ld q.dataAddr 1 % 8)), oOK, 0⟩ := by
  unfold Dev.methodAck
  rw [if_neg (by omega), if_neg (by omega)]

/-- An object method that is a registry command: the instruction that serves it, its row, its number and the command (R114). -/
structure RegMethod (i : Instr) (row : ObjRow) (id cmd : Nat) : Prop where
  exec : ∀ s, exec i s = s.logic (·.objTake row)
  row : ∀ q : Req, q.op = opACTION → q.cls = 5 → q.id = id → q.row = row
  serve : ∀ (d : Dev) (q : Req) (e : Nat), q.id = id → d.serveAction q (.endpoint e) = d.methodRegistry q cmd
  command : 2 ≤ cmd ∧ cmd ≤ 6

theorem regMethod_of_mem : ∀ k ∈ [(Instr.objSuspend, 1, cmdSUSPEND), (Instr.objResume, 2, cmdRESUME), (Instr.objReseq, 3, cmdRESEQ)],
    ∃ row, RegMethod k.1 row k.2.1 k.2.2 := by
  intro k hk
  simp only [List.mem_cons, List.not_mem_nil, or_false] at hk
  rcases hk with rfl | rfl | rfl
  · exact ⟨.suspend, fun _ => rfl, Req.row_suspend, fun d q e hid => by simp [Dev.serveAction, hid], by decide⟩
  · exact ⟨.resume, fun _ => rfl, Req.row_resume, fun d q e hid => by simp [Dev.serveAction, hid], by decide⟩
  · exact ⟨.reseq, fun _ => rfl, Req.row_reseq, fun d q e hid => by simp [Dev.serveAction, hid], by decide⟩

/-! ## The statement -/

/-- The answer to the oldest request. -/
def Served.toOldest (x : Served) (d : Dev) : Dev := x.answered (d.reqAt 0) (d.sealedSeq (d.reqAt 0))

section
variable {s : State} (hawake : Awake s) (hready : s.dev.ReqReady)
include hawake hready

/-- A command that serves the oldest request completes with the answer to what the request came to. -/
theorem completes_objTake {i : Instr} {row : ObjRow} {x : Dev} {res n : Nat} (hexec : exec i s = s.logic (·.objTake row))
    (hrow : (s.dev.reqAt 0).row = row) (hx : s.dev.oldestServed = ⟨x, res, n⟩) (hretry : res ≠ oRETRY)
    (hobj : x.obj = s.dev.reqTaken.obj) : Completes i s (· = Served.toOldest ⟨x, res, n⟩ s.dev) := by
  refine completes_logic _ hexec hawake ?_
  have halone : x.obj.group = none := (congrArg ObjSt.group hobj).trans hready.alone
  rw [Dev.objTake_ready hready hrow, hx, Served.concluded_alone _ _ hretry halone, Served.toOldest]

section
variable {o : Obj} {x : Dev} {res n : Nat} (hretry : res ≠ oRETRY) (hobj : x.obj = s.dev.reqGranted.obj)
  (hdecided : s.dev.reqDecided = .inl o)
include hretry hobj hdecided

theorem completes_objGet (hop : (s.dev.reqAt 0).op = opGET)
    (hx : s.dev.reqGranted.serveGet (s.dev.reqAt 0) o (s.dev.sealedSeq (s.dev.reqAt 0)) = ⟨x, res, n⟩) :
    Completes .objGet s (· = Served.toOldest ⟨x, res, n⟩ s.dev) :=
  completes_objTake hawake hready rfl (Req.row_get hop)
    ((Dev.oldestServed_granted hready hdecided).trans ((if_pos hop).trans hx)) hretry hobj

theorem completes_objSet (hop : (s.dev.reqAt 0).op = opSET)
    (hx : (s.dev.reqGranted.serveSet (s.dev.reqAt 0) o).audited (s.dev.reqAt 0) = ⟨x, res, n⟩) :
    Completes .objSet s (· = Served.toOldest ⟨x, res, n⟩ s.dev) := by
  refine completes_objTake hawake hready rfl (Req.row_set hop) ?_ hretry hobj
  rw [Dev.oldestServed_granted hready hdecided, if_neg (hop ▸ opSET_ne_opGET), if_pos hop, hx]

theorem completes_objAction {i : Instr} {row : ObjRow} (hexec : exec i s = s.logic (·.objTake row)) (hrow : (s.dev.reqAt 0).row = row)
    (hop : (s.dev.reqAt 0).op = opACTION)
    (hx : (s.dev.reqGranted.serveAction (s.dev.reqAt 0) o).audited (s.dev.reqAt 0) = ⟨x, res, n⟩) :
    Completes i s (· = Served.toOldest ⟨x, res, n⟩ s.dev) := by
  refine completes_objTake hawake hready hexec hrow ?_ hretry hobj
  rw [Dev.oldestServed_granted hready hdecided, if_neg (hop ▸ opACTION_ne_opGET), if_neg (hop ▸ opACTION_ne_opSET), hx]

end

/-- A denial is counted and answered with its reason. -/
theorem completes_objDenied {i : Instr} {row : ObjRow} {r : Nat} (hexec : exec i s = s.logic (·.objTake row))
    (hrow : (s.dev.reqAt 0).row = row) (hdecided : s.dev.reqDecided = .inr r)
    (hdenied : r = oDENIED_RIGHT ∨ r = oDENIED_PROTECTION ∨ r = oDENIED_LIFECYCLE) :
    Completes i s (· = Served.toOldest ⟨s.dev.reqTaken.deny (s.dev.reqAt 0) r, r, 0⟩ s.dev) := by
  have hcounted : (r == oDENIED_RIGHT || r == oDENIED_PROTECTION || r == oDENIED_LIFECYCLE) = true := by
    simpa [or_assoc] using hdenied
  have hfinal : r ≠ oRETRY := by rcases hdenied with rfl | rfl | rfl <;> decide
  refine completes_objTake hawake hready hexec hrow ?_ hfinal (Dev.deny_obj ..)
  rw [Dev.oldestServed_refused hready hdecided, hcounted, Dev.iff_true]

end

/-- Settles O30: the oldest request is taken and answered, and its service is one of the equations above. -/
theorem objectRequests : Obligations.ObjectRequests := by
  intro s hawake hstarts hvalid hpowered hroom hring hwaiting halone q c d decided g answered hgroup hfirst hlast hview
  have hready : s.dev.ReqReady := ⟨hstarts, hvalid, hpowered, hroom, hring, hwaiting, halone, hgroup, hfirst, hlast, hview⟩
  have hanswer {i : Instr} {x : Dev} {res n : Nat} (h : Completes i s (· = Served.toOldest ⟨x, res, n⟩ s.dev)) : answered i x res n := h
  have hok : oOK ≠ oRETRY := by decide
  refine ⟨fun o hserve => ⟨fun b hop hlive hknown hbytes hlen hdram => ?getLive, fun b hop hsealed hbytes hlen hdram => ?getSealed,
    fun hop hlive hnone hknown => ?getUnavailable, fun a n hop hlive hstored hlen hdram => ?set, fun hop hsealed => ?setSealed,
    fun e hop hcls ho hlive hidle hlock k hk hid => ?method, fun z hop hcls ho hlive hlen => ?ack⟩,
    fun r hrefuse hdenied => ⟨fun hop => ?getDenied, fun hop => ?setDenied⟩⟩
  case getLive =>
    exact hanswer (completes_objGet hawake hready hok (Dev.stBytes_obj ..) hserve hop
      ((Dev.serveGet_live _ hlive hbytes hknown).trans (Dev.objDeliver_fits hlen hdram)))
  case getSealed =>
    exact hanswer (completes_objGet hawake hready hok (Dev.stBytes_obj ..) hserve hop
      ((Dev.serveGet_sealed hsealed hbytes).trans (Dev.objDeliver_fits hlen hdram)))
  case getUnavailable =>
    exact hanswer (completes_objGet hawake hready (show oVIEW_UNAVAILABLE ≠ oRETRY by decide) rfl hserve hop
      (Dev.serveGet_unavailable _ hlive hnone))
  case set =>
    have hx := (congrArg (·.audited q) (Dev.serveSet_stored hlive hstored hlen hdram)).trans (Served.audited_ok ..)
    exact hanswer (completes_objSet hawake hready hok ((Dev.audit_obj ..).trans (Dev.stBytes_obj ..)) hserve hop hx)
  case setSealed =>
    have hx := (congrArg (·.audited q) (Dev.serveSet_sealed (d := g) o hsealed)).trans (Served.audited_refused (by decide))
    exact hanswer (completes_objSet hawake hready (show oREAD_ONLY_VIEW ≠ oRETRY by decide) rfl hserve hop hx)
  case method =>
    subst ho
    obtain ⟨row, hexec, hrow, hmethod, hlo, hhi⟩ := regMethod_of_mem k hk
    have hobj := (Dev.audit_obj _ q false).trans
      ((Dev.mirror_obj _ (.regCmd k.2.2 0 0 q.target)).trans (Dev.regCommand_obj g q.target hlo hhi))
    have hx := (congrArg (·.audited q) ((hmethod g q e hid).trans (Dev.methodRegistry_free k.2.2 hlive hidle hlock))).trans
      (Served.audited_ok ..)
    exact hanswer (completes_objAction hawake hready hok hobj hserve (hexec s) (hrow q hop hcls hid) hop hx)
  case ack =>
    subst ho
    have hx := (congrArg (·.audited q) (Dev.methodAck_zone (d := g) z hlive hlen)).trans (Served.audited_ok ..)
    exact hanswer (completes_objAction hawake hready hok ((Dev.audit_obj ..).trans (Dev.balAck_obj ..)) hserve rfl
      (Req.row_ack hop hcls) hop hx)
  case getDenied => exact hanswer (completes_objDenied hawake hready rfl (Req.row_get hop) hrefuse hdenied)
  case setDenied => exact hanswer (completes_objDenied hawake hready rfl (Req.row_set hop) hrefuse hdenied)

end Sys2Proof.Machine
end

section
/-!
SUPPORT. The balance engine: what a sample stores, when an inventory is fixed, and when a pass runs.
-/
namespace Sys2Proof.Machine

/-! ## Counters (R5) -/

theorem satNat_le (n top : Nat) : satNat n top ≤ top := by
  unfold satNat
  split
  · exact Nat.le_refl top
  · omega

/-- A counter reads what it went up to. -/
theorem Dev.rd_bump_same (d : Dev) (a n : Nat) : (d.bump a n).rd a = satNat (d.rd a + n) m32 :=
  Dev.rd_wr_lt _ (Nat.lt_of_le_of_lt (satNat_le _ m32) (by decide))

theorem Dev.rd_bump_other (d : Dev) {a b : Nat} (n : Nat) (h : b ≠ a) : (d.bump a n).rd b = d.rd b := Dev.rd_wr_other _ _ h

/-! ## Samples (R130) -/

/-- A sample is counted as dropped, or it is kept among its input's samples and possibly counted as late. -/
theorem Dev.balSample_cases (d : Dev) (x : Bytes) : d.balSample x = d.bump BAL_SAMPLE_DROP ∨
    ∃ kept late, d.balSample x = ({ d with bal := { d.bal with samples := kept } } : Dev).iff late (·.bump BAL_SAMPLE_LATE) :=
  (Classical.em _).imp (fun h => if_pos h) fun h => ⟨_, _, if_neg h⟩

/-- An item has the inputs 0 and 1 alone. -/
theorem Dev.balSample_unknownInput (d : Dev) {x : Bytes} (h : 1 < leAt x 2 1) : d.balSample x = d.bump BAL_SAMPLE_DROP :=
  if_pos (.inl h)

@[simp] theorem Dev.balSample_mem (d : Dev) (x : Bytes) : (d.balSample x).mem = d.mem := by
  rcases d.balSample_cases x with h | ⟨kept, late, h⟩
  · rw [h, Dev.bump_mem]
  · rw [h]
    cases late <;> rfl

/-- A sample changes no register but its two counters. -/
theorem Dev.rd_balSample_other (d : Dev) (x : Bytes) {a : Nat} (hdrop : a ≠ BAL_SAMPLE_DROP) (hlate : a ≠ BAL_SAMPLE_LATE) :
    (d.balSample x).rd a = d.rd a := by
  rcases d.balSample_cases x with h | ⟨kept, late, h⟩
  · rw [h, Dev.rd_bump_other _ _ hdrop]
  · rw [h]
    cases late with
    | false => rfl
    | true => exact Dev.rd_bump_other _ _ hlate

/-- The 32 bytes of the oldest entry of the sample ring. -/
def Dev.oldestSample (d : Dev) : Bytes :=
  d.ldBytes (d.rd64 BAL_SAMP_BASE_LO + 32 * (d.rd BAL_SAMP_CONS % 2 ^ d.fld BAL_SAMP_CFG 4 0)) 32

/-- The oldest entry is off the sample ring, and on its way to the standby (R292). -/
def Dev.samplePopped (d : Dev) : Dev := (d.wr BAL_SAMP_CONS (d.rd BAL_SAMP_CONS + 1)).mirror (.sample d.oldestSample)

theorem Dev.rd_samplePopped (d : Dev) (a : Nat) : d.samplePopped.rd a = (d.wr BAL_SAMP_CONS (d.rd BAL_SAMP_CONS + 1)).rd a :=
  Dev.rd_congr (Dev.mirror_reg ..) a

theorem Dev.samplePopped_mem (d : Dev) : d.samplePopped.mem = d.mem := Dev.mirror_mem ..

theorem Dev.takeSample_waiting {d : Dev} (hstarts : d.balStarts = true) (hactive : d.pairSlave = false)
    (hring : d.fld BAL_SAMP_CFG 4 0 ≠ 0) (hwaits : d.waiting BAL_SAMP_PROD BAL_SAMP_CONS ≠ 0) :
    d.takeSample = d.samplePopped.balSample d.oldestSample := by
  unfold Dev.takeSample
  exact if_neg (by simp [hstarts, hactive, hring, hwaits])

/-! ## Inventories (R131) -/

/-- The oldest boundary whose epoch is unsealed and at which an item's inventory is not fixed yet. -/
def Dev.unfixedBoundary (d : Dev) (item : Nat) : Option Nat :=
  d.openBoundaries.find? fun b => !((d.fixedOf item).any fun e => e.1 == b)

/-- The inventory of an item stands fixed at boundary b. -/
def Dev.inventoryFixed (d : Dev) (item b : Nat) : Dev :=
  { d with bal := { d.bal with
    inventory := Assoc.put d.bal.inventory item (d.fixedOf item ++ [(b, d.inventoryAt (d.itemAt (d.balTbl b) item) b)]) } }

theorem Dev.inventoryFix_due {d : Dev} {item b : Nat} (hstarts : d.balStarts = true) (hopen : d.unfixedBoundary item = some b)
    (hused : (d.itemAt (d.balTbl b) item).model ≠ 0)
    (htime : d.sampledAfter item b = true ∨ b + 1000000000 * (d.itemAt (d.balTbl b) item).staleMax ≤ d.ext) :
    d.inventoryFix item = d.inventoryFixed item b := by
  unfold Dev.unfixedBoundary at hopen
  unfold Dev.inventoryFix
  simp only [hopen]
  rw [if_neg (by simp [hstarts, hused])]
  exact if_pos (by simpa using htime)

/-! ## The epoch pass (R135) -/

/-- Every zone of the epoch cadence is balanced for the epoch of job j: the device, the entries in the order of the zones, and
whether one was incomplete. -/
def Dev.epochZones (d : Dev) (j : Ashlar) : Dev × List Bytes × Bool :=
  let tbl := d.balTbl j.epoch.tEnd
  ((d.zones tbl).filter (·.epochEn)).foldl (fun (acc : Dev × List Bytes × Bool) z =>
    let o := acc.1.epochZone tbl (d.overlay j.epoch.tEnd) j.epoch.tStart j.epoch.tEnd j.epoch.length j.leaves z
    (o.dev, acc.2.1 ++ [o.entry], acc.2.2 || o.incomplete)) (d, [], false)

/-- What the balances of epoch n gave is reported: an incomplete zone raises event 35, EPC has the entries, and the leave is
returned. -/
def epochReport (r : Dev × List Bytes × Bool) (n us : Nat) : Dev :=
  let d := r.1.iff r.2.2 (·.raise pBAL 1)
  ((({ d with epc := { d.epc with zones := r.2.1, balDone := true } } : Dev).wr64 BAL_EPOCH_LAST_LO n).wr BAL_PASS_US us).giveBack
    9 balEpochClient

theorem Dev.epochPassDue_of_waitBal {d : Dev} (hwait : d.epc.state = .waitBal) (hdone : d.epc.balDone = false) :
    d.epochPassDue = true := by simp [Dev.epochPassDue, hwait, hdone]

theorem Dev.epochPassDue_of_not_waitBal {d : Dev} (h : d.epc.state ≠ .waitBal) : d.epochPassDue = false := by
  simp [Dev.epochPassDue, h]

/-- The balances are a variable of the proof: comparing two devices field by field would otherwise run through every zone. -/
theorem Dev.balEpochPass_granted {d : Dev} {j : Ashlar} (us : Nat) (hstarts : d.balStarts = true) (hjob : d.epc.job = some j)
    (hdue : d.epochPassDue = true) (hfree : d.bal.susp = [])
    (hleave : (d.request 9 balEpochClient).granted 9 balEpochClient = true) :
    d.balEpochPass us = epochReport ((d.request 9 balEpochClient).epochZones j) j.epoch.no us := by
  unfold Dev.balEpochPass
  rw [hjob]
  refine (if_neg (by simp [hstarts, hdue, hfree])).trans ((if_neg (by simp [hleave])).trans ?_)
  extract_lets b1 tbl ov zs r
  have hr : r = (d.request 9 balEpochClient).epochZones j := rfl
  clear_value r
  rw [← hr]
  rfl

/-! ## The fast pass (R136) -/

/-- When the pass of the next fast instant is due. -/
def Dev.fastDue (d : Dev) : Nat := d.nextFast + 1000000000 * d.rd BAL_FAST_LAG

/-- Every zone of the fast cadence is balanced at instant f. -/
def Dev.fastZones (d : Dev) (f : Nat) : Dev :=
  d.each ((d.zones (d.balTbl f)).filter (·.fastEn)) fun e z => e.fastZone (d.balTbl f) (d.overlay f) f z

/-- The fast instant f has passed, its results stand, and the leave is returned. -/
def Dev.fastReported (d : Dev) (f : Nat) : Dev :=
  (({ d with bal := { d.bal with fastDone := f } } : Dev).wr64 BAL_FAST_LAST_LO f).giveBack 9 balFastClient

section
variable {d : Dev} (hstarts : d.balStarts = true) (hon : d.bit BAL_CFG 1 = true) (hdue : d.fastDue ≤ d.ext)
include hstarts hon hdue

/-- A pass that has not run when the next one is due is skipped. -/
theorem Dev.balFastPass_skipped (hlate : d.fastDue + 60000000000 ≤ d.ext) :
    d.balFastPass = ({ d with bal := { d.bal with fastDone := d.nextFast } } : Dev).bump BAL_FAST_SKIP := by
  unfold Dev.fastDue at hdue hlate
  unfold Dev.balFastPass
  exact (if_neg (by simpa [hstarts, hon] using hdue)).trans (if_pos hlate)

theorem Dev.balFastPass_granted (hsoon : d.ext < d.fastDue + 60000000000) (hepoch : d.epochPassDue = false) (hfree : d.bal.susp = [])
    (hleave : (d.request 9 balFastClient).granted 9 balFastClient = true) :
    d.balFastPass = ((d.request 9 balFastClient).fastZones d.nextFast).fastReported d.nextFast := by
  unfold Dev.fastDue at hdue hsoon
  unfold Dev.balFastPass
  refine (if_neg (by simpa [hstarts, hon] using hdue)).trans ((if_neg (Nat.not_le.mpr hsoon)).trans ?_)
  refine (if_neg (by simp [hepoch, hfree])).trans ((if_neg (by simp [hleave])).trans ?_)
  extract_lets tbl ov e
  have he : e = (d.request 9 balFastClient).fastZones d.nextFast := rfl
  clear_value e
  rw [← he]
  rfl

end

/-! ## The statement -/

/-- Settles O32: each command is its equation above; what stands after a sample is read off its two cases. -/
theorem balanceSamplesAndPasses : Obligations.BalanceSamplesAndPasses := by
  intro s hawake hstarts
  refine ⟨fun hactive hring hwaits => ?sample, fun item b hopen hused htime => ?inventory, fun us j hjob hwait hdone hfree => ?epoch,
    fun hon hdue => ⟨fun hlate => ?skip, fun hsoon hwait hfree => ?fast⟩⟩
  case sample =>
    refine completes_logic (·.takeSample) rfl hawake ?_
    rw [Dev.takeSample_waiting hstarts hactive hring hwaits]
    refine ⟨rfl, ?_, (Dev.balSample_mem ..).trans s.dev.samplePopped_mem, ?_⟩
    · rw [Dev.rd_balSample_other _ _ (by decide) (by decide), Dev.rd_samplePopped, Dev.rd_wr_same]
    · refine (Nat.lt_or_ge 1 _).symm.imp id fun hinput => ?_
      rw [Dev.balSample_unknownInput (x := s.dev.oldestSample) _ hinput, Dev.rd_bump_same, Dev.rd_samplePopped,
        Dev.rd_wr_other _ _ (by decide)]
  case inventory => exact completes_logic (·.inventoryFix item) rfl hawake (Dev.inventoryFix_due hstarts hopen hused htime)
  case epoch =>
    intro d tbl r e hleave
    have hr : r = d.epochZones j := rfl
    have hpass : s.dev.balEpochPass us.toNat = epochReport (d.epochZones j) j.epoch.no us.toNat :=
      Dev.balEpochPass_granted us.toNat hstarts hjob (Dev.epochPassDue_of_waitBal hwait hdone) hfree hleave
    rw [← hr] at hpass
    clear_value r
    exact completes_logic (·.balEpochPass us.toNat) rfl hawake hpass
  case skip => exact completes_logic (·.balFastPass) rfl hawake (Dev.balFastPass_skipped hstarts hon hdue hlate)
  case fast =>
    intro d e hleave
    have hpass : s.dev.balFastPass = e.fastReported s.dev.nextFast :=
      Dev.balFastPass_granted hstarts hon hdue hsoon (Dev.epochPassDue_of_not_waitBal hwait) hfree hleave
    clear_value e
    exact completes_logic (·.balFastPass) rfl hawake hpass

end Sys2Proof.Machine
end

section
/-!
SUPPORT. The balance engine: the suspicion ring's consumer index, acknowledgements, the validation of a table block, and the end of
a rewrite of the membership words.
-/
namespace Sys2Proof.Machine

/-! ## The consumer index of the suspicion ring (R139) -/

/-- A write of BAL_SUSP_CONS stores the index and lets the waiting records go. -/
theorem Dev.poke_suspCons {d : Dev} {r : Requester} (v : Word) (hmay : d.mayWrite r BAL_SUSP_CONS = true) :
    d.poke r BAL_SUSP_CONS v.toNat = (suspDrain d.bal.susp (d.wr BAL_SUSP_CONS v.toNat)).answer 0 := by
  have hnamed := d.named_page (p := pBAL) (off := 0x148) (by decide) (by decide) (by decide) rfl
  exact Dev.poke_l_done (a := BAL_SUSP_CONS) v rfl rfl hnamed hmay rfl rfl rfl rfl

/-- With no record waiting none goes. -/
theorem suspDrain_none {d : Dev} (h : d.bal.susp = []) : suspDrain [] d = d := by
  unfold suspDrain
  rw [← h]

/-! ## Acknowledgement (R141) -/

/-- A write of BAL_ACK acknowledges the sides that the word names. -/
theorem Dev.poke_balAck {d : Dev} {r : Requester} (v : Word) (hmay : d.mayWrite r BAL_ACK = true) :
    d.poke r BAL_ACK v.toNat = (d.balAck v.toNat).answer 0 := by
  have hnamed := d.named_page (p := pBAL) (off := 0x180) (by decide) (by decide) (by decide) rfl
  exact Dev.poke_l_done (a := BAL_ACK) v rfl rfl hnamed hmay rfl rfl rfl rfl

/-- A side that an acknowledgement names is unlatched, and starts from zero at its next balance. -/
def Side.acked (s : Side) (named : Bool) : Side := if named then { s with latch := false, reset := true } else s

theorem Side.acked_cases {a b : Side} {named : Bool} (h : b = a.acked named) :
    if named then b = { a with latch := false, reset := true } else b = a := by
  cases named <;> exact h

/-- The state of a zone after an acknowledgement: of the fast cadence or of the epoch cadence, of the high and of the low side. -/
def ZoneSt.acked (z : ZoneSt) (fast high low : Bool) : ZoneSt :=
  if fast then { z with fastHi := z.fastHi.acked high, fastLo := z.fastLo.acked low }
  else { z with epochHi := z.epochHi.acked high, epochLo := z.epochLo.acked low }

@[simp] theorem Dev.zoneSt_putZone_same (d : Dev) (z : Nat) (st : ZoneSt) : (d.putZone z st).zoneSt z = st := Assoc.get_put_same ..

theorem Dev.ackSides_eq (d : Dev) (zone sides : Nat) : d.ackSides zone sides =
    d.putZone zone ((d.zoneSt zone).acked (sides.testBit 2) (sides.testBit 0) (sides.testBit 1)) := by
  unfold Dev.ackSides ZoneSt.acked
  cases sides.testBit 2 <;> rfl

/-- Bit i of a field is bit lo + i of the word. -/
theorem testBit_bitsOf (n : Nat) {hi lo i : Nat} (h : i < hi + 1 - lo) : (bitsOf n hi lo).testBit i = n.testBit (lo + i) := by
  unfold bitsOf
  rw [Nat.testBit_mod_two_pow, Nat.testBit_shiftRight, decide_eq_true h, Bool.true_and]

@[simp] theorem Dev.mirror_bal (d : Dev) (i : ArmItem) : (d.mirror i).bal = d.bal := by unfold Dev.mirror; split <;> rfl

theorem Dev.balAck_eq (d : Dev) (v : Nat) : d.balAck v = (d.putZone (bitsOf v 15 0) ((d.zoneSt (bitsOf v 15 0)).acked (v.testBit 18)
    (v.testBit 16) (v.testBit 17))).mirror (.balAck (BitVec.ofNat 32 v)) := by
  unfold Dev.balAck
  rw [Dev.ackSides_eq, testBit_bitsOf v (by decide), testBit_bitsOf v (by decide), testBit_bitsOf v (by decide)]

/-- An acknowledgement leaves in the zone that the word names what it makes of that zone's sides. -/
theorem Dev.zoneSt_balAck (d : Dev) (v : Nat) : (d.balAck v).zoneSt (bitsOf v 15 0) =
    (d.zoneSt (bitsOf v 15 0)).acked (v.testBit 18) (v.testBit 16) (v.testBit 17) := by
  rw [Dev.balAck_eq, Dev.zoneSt, Dev.mirror_bal]
  exact Dev.zoneSt_putZone_same ..

@[simp] theorem Dev.balAck_reg (d : Dev) (v : Nat) : (d.balAck v).reg = d.reg := by rw [Dev.balAck_eq]; exact Dev.mirror_reg ..
@[simp] theorem Dev.balAck_mem (d : Dev) (v : Nat) : (d.balAck v).mem = d.mem := by rw [Dev.balAck_eq]; exact Dev.mirror_mem ..

/-! ## The validation of a table block (R129) -/

/-- VALIDATE while no validation runs notes the block at BAL_TBL_ADDR and the member cap of BAL_TBL_CAPV. -/
theorem Dev.poke_balTblCmd {d : Dev} {r : Requester} (hmay : d.mayWrite r BAL_TBL_CMD = true) (hidle : d.bal.job = none) :
    d.poke r BAL_TBL_CMD 1 =
      ({ d with bal := { d.bal with job := some (d.rd64 BAL_TBL_ADDR_LO, d.rd BAL_TBL_CAPV) } } : Dev).answer 0 := by
  have hnamed := d.named_page (p := pBAL) (off := 0x15C) (by decide) (by decide) (by decide) rfl
  have hblock : d.blockWrite r BAL_TBL_CMD 1 =
      .done { d with bal := { d.bal with job := some (d.rd64 BAL_TBL_ADDR_LO, d.rd BAL_TBL_CAPV) } } := by
    show balWrite d 0x15C 1 = _
    unfold balWrite
    simp [hidle]
  exact Dev.poke_l_done (a := BAL_TBL_CMD) 1 rfl rfl hnamed hmay rfl rfl rfl hblock

/-- No validation of a table block runs any longer. -/
def Dev.blockStopped (d : Dev) : Dev := { d with bal := { d.bal with job := none } }

/-- The block at base has passed with a member cap: result 0, and both stand in BAL_TBL_OK. -/
def Dev.blockPassed (d : Dev) (base cap : Nat) : Dev :=
  (((d.wr BAL_TBL_STAT 0).wr BAL_TBL_FAIL 0).wr64 BAL_TBL_OK_LO base).wr BAL_TBL_OK_CAP cap

theorem Dev.rd_blockPassed_stat (d : Dev) (base cap : Nat) : (d.blockPassed base cap).rd BAL_TBL_STAT = 0 := by
  unfold Dev.blockPassed
  rw [Dev.rd_wr_other _ _ (by decide), Dev.rd_wr64_other _ _ (by decide) (by decide), Dev.rd_wr_other _ _ (by decide),
    Dev.rd_wr_lt _ (by decide)]

theorem Dev.rd_blockPassed_fail (d : Dev) (base cap : Nat) : (d.blockPassed base cap).rd BAL_TBL_FAIL = 0 := by
  unfold Dev.blockPassed
  rw [Dev.rd_wr_other _ _ (by decide), Dev.rd_wr64_other _ _ (by decide) (by decide), Dev.rd_wr_lt _ (by decide)]

theorem Dev.rd64_blockPassed_ok (d : Dev) (base cap : Nat) : (d.blockPassed base cap).rd64 BAL_TBL_OK_LO = base % 2 ^ 64 :=
  (Dev.rd64_wr_other _ _ (by decide) (by decide)).trans (Dev.rd64_wr64_same ..)

theorem Dev.rd_blockPassed_cap (d : Dev) (base cap : Nat) : (d.blockPassed base cap).rd BAL_TBL_OK_CAP = cap % 2 ^ 32 :=
  Dev.rd_wr_same ..

section
variable {d : Dev} {base cap : Nat} (hjob : d.bal.job = some (base, cap))
include hjob

theorem Dev.balValidated_passed (hdram : inDram base (0x700000 + 16 * cap) = true) (hgood : d.blockStopped.checkBlock base cap = none) :
    d.balValidated = d.blockStopped.blockPassed base cap := by
  unfold Dev.blockStopped at hgood
  unfold Dev.balValidated outside
  simp only [hjob, hdram, hgood, Bool.not_true, Bool.false_eq_true, if_false]
  rfl

theorem Dev.balValidated_failed {res part e : Nat} (hdram : inDram base (0x700000 + 16 * cap) = true)
    (hbad : d.blockStopped.checkBlock base cap = some (res, part, e)) :
    d.balValidated = (d.blockStopped.wr BAL_TBL_STAT (2 * res + 16 * part)).wr BAL_TBL_FAIL e := by
  unfold Dev.blockStopped at hbad
  unfold Dev.balValidated outside
  simp only [hjob, hdram, hbad, Bool.not_true, Bool.false_eq_true, if_false]
  rfl

/-- A block outside DRAM fails with RANGE at zone 0. -/
theorem Dev.balValidated_outside (hout : inDram base (0x700000 + 16 * cap) = false) :
    d.balValidated = (d.blockStopped.wr BAL_TBL_STAT 2).wr BAL_TBL_FAIL 0 := by
  unfold Dev.balValidated outside
  simp only [hjob, hout, Bool.not_false, if_true]
  rfl

end

/-! ## The membership words (R126, R129) -/

/-- The device differs from d in memory alone. -/
def Dev.MemOnly (d t : Dev) : Prop := ∃ m, t = { d with mem := m }

theorem Dev.MemOnly.refl (d : Dev) : d.MemOnly d := ⟨d.mem, rfl⟩

theorem Dev.MemOnly.trans {a b c : Dev} (h : a.MemOnly b) (k : b.MemOnly c) : a.MemOnly c := by
  obtain ⟨m, rfl⟩ := h
  obtain ⟨n, rfl⟩ := k
  exact ⟨n, rfl⟩

theorem Dev.MemOnly.bal {d t : Dev} (h : d.MemOnly t) : t.bal = d.bal := by
  obtain ⟨m, rfl⟩ := h
  rfl

theorem Dev.MemOnly.reg {d t : Dev} (h : d.MemOnly t) : t.reg = d.reg := by
  obtain ⟨m, rfl⟩ := h
  rfl

/-- Steps that each change memory alone change it alone. -/
theorem Dev.MemOnly.each {α : Type} {f : Dev → α → Dev} (h : ∀ (e : Dev) (x : α), e.MemOnly (f e x)) (l : List α) (d : Dev) :
    d.MemOnly (d.each l f) :=
  Dev.each_keeps (fun e x he => he.trans (h e x)) l d (.refl d)

/-- The membership words of every endpoint record are cleared. -/
def Dev.membershipsCleared (d : Dev) : Dev :=
  d.each (List.range (d.fld ING_REG_HWM 25 0)) fun e i => e.recPutBytes i rZONES (zeroBytes 16)

/-- Member m of zone z takes the first free membership word of its endpoint. -/
def Dev.membershipPut (d : Dev) (z : Zone) (m : Member) : Dev :=
  match (List.range 4).find? fun k => !(d.recGet m.index (rZONES + 4 * k) 4).testBit 31 with
  | none => d
  | some k => d.recPut m.index (rZONES + 4 * k) 4 (z.no + 2 ^ 16 * (m.pos - z.memberFirst) + 2 ^ 31)

/-- Every member of the block at tbl takes its membership word. -/
def Dev.membershipsPut (d : Dev) (tbl : Nat) : Dev :=
  d.each (d.zones tbl) fun e z => e.each (e.membersOf tbl z) fun e m => e.membershipPut z m

theorem Dev.memOnly_membershipsCleared (d : Dev) : d.MemOnly d.membershipsCleared :=
  Dev.MemOnly.each (fun e _ => e.stBytes_frame ..) _ d

theorem Dev.memOnly_membershipPut (d : Dev) (z : Zone) (m : Member) : d.MemOnly (d.membershipPut z m) := by
  unfold Dev.membershipPut
  split
  · exact .refl d
  · exact d.stBytes_frame ..

theorem Dev.memOnly_membershipsPut (d : Dev) (tbl : Nat) : d.MemOnly (d.membershipsPut tbl) :=
  Dev.MemOnly.each (fun e z => Dev.MemOnly.each (fun t m => t.memOnly_membershipPut z m) _ e) _ d

/-- CFG_INVALID of BAL is read off the registers. -/
theorem balCfgInvalid_congr {d e : Dev} (h : d.reg = e.reg) : balCfgInvalid d = balCfgInvalid e := by
  unfold balCfgInvalid Dev.fld Dev.rd64
  simp only [Dev.rd_congr h]

/-- The rewrite of the membership words has ended. -/
def Dev.mapSettled (d : Dev) : Dev := { d with bal := { d.bal with mapBusy := false } }

@[simp] theorem Dev.mapSettled_bal (d : Dev) : d.mapSettled.bal = { d.bal with mapBusy := false } := rfl
@[simp] theorem Dev.mapSettled_reg (d : Dev) : d.mapSettled.reg = d.reg := rfl
@[simp] theorem Dev.mapSettled_mem (d : Dev) : d.mapSettled.mem = d.mem := rfl

/-- The membership words as they are rewritten: cleared, then given anew unless the configuration is invalid. -/
def Dev.membershipsRewritten (d : Dev) : Dev :=
  if balCfgInvalid d.membershipsCleared then d.membershipsCleared
  else d.membershipsCleared.membershipsPut (d.membershipsCleared.rd64 BAL_TBL_BASE_LO)

theorem Dev.mapRewriteDone_busy {d : Dev} (hbusy : d.bal.mapBusy = true) (hgoes : d.continues pBAL = true) :
    d.mapRewriteDone = d.membershipsRewritten.mapSettled := by
  unfold Dev.mapRewriteDone
  exact if_neg (by simp [hbusy, hgoes])

theorem Dev.memOnly_membershipsRewritten (d : Dev) : d.MemOnly d.membershipsRewritten := by
  unfold Dev.membershipsRewritten
  split
  · exact d.memOnly_membershipsCleared
  · exact d.memOnly_membershipsCleared.trans (Dev.memOnly_membershipsPut ..)

theorem Dev.membershipsRewritten_invalid {d : Dev} (h : balCfgInvalid d = true) : d.membershipsRewritten = d.membershipsCleared :=
  if_pos ((balCfgInvalid_congr d.memOnly_membershipsCleared.reg).trans h)

/-! ## The statement -/

/-- Settles O33: the writes are pokes, the end of a validation is one of its three equations, and a rewrite changes memory alone. -/
theorem balanceTablesAndAlarms : Obligations.BalanceTablesAndAlarms := by
  intro s r hawake
  refine ⟨fun v hmay => ?index, fun v hmay => ?ack, fun hmay hidle => ?start, fun a cap hjob => ⟨fun hdram hgood => ?passed,
    fun res part e hdram hbad => ?failed, fun hout => ?outside⟩, fun hbusy hgoes => ?rewrite⟩
  case index =>
    refine completes_logic (·.poke r BAL_SUSP_CONS v.toNat) rfl hawake ?_
    rw [Dev.poke_suspCons v hmay]
    exact ⟨rfl, fun hnone => by rw [hnone, suspDrain_none (d := s.dev.wr BAL_SUSP_CONS v.toNat) hnone]⟩
  case ack =>
    refine completes_logic (·.poke r BAL_ACK v.toNat) rfl hawake ?_
    rw [Dev.poke_balAck v hmay]
    have hzone := s.dev.zoneSt_balAck v.toNat
    refine ⟨fun hfast => ?_, fun hepoch => ?_, Dev.balAck_reg .., Dev.balAck_mem .., rfl⟩
    · rw [hfast] at hzone
      exact ⟨Side.acked_cases (congrArg ZoneSt.fastHi hzone), Side.acked_cases (congrArg ZoneSt.fastLo hzone),
        (congrArg ZoneSt.epochHi hzone :), (congrArg ZoneSt.epochLo hzone :)⟩
    · rw [hepoch] at hzone
      exact ⟨Side.acked_cases (congrArg ZoneSt.epochHi hzone), Side.acked_cases (congrArg ZoneSt.epochLo hzone),
        (congrArg ZoneSt.fastHi hzone :), (congrArg ZoneSt.fastLo hzone :)⟩
  case start => exact completes_logic (·.poke r BAL_TBL_CMD 1) rfl hawake (Dev.poke_balTblCmd hmay hidle)
  case passed =>
    refine completes_logic (·.balValidated) rfl hawake ?_
    rw [Dev.balValidated_passed hjob hdram hgood]
    exact ⟨rfl, Dev.rd_blockPassed_stat .., Dev.rd_blockPassed_fail .., Dev.rd64_blockPassed_ok .., Dev.rd_blockPassed_cap .., rfl⟩
  case failed => exact completes_logic (·.balValidated) rfl hawake (Dev.balValidated_failed hjob hdram hbad)
  case outside => exact completes_logic (·.balValidated) rfl hawake (Dev.balValidated_outside hjob hout)
  case rewrite =>
    refine completes_logic (·.mapRewriteDone) rfl hawake ?_
    rw [Dev.mapRewriteDone_busy hbusy hgoes]
    have hrewrite := s.dev.memOnly_membershipsRewritten
    refine ⟨?_, (Dev.mapSettled_reg _).trans hrewrite.reg, fun hinvalid => ?_⟩
    · rw [Dev.mapSettled_bal, hrewrite.bal]
    · rw [Dev.mapSettled_mem, Dev.membershipsRewritten_invalid hinvalid]
      rfl

end Sys2Proof.Machine
end

section
/-!
SUPPORT. Campaign traffic of the distribution engine: which slots its operations leave alone, and what a message, a report, a
deadline and a silence come to.
-/
namespace Sys2Proof.Machine

/-! ## What the operations on a slot leave alone -/

@[simp] theorem Dev.dslot_setDslot_same (d : Dev) (c : Nat) (z : DstSlot) : (d.setDslot c z).dslot c = z := Assoc.get_put_same ..

theorem Dev.dslot_setDslot_other (d : Dev) {c e : Nat} (z : DstSlot) (h : e ≠ c) : (d.setDslot c z).dslot e = d.dslot e :=
  Assoc.get_put_other _ _ _ h

/-- The slots read alike where the distribution engine's state is alike. -/
theorem Dev.dslot_congr {d t : Dev} (h : t.dst = d.dst) (e : Nat) : t.dslot e = d.dslot e := by
  unfold Dev.dslot
  rw [h]

@[simp] theorem Dev.stBytes_dst (d : Dev) (a : Nat) (bs : Bytes) : (d.stBytes a bs).dst = d.dst := by
  obtain ⟨m, hm⟩ := d.stBytes_frame a bs
  rw [hm]

@[simp] theorem Dev.mirror_dst (d : Dev) (i : ArmItem) : (d.mirror i).dst = d.dst := by unfold Dev.mirror; split <;> rfl

@[simp] theorem Dev.dslot_st (d : Dev) (a n v e : Nat) : (d.st a n v).dslot e = d.dslot e := Dev.dslot_congr (d.stBytes_dst ..) e
@[simp] theorem Dev.dslot_bump (d : Dev) (a n e : Nat) : (d.bump a n).dslot e = d.dslot e := rfl
@[simp] theorem Dev.dslot_setDState (d : Dev) (c k t e : Nat) : (d.setDState c k t).dslot e = d.dslot e := d.dslot_st ..
@[simp] theorem Dev.dslot_setDMap (d : Dev) (c k m e : Nat) : (d.setDMap c k m).dslot e = d.dslot e :=
  (Dev.dslot_st ..).trans (Dev.dslot_st ..)
@[simp] theorem Dev.dslot_dstDone (d : Dev) (c b e : Nat) : (d.dstDone c b).dslot e = d.dslot e := Dev.dslot_congr (d.raise_dst ..) e
@[simp] theorem Dev.dslot_mirrorDst (d : Dev) (c a n e : Nat) : (d.mirrorDst c a n).dslot e = d.dslot e :=
  Dev.dslot_congr (d.mirror_dst _) e

section
variable (d : Dev) {c e : Nat} (h : e ≠ c)
include h

theorem Dev.dslot_queueCtl_other (typ : Nat) (ks : List Nat) : (d.queueCtl c typ ks).dslot e = d.dslot e := d.dslot_setDslot_other _ h
theorem Dev.dslot_dropCtl_other (typ : Nat) : (d.dropCtl c typ).dslot e = d.dslot e := d.dslot_setDslot_other _ h
theorem Dev.dslot_dEnter_other (st : Nat) : (d.dEnter c st).dslot e = d.dslot e := d.dslot_setDslot_other _ h

theorem Dev.dslot_activating_other : (d.activating c).dslot e = d.dslot e := by
  unfold Dev.activating
  dsimp only
  repeat' split
  all_goals simp [Dev.dslot_dEnter_other _ h, Dev.dslot_dropCtl_other _ h]

theorem Dev.dslot_delivered_other : (d.delivered c).dslot e = d.dslot e := by
  unfold Dev.delivered
  dsimp only
  split
  · rw [Dev.dslot_activating_other _ h, Dev.dslot_dEnter_other _ h, Dev.dslot_queueCtl_other _ h]
  · exact d.dslot_dEnter_other h _

/-- What follows a target's change of state stays within its slot. -/
theorem Dev.dslot_dProgress_other : (d.dProgress c).dslot e = d.dslot e := by
  unfold Dev.dProgress Dev.iff
  dsimp only
  repeat' split
  all_goals simp [Dev.dslot_delivered_other _ h, Dev.dslot_activating_other _ h, Dev.dslot_dEnter_other _ h]

/-- A REPORT of a target stays within its slot. -/
theorem Dev.dslot_dReport_other (k : Nat) (msg : Bytes) : (d.dReport c k msg).dslot e = d.dslot e := by
  unfold Dev.dReport Dev.iff
  dsimp only
  rw [Dev.dslot_mirrorDst, Dev.dslot_dProgress_other _ h]
  repeat' split
  all_goals simp [Dev.dslot_setDslot_other _ _ h, Dev.dslot_queueCtl_other _ h]

end

/-! ## DST_SEND (R153, R311) -/

/-- DST sends on a link now: it may use the link, its pace allows the next message, and m is that message. -/
structure Dev.Sends (d : Dev) (link : Nat) (m : DstMsg) : Prop where
  uses : d.dstLink link = true
  paced : (if link = 0 then d.dst.next0 else d.dst.next1) ≤ d.time.ticks
  next : d.nextMsg link = some m

/-- DST asks for leave of the link's class. -/
def Dev.linkLeave (d : Dev) (link : Nat) : Dev := d.request (dstClass link) (dstClient link)

/-- The framed message is offered to the transmit queue of its lane. -/
def Dev.msgPushed (d : Dev) (m : DstMsg) : Dev × Bool := d.enginePush codeDST m.lane (d.dFrame m)

/-- The leave is returned, and no message waits for it. -/
def Dev.linkLeft (d : Dev) (link : Nat) : Dev :=
  let e := d.giveBack (dstClass link) (dstClient link)
  { e with dst := { e.dst with leaveWait := false } }

/-- The link's next message may go 1 / rate s from now. -/
def Dev.linkPaced (d : Dev) (link : Nat) : Dev :=
  let next := d.time.ticks + ceilDiv 250000000 (max 1 (if link = 0 then d.rd DST_RATE_RAD else d.rd DST_RATE_PLC))
  { d with dst := if link = 0 then { d.dst with next0 := next } else { d.dst with next1 := next } }

section
variable {d : Dev} {link : Nat} {m : DstMsg} (hsends : d.Sends link m)
include hsends

theorem Dev.Sends.opens : ¬ (!d.dstLink link || decide (d.time.ticks < if link = 0 then d.dst.next0 else d.dst.next1)) = true := by
  have hpaced := hsends.paced
  simp [hsends.uses, hpaced]

/-- Without leave the denial is counted, and the message waits. -/
theorem Dev.dstSend_denied (hleave : (d.linkLeave link).granted (dstClass link) (dstClient link) = false) : d.dstSend link =
    ({ d.linkLeave link with dst := { (d.linkLeave link).dst with leaveWait := true } } : Dev).bump DST_LEAVE_DENY := by
  unfold Dev.linkLeave at hleave ⊢
  unfold Dev.dstSend
  refine (if_neg hsends.opens).trans ?_
  simp only [hsends.next, hleave, Bool.not_false, if_true]

theorem Dev.dstSend_granted (hleave : (d.linkLeave link).granted (dstClass link) (dstClient link) = true) : d.dstSend link =
    let p := (d.linkLeave link).msgPushed m
    if p.2 then ((p.1.linkLeft link).linkPaced link).msgSent m link else p.1.linkLeft link := by
  unfold Dev.linkLeave at hleave ⊢
  unfold Dev.dstSend
  refine (if_neg hsends.opens).trans ?_
  simp only [hsends.next, hleave, Bool.not_true, Bool.false_eq_true, if_false]
  unfold Dev.msgPushed
  cases hpush : (d.request (dstClass link) (dstClient link)).enginePush codeDST m.lane
    ((d.request (dstClass link) (dstClient link)).dFrame m) with
  | mk e ok => cases ok <;> rfl

end

/-! ## DST_REPORT (R148 to R151) -/

/-- A slot does not take a REPORT that names another image, or while it is IDLE. -/
abbrev Dev.Unnamed (d : Dev) (msg : Bytes) (c : Nat) : Prop := (d.dslot c).st = dsIDLE ∨ (d.dslot c).imageId ≠ leAt msg 1 4

/-- What slot c makes of a REPORT of a meter. -/
def Dev.reportTo (meter : Nat) (msg : Bytes) (d : Dev) (c : Nat) : Dev :=
  if d.Unnamed msg c then d
  else match (d.dTargets c).find? fun k => d.dEui c k == meter with
    | none => d
    | some k => d.dReport c k msg

theorem Dev.reportTo_unnamed {d : Dev} {meter c : Nat} {msg : Bytes} (h : d.Unnamed msg c) : d.reportTo meter msg c = d := if_pos h

theorem Dev.reportTo_target {d : Dev} {meter c k : Nat} {msg : Bytes} (h : ¬ d.Unnamed msg c)
    (hk : (d.dTargets c).find? (fun k => d.dEui c k == meter) = some k) : d.reportTo meter msg c = d.dReport c k msg := by
  unfold Dev.reportTo
  rw [if_neg h]
  simp only [hk]

/-- A REPORT of 13 bytes or more is counted, and goes to every slot. -/
theorem Dev.dstReport_counted {d : Dev} (meter : Nat) {msg : Bytes} (hruns : d.runs pDST = true) (htype : leAt msg 0 1 = msgREPORT)
    (hlen : 13 ≤ msg.length) :
    d.dstReport meter msg = (d.bump DST_REPORT_COUNT).each (List.range 8) (Dev.reportTo meter msg) := by
  unfold Dev.dstReport
  rw [if_neg (by simp [hruns, htype, hlen])]
  rfl

/-- Steps that each leave the device as it is leave it so together. -/
theorem Dev.each_skip {α : Type} {f : Dev → α → Dev} {l : List α} {d : Dev} (h : ∀ x ∈ l, f d x = d) : d.each l f = d := by
  induction l with
  | nil => rfl
  | cons x t ih =>
    rw [Dev.each_cons, h x List.mem_cons_self]
    exact ih fun y hy => h y (List.mem_cons_of_mem x hy)

theorem Dev.each_append {α : Type} (d : Dev) (f : Dev → α → Dev) (l m : List α) : d.each (l ++ m) f = (d.each l f).each m f :=
  List.foldl_append

/-- Where only one step of a repetition does something, the repetition is that step. -/
theorem Dev.each_single {α : Type} {f : Dev → α → Dev} {l : List α} {d : Dev} {c : α} (hc : c ∈ l) (hnodup : l.Nodup)
    (hbefore : ∀ x ∈ l, x ≠ c → f d x = d) (hafter : ∀ x ∈ l, x ≠ c → f (f d c) x = f d c) : d.each l f = f d c := by
  obtain ⟨before, after, rfl⟩ := List.append_of_mem hc
  obtain ⟨-, hcons, hdistinct⟩ := List.nodup_append.mp hnodup
  have hnotBefore : c ∉ before := fun h => hdistinct c h c List.mem_cons_self rfl
  have hnotAfter : c ∉ after := (List.nodup_cons.mp hcons).1
  rw [Dev.each_append, Dev.each_skip fun x hx => hbefore x (by simp [hx]) (ne_of_mem_of_not_mem hx hnotBefore), Dev.each_cons]
  exact Dev.each_skip fun x hx => hafter x (by simp [hx]) (ne_of_mem_of_not_mem hx hnotAfter)

/-- A REPORT that no slot takes is counted and does nothing else. -/
theorem Dev.reportTo_none {d : Dev} {meter : Nat} {msg : Bytes} (h : ∀ c < 8, d.Unnamed msg c) :
    d.each (List.range 8) (Dev.reportTo meter msg) = d :=
  Dev.each_skip fun c hc => Dev.reportTo_unnamed (h c (List.mem_range.mp hc))

/-- A REPORT that names a target of slot c while the other slots are IDLE is a REPORT of that target alone. -/
theorem Dev.reportTo_single {d : Dev} {meter c k : Nat} {msg : Bytes} (hc : c < 8) (hnamed : ¬ d.Unnamed msg c)
    (hk : (d.dTargets c).find? (fun k => d.dEui c k == meter) = some k) (hidle : ∀ e < 8, e ≠ c → (d.dslot e).st = dsIDLE) :
    d.each (List.range 8) (Dev.reportTo meter msg) = d.dReport c k msg := by
  have hreport : d.reportTo meter msg c = d.dReport c k msg := Dev.reportTo_target hnamed hk
  refine (Dev.each_single (List.mem_range.mpr hc) List.nodup_range (fun e he hne => ?_) fun e he hne => ?_).trans hreport
  · exact Dev.reportTo_unnamed (.inl (hidle e (List.mem_range.mp he) hne))
  · refine Dev.reportTo_unnamed (.inl ?_)
    rw [hreport, Dev.dslot_dReport_other _ hne, hidle e (List.mem_range.mp he) hne]

/-! ## Deadlines and silence (R150, R151) -/

section
variable {d : Dev} {c : Nat} (hruns : d.runs pDST = true)
include hruns

/-- The deadline of a delivering campaign: targets that are not complete are given up, no ANNOUNCE is due, and delivery ends. -/
theorem Dev.dstDeadline_delivering (hdue : d.rd64 (DST_C_DEADLINE_LO c) ≤ d.ext) (hst : (d.dslot c).st = dsDELIVER) : d.dstDeadline c =
    let e := d.each (d.dIn c [tPENDING, tRECEIVING]) fun e k => e.setDState c k tUNREACHABLE
    ((e.setDslot c { e.dslot c with ctl := (e.dslot c).ctl.filter fun x => x.2 != msgANNOUNCE }).delivered c).mirrorSlot c := by
  unfold Dev.dstDeadline
  exact (if_neg (by simp [hruns, hdue])).trans (if_pos hst)

/-- The deadline of a campaign that was stopped: no CANCEL is due any longer. -/
theorem Dev.dstDeadline_stopped (hdue : d.rd64 (DST_C_DEADLINE_LO c) ≤ d.ext)
    (hst : (d.dslot c).st = dsABORTED ∨ (d.dslot c).st = dsSUPERSEDED) :
    d.dstDeadline c = (d.dropCtl c msgCANCEL).mirrorDst c (d.rd64 (DST_C_TGT_LO c)) 0 := by
  have hended : (d.dslot c).st ≠ dsDELIVER := by
    intro h
    rw [h] at hst
    exact absurd hst (by decide)
  unfold Dev.dstDeadline
  exact (if_neg (by simp [hruns, hdue])).trans ((if_neg hended).trans (if_pos hst))

end

/-- The targets of slot c that an activation or a rollback still waits for. -/
def Dev.awaited (d : Dev) (c : Nat) : List Nat :=
  if (d.dslot c).st = dsACTIVATING then d.dIn c [tCOMPLETE] else if (d.dslot c).st = dsROLLING then d.dIn c [tACTIVE] else []

/-- Those of them that have been silent too long. -/
def Dev.silent (d : Dev) (c : Nat) : List Nat :=
  (d.awaited c).filter fun k => match d.silentUntil c k with | none => false | some t => decide (t ≤ (d.ext : Int))

theorem Dev.dstSilent_some {d : Dev} {c : Nat} (hruns : d.runs pDST = true) (hsilent : d.silent c ≠ []) :
    d.dstSilent c = ((d.each (d.silent c) fun e k => e.setDState c k tUNREACHABLE).dProgress c).mirrorSlot c := by
  have hopen : ¬ (!d.runs pDST || (d.silent c).isEmpty) = true := by simp [hruns, hsilent]
  unfold Dev.dstSilent
  exact if_neg hopen

/-! ## The statement -/

/-- Settles O35: each command is its equation above; a REPORT stays within the slot that takes it, so the others skip it. -/
theorem campaignTraffic : Obligations.CampaignTraffic := by
  intro s hawake
  refine ⟨fun link m huses hpaced hnext => ⟨fun hdenied => ?denied, fun hgranted => ?granted⟩, fun meter msg hruns htype hlen =>
    ⟨fun hunnamed => ?unnamed, fun c k hc hst himage hk hidle => ?report⟩, fun c hruns hdue => ⟨fun hst => ?deadline, fun hst => ?stopped⟩,
    fun c hruns => ?silent⟩
  case denied => exact completes_logic (·.dstSend link) rfl hawake (Dev.dstSend_denied ⟨huses, hpaced, hnext⟩ hdenied)
  case granted =>
    have hsend := Dev.dstSend_granted ⟨huses, hpaced, hnext⟩ hgranted
    exact ⟨fun hfull => completes_logic (·.dstSend link) rfl hawake (hsend.trans (if_neg (Bool.eq_false_iff.mp hfull))),
      fun hsent => completes_logic (·.dstSend link) rfl hawake (hsend.trans (if_pos hsent))⟩
  case unnamed =>
    refine completes_logic (·.dstReport meter.toNat msg) rfl hawake ?_
    rw [Dev.dstReport_counted _ hruns htype hlen]
    exact Dev.reportTo_none (d := s.dev.bump DST_REPORT_COUNT) hunnamed
  case report =>
    refine completes_logic (·.dstReport meter.toNat msg) rfl hawake ?_
    rw [Dev.dstReport_counted _ hruns htype hlen]
    exact Dev.reportTo_single (d := s.dev.bump DST_REPORT_COUNT) hc (not_or.mpr ⟨hst, not_not_intro himage⟩) hk hidle
  case deadline => exact completes_logic (·.dstDeadline c) rfl hawake (Dev.dstDeadline_delivering hruns hdue hst)
  case stopped =>
    refine completes_logic (·.dstDeadline c) rfl hawake ?_
    rw [Dev.dstDeadline_stopped hruns hdue hst]
    have hslot := ((s.dev.dropCtl c msgCANCEL).dslot_mirrorDst c (s.dev.rd64 (DST_C_TGT_LO c)) 0 c).trans (s.dev.dslot_setDslot_same c _)
    exact ⟨(congrArg DstSlot.ctl hslot :), (congrArg DstSlot.st hslot :), Dev.mirror_reg .., Dev.mirror_mem ..⟩
  case silent =>
    intro st ks gone hgone
    exact completes_logic (·.dstSilent c) rfl hawake (Dev.dstSilent_some hruns hgone)

end Sys2Proof.Machine
end

section
/-!
SUPPORT. RELEASE of a campaign slot forgets the slot's registers. Where the table of written registers is in rising order every other
register stays; where it is not, a word that an earlier entry hid is read from then on.
-/
namespace Sys2Proof.Machine

/-! ## What forgetting does to a table in rising order -/

theorem RegMap.pairwise_of_rising : ∀ {m : RegMap}, RegMap.rising m = true → m.Pairwise (fun e f => e.1 < f.1)
  | [], _ => .nil
  | [_], _ => List.pairwise_singleton _ _
  | (k, u) :: (j, v) :: t, h => by
    obtain ⟨hkj, hrest⟩ : k < j ∧ RegMap.rising ((j, v) :: t) = true := by simpa [RegMap.rising] using h
    have htail := RegMap.pairwise_of_rising hrest
    refine List.pairwise_cons.mpr ⟨fun e he => ?_, htail⟩
    rcases List.mem_cons.mp he with rfl | ht
    · exact hkj
    · exact Nat.lt_trans hkj (List.rel_of_pairwise_cons htail ht)

/-- An address below every entry reads as the reset table says. -/
theorem RegMap.get_below {dflt : Nat → Word} {m : RegMap} {a : Nat} (h : ∀ e ∈ m, a < e.1) : RegMap.get dflt m a = dflt a := by
  cases m with
  | nil => rfl
  | cons e t => exact if_pos (h e List.mem_cons_self)

/-- Of a table in rising order, what is not forgotten reads as before. -/
theorem RegMap.get_forget_other {dflt : Nat → Word} {p : Nat → Bool} {m : RegMap} {a : Nat}
    (hrising : m.Pairwise (fun e f => e.1 < f.1)) (hkept : p a = false) : RegMap.get dflt (RegMap.forget p m) a = RegMap.get dflt m a := by
  induction hrising with
  | nil => rfl
  | @cons e t habove _ ih =>
    obtain ⟨k, u⟩ := e
    unfold RegMap.forget at ih ⊢
    by_cases hk : p k = true
    · rw [List.filter_cons_of_neg (by simp [hk]), ih]
      have hne : a ≠ k := fun h => by simp [h, hk] at hkept
      by_cases hlt : a < k
      · rw [RegMap.get_below fun e he => Nat.lt_trans hlt (habove e he)]
        exact (if_pos hlt).symm
      · exact ((if_neg hlt).trans (if_neg hne)).symm
    · rw [List.filter_cons_of_pos (by simpa using hk)]
      simp only [RegMap.get, ih]

/-- Where the written registers are in rising order, a RELEASE leaves every register outside the slot as it was. -/
theorem Dev.rd_dstRelease_other {d : Dev} {c a : Nat} (hrising : RegMap.rising d.reg.live = true)
    (ha : a < DST_C_IMG_LO c ∨ DST_C_IMG_LO c + 0x40 ≤ a) : (d.dstRelease c).rd a = d.rd a := by
  unfold Dev.dstRelease
  split
  · rfl
  · have hkept : (decide (DST_C_IMG_LO c ≤ a) && decide (a < DST_C_IMG_LO c + 0x40)) = false := by
      simp only [Bool.and_eq_false_iff, decide_eq_false_iff_not]
      omega
    refine (Dev.rd_congr (Dev.mirror_reg ..) a).trans (congrArg BitVec.toNat ?_)
    exact RegMap.get_forget_other (p := fun a => decide (DST_C_IMG_LO c ≤ a) && decide (a < DST_C_IMG_LO c + 0x40))
      (RegMap.pairwise_of_rising hrising) hkept

/-! ## A table out of order -/

/-- A module whose slot 0 has ended, and whose written registers name a word of the slot before the lower address of RST_CAUSE: until
the slot's word is forgotten, RST_CAUSE reads as its reset value. -/
def misordered : Dev :=
  { Dev.reset with
    reg := { Dev.reset.reg with live := (DST_C_IMG_LO 0, 0) :: Dev.reset.reg.live }
    dst := { slots := [(0, { st := dsDONE })] } }

theorem rd_misordered_released : misordered.rd RST_CAUSE = 0 ∧
    (misordered.poke ⟨.sys, 0⟩ (DST_C_CTRL 0) 5).rd RST_CAUSE = 1 := by decide +kernel

/-! ## The statement -/

/-- What a completing command leaves is what its meaning makes of the device. -/
theorem of_completes_logic {c : Instr} {s : State} {P : Dev → Prop} {f : Dev → Dev} (hx : exec c s = s.logic f) (h : Awake s)
    (hc : Completes c s P) : P (f s.dev) := by
  obtain ⟨t, ht, -, hp⟩ := hc
  rw [hx, State.logic_awake h] at ht
  cases ht
  exact hp

/-- Refutes O34: its RELEASE leaves every register outside the slot as it was, but the statement does not ask that the written
registers stand in rising order (RegMap.rising). In the module misordered a RELEASE of slot 0 lets RST_CAUSE be read as 1, which read
as 0 before. With the registers in rising order those registers do stay: Dev.rd_dstRelease_other. -/
theorem not_campaignCommands : ¬ Obligations.CampaignCommands := by
  intro h
  obtain ⟨halone, -⟩ := h ⟨misordered, []⟩ ⟨.sys, 0⟩ 0 rfl (by decide +kernel)
  obtain ⟨-, -, -, -, -, -, -, -, hrelease, -⟩ := halone (by decide +kernel)
  have hended : [dsDONE, dsABORTED, dsSUPERSEDED].contains (misordered.dslot 0).st = true := by decide
  have hnoCancel : misordered.cancelDue 0 = false := by decide +kernel
  obtain ⟨-, -, -, hframe⟩ := of_completes_logic (f := (·.poke ⟨.sys, 0⟩ (DST_C_CTRL 0) 5)) rfl rfl (hrelease hended hnoCancel)
  obtain ⟨hbefore, hafter⟩ := rd_misordered_released
  have hsame := hframe RST_CAUSE (.inl (by decide))
  exact Nat.one_ne_zero (hafter.symm.trans (hsame.trans hbefore))

end Sys2Proof.Machine
end

section
/-!
SUPPORT. The quarry: what its operations leave alone, and what an access to a word of the per-queue array comes to.
-/
namespace Sys2Proof.Machine

/-! ## Tables by number -/

/-- Of two stores of one entry the later stands. -/
@[simp] theorem Assoc.put_put_same {α : Type} (m : Assoc α) (k : Nat) (u v : α) :
    Assoc.put (Assoc.put m k u) k v = Assoc.put m k v := by
  induction m with
  | nil => simp [Assoc.put]
  | cons e t ih =>
    obtain ⟨j, w⟩ := e
    by_cases hlt : k < j
    · simp [Assoc.put, hlt]
    · by_cases heq : k = j
      · simp [Assoc.put, heq]
      · simp [Assoc.put, hlt, heq, ih]

/-- A stored entry is the first of its number, whatever order the table is in. -/
theorem Assoc.find?_put_same {α : Type} (m : Assoc α) (k : Nat) (v : α) :
    (Assoc.put m k v).find? (fun e => e.1 == k) = some (k, v) := by
  induction m with
  | nil => simp [Assoc.put]
  | cons e t ih =>
    obtain ⟨j, w⟩ := e
    by_cases hlt : k < j
    · simp [Assoc.put, hlt]
    · by_cases heq : k = j
      · simp [Assoc.put, heq]
      · simp [Assoc.put, hlt, heq, ih, Ne.symm heq]

/-! ## Queues and frames -/

@[simp] theorem Dev.queue_setQueue_same (d : Dev) (q : Nat) (v : Queue) : (d.setQueue q v).queue q = v := Assoc.get_put_same ..

theorem Dev.queue_setQueue_other (d : Dev) {q p : Nat} (v : Queue) (h : p ≠ q) : (d.setQueue q v).queue p = d.queue p :=
  Assoc.get_put_other _ _ _ h

@[simp] theorem Dev.setQueue_setQueue (d : Dev) (q : Nat) (u v : Queue) : (d.setQueue q u).setQueue q v = d.setQueue q v := by
  simp [Dev.setQueue]

/-- A stored frame reads back, whatever else has changed. -/
theorem Dev.frame?_of_put {t : Dev} {frames : Assoc Frame} {i : Nat} {f : Frame} (h : t.qry.frames = Assoc.put frames i f) :
    t.frame? i = some f := by
  simp [Dev.frame?, h, Assoc.find?_put_same]

/-- Of the queues of d only q has changed, to w; memory stands, and the access went through. -/
def Dev.QueueBecomes (d : Dev) (q : Nat) (w : Queue) (t : Dev) : Prop :=
  t.queue q = w ∧ (∀ p, p ≠ q → t.queue p = d.queue p) ∧ t.mem = d.mem ∧ t.bus.cause = none

/-- The same, with no register and no frame changed. -/
def Dev.OnlyQueue (d : Dev) (q : Nat) (w : Queue) (t : Dev) : Prop :=
  d.QueueBecomes q w t ∧ t.reg = d.reg ∧ t.qry.frames = d.qry.frames

/-- Where t has the queues of d with w stored for q, only q has changed. -/
theorem Dev.queueBecomes_of_put {d t : Dev} {q : Nat} {w : Queue} (hqueues : t.qry.queues = Assoc.put d.qry.queues q w)
    (hmem : t.mem = d.mem) (hcause : t.bus.cause = none) : d.QueueBecomes q w t := by
  unfold Dev.QueueBecomes Dev.queue
  rw [hqueues]
  exact ⟨Assoc.get_put_same .., fun p hp => Assoc.get_put_other _ _ _ hp, hmem, hcause⟩

/-! ## Leases (R170) -/

/-- The device with other owners of lanes. -/
def Dev.withOwners (d : Dev) (owners : Assoc LaneOwner) : Dev := { d with qry := { d.qry with owners := owners } }

/-- An access that takes or renews a lease changes the owners alone. -/
theorem Dev.touchLane_owners (d : Dev) (lane code id : Nat) : ∃ owners, (d.touchLane lane code id).1 = d.withOwners owners := by
  unfold Dev.touchLane
  split
  · exact ⟨d.qry.owners, rfl⟩
  · dsimp only
    split
    · exact ⟨_, rfl⟩
    · split
      · exact ⟨_, rfl⟩
      · exact ⟨d.qry.owners, rfl⟩

/-- Queue q is stored while lanes have other owners: nothing else of the quarry, no register and no byte has changed. -/
theorem Dev.onlyQueue_setQueue (d : Dev) (owners : Assoc LaneOwner) (q : Nat) (w : Queue) (n : Nat) :
    d.OnlyQueue q w (((d.withOwners owners).setQueue q w).answer n) :=
  ⟨Dev.queueBecomes_of_put rfl rfl rfl, rfl, rfl⟩

/-- The lane of queue q is not fenced, and the requester may use it; the owners are then these. -/
structure Dev.LaneUsable (d : Dev) (r : Requester) (q : Nat) (owners : Assoc LaneOwner) : Prop where
  unfenced : d.laneFenced (q / 2) = false
  touched : d.touchLane (q / 2) (ownerCode r) (if r.role = .ext then r.id.val else 0) = (d.withOwners owners, none)

theorem Dev.laneUsable_of_touchLane {d e : Dev} {r : Requester} {q : Nat} (hfence : d.laneFenced (q / 2) = false)
    (htouch : d.touchLane (q / 2) (ownerCode r) (if r.role = .ext then r.id.val else 0) = (e, none)) :
    ∃ owners, e = d.withOwners owners ∧ d.LaneUsable r q owners := by
  obtain ⟨owners, h⟩ := d.touchLane_owners (q / 2) (ownerCode r) (if r.role = .ext then r.id.val else 0)
  rw [htouch] at h
  subst h
  exact ⟨owners, rfl, hfence, htouch⟩

/-! ## Writes to QRY_Q_WR and QRY_Q_CMD (R161) -/

/-- What a command of QRY_Q_CMD that its queue admits does, by its number (R162, R164, R170, R175). -/
def Dev.queueCmd (d : Dev) (r : Requester) (q cmd arg : Nat) : Dev :=
  if cmd = 1 then Dev.qResult (d.portCommit q (arg % 32) (ownerCode r)) q
  else if cmd = 2 then Dev.qResult (d.portAbandon q) q
  else if 3 ≤ cmd ∧ cmd ≤ 8 then Dev.qResult (d.consume q cmd arg) q
  else if cmd = 9 then d.setQueue q { d.queue q with res := qOK }
  else if cmd = 10 then d.setQueue q { d.queue q with res := qOK, corr := 0 }
  else d.setQueue q { d.queue q with res := qRANGE }

/-- The producer's commands are for even queues and the consumer's for odd ones (R161). -/
def queueAdmits (q cmd : Nat) : Prop := (cmd = 1 ∨ cmd = 2 → q % 2 = 0) ∧ (3 ≤ cmd ∧ cmd ≤ 8 → q % 2 = 1)

section
variable {d : Dev} {r : Requester} {q : Nat} {owners : Assoc LaneOwner} (husable : d.LaneUsable r q owners)
include husable

theorem qWrite_port (heven : q % 2 = 0) (v : Nat) : qWrite d r q 0x0C v = .done ((d.withOwners owners).portWrite q v) := by
  unfold qWrite
  simp [husable.unfenced, husable.touched, heven]

theorem qWrite_cmd {cmd arg : Nat} (hadmits : queueAdmits q cmd) (hcmd : cmd < 16) (harg : arg < 1024) :
    qWrite d r q 0x10 (cmd + 65536 * arg) = .done ((d.withOwners owners).queueCmd r q cmd arg) := by
  obtain ⟨hproducer, hconsumer⟩ := hadmits
  have hnumber : (cmd + 65536 * arg) % 16 = cmd := by omega
  have hbits : bitsOf (cmd + 65536 * arg) 25 16 = arg := by
    unfold bitsOf
    rw [Nat.shiftRight_eq_div_pow]
    omega
  have hadmitted : ¬ ((cmd = 1 ∨ cmd = 2) ∧ q % 2 = 1 ∨ (3 ≤ cmd ∧ cmd ≤ 8) ∧ q % 2 = 0) := by omega
  simp [qWrite, Dev.queueCmd, hnumber, hbits, hadmitted, husable.unfenced, husable.touched, apply_ite WriteRes.done]

end

/-- A write that the rules allow at an L word of the per-queue array is what its queue makes of it. -/
theorem Dev.poke_queueWord {d e : Dev} {r : Requester} {q off v : Nat} {x : RegDesc} {i : Nat} (hq : q < 1024) (hoff : off < 64)
    (haligned : off % 4 = 0) (hrow : findDesc off regsQueue = some (x, i)) (hclass : x.cls = .l) (hmarks : x.marks = [])
    (hmay : d.mayWrite r (0xE0100000 + 64 * q + off) = true) (hv : v < 2 ^ 32) (hdone : qWrite d r q off v = .done e) :
    d.poke r (0xE0100000 + 64 * q + off) v = e.answer 0 := by
  have hclsAt : x.clsAt (0xE0100000 + 64 * q + off) = .l := by
    unfold RegDesc.clsAt
    rw [if_neg, hclass]
    show ¬ 0xE0100000 + 64 * q + off = PWR_CLS_CFG 0
    unfold PWR_CLS_CFG
    omega
  have hblock : d.blockWrite r (0xE0100000 + 64 * q + off) v = .done e := by
    unfold Dev.blockWrite
    rw [regionOf_queue hq hoff]
    exact hdone
  rw [Dev.poke_l v (inRegs_queue hq hoff) (by omega) (d.named_queue hq hoff hrow) hmay hclsAt (by simp [hmarks]) (by simp [hmarks]),
    Nat.mod_eq_of_lt hv, hblock, Dev.stored_done, Dev.written_done]

section
variable {d : Dev} {r : Requester} {q : Nat} {owners : Assoc LaneOwner} (hq : q < 1024) (husable : d.LaneUsable r q owners)
include hq husable

theorem Dev.poke_qWr (heven : q % 2 = 0) (hmay : d.mayWrite r (QRY_Q_WR q) = true) (v : Word) :
    d.poke r (QRY_Q_WR q) v.toNat = ((d.withOwners owners).portWrite q v.toNat).answer 0 := by
  have haddr : QRY_Q_WR q = 0xE0100000 + 64 * q + 0x0C := by unfold QRY_Q_WR; omega
  rw [haddr] at hmay ⊢
  exact Dev.poke_queueWord hq (by decide) rfl rfl rfl rfl hmay v.isLt (qWrite_port husable heven v.toNat)

theorem Dev.poke_qCmd {cmd arg : Nat} (hmay : d.mayWrite r (QRY_Q_CMD q) = true) (hadmits : queueAdmits q cmd) (hcmd : cmd < 16)
    (harg : arg < 1024) : d.poke r (QRY_Q_CMD q) (cmd + 65536 * arg) = ((d.withOwners owners).queueCmd r q cmd arg).answer 0 := by
  have haddr : QRY_Q_CMD q = 0xE0100000 + 64 * q + 0x10 := by unfold QRY_Q_CMD; omega
  rw [haddr] at hmay ⊢
  exact Dev.poke_queueWord hq (by decide) rfl rfl rfl rfl hmay (by omega) (qWrite_cmd husable hadmits hcmd harg)

end

end Sys2Proof.Machine
end

section
/-!
SUPPORT. The producer's side of a queue: the write port, and the commands that end an open frame.
-/
namespace Sys2Proof.Machine

/-! ## A command of software and its queue -/

section
variable {s : State} {r : Requester} {q : Fin 1024} {owners : Assoc LaneOwner} {e : Dev} {P : Dev → Prop} (hawake : Awake s)
  (husable : s.dev.LaneUsable r q owners)
include hawake husable

theorem completes_qWr (heven : q.val % 2 = 0) (hmay : s.dev.mayWrite r (QRY_Q_WR q) = true) {x : Word}
    (hport : (s.dev.withOwners owners).portWrite q x.toNat = e) (hp : P (e.answer 0)) : Completes (.qWr r q x) s P := by
  refine completes_logic (·.poke r (QRY_Q_WR q) x.toNat) rfl hawake ?_
  show P (s.dev.poke r (QRY_Q_WR q) x.toNat)
  rwa [Dev.poke_qWr q.isLt husable heven hmay, hport]

theorem completes_qCmd {i : Instr} {cmd arg : Nat} (hexec : exec i s = s.logic (·.poke r (QRY_Q_CMD q) (cmd + 65536 * arg)))
    (hmay : s.dev.mayWrite r (QRY_Q_CMD q) = true) (hadmits : queueAdmits q cmd) (hcmd : cmd < 16) (harg : arg < 1024)
    (hdone : (s.dev.withOwners owners).queueCmd r q cmd arg = e) (hp : P (e.answer 0)) : Completes i s P := by
  refine completes_logic (·.poke r (QRY_Q_CMD q) (cmd + 65536 * arg)) hexec hawake ?_
  show P (s.dev.poke r (QRY_Q_CMD q) (cmd + 65536 * arg))
  rwa [Dev.poke_qCmd q.isLt husable hmay hadmits hcmd harg, hdone]

end

/-! ## The result of a command (R175) -/

theorem Dev.qResult_same (d : Dev) (q res : Nat) : Dev.qResult (d, res) q = d.setQueue q { d.queue q with res := res } := rfl

@[simp] theorem Dev.qResult_setQueue (d : Dev) (q : Nat) (w : Queue) (res : Nat) :
    Dev.qResult (d.setQueue q w, res) q = d.setQueue q { w with res := res } := by
  simp [Dev.qResult]

/-! ## A write of the port (R162, R163) -/

/-- The frame that is open at the port of a queue; where none is, an empty one. -/
def Queue.opened (v : Queue) : OpenFrame := v.port.getD {}

/-- The port of queue q holds an open frame, with result OK. -/
def Dev.portKept (d : Dev) (q : Nat) (o : OpenFrame) : Dev := d.setQueue q { d.queue q with port := some o, res := qOK }

/-- The open frame with four bytes more, in so many cells. -/
def OpenFrame.grown (o : OpenFrame) (v cells : Nat) : OpenFrame := { o with data := o.data ++ leBytes 4 v, cells := cells }

/-- A write that needs another cell: why the queue may not take it, or none (R167), decides whether the frame grows or is refused. -/
def Dev.cellJudged (d : Dev) (q v : Nat) (o : OpenFrame) : Option Nat → Dev
  | some why => (d.portKept q { o with refused := true }).refuse q why
  | none => d.portKept q (o.grown v (cellsOf (o.data.length + 4)))

/-- What a write makes of the open frame o. -/
theorem Dev.portWrite_eq (d : Dev) (q v : Nat) : d.portWrite q v =
    let o := (d.queue q).opened
    let need := cellsOf (o.data.length + 4)
    if o.tooLong || o.refused then d.portKept q o
    else if o.data.length = 2048 then (d.portKept q { o with tooLong := true }).bump QRY_OVERSIZE_COUNT
    else if o.cells < need then d.cellJudged q v o ((d.portKept q o).cellWhy q 0)
    else d.portKept q (o.grown v o.cells) := by
  simp only [Dev.portWrite, Dev.portKept, Queue.opened, OpenFrame.grown, Dev.queue_setQueue_same, Dev.setQueue_setQueue]
  rfl

section
variable {d : Dev} {q v : Nat} {o : OpenFrame} (hopened : (d.queue q).opened = o)
include hopened

theorem Dev.portWrite_closed (hclosed : o.tooLong = true ∨ o.refused = true) : d.portWrite q v = d.portKept q o := by
  subst hopened
  rw [Dev.portWrite_eq]
  exact if_pos (by simpa using hclosed)

variable (hlong : o.tooLong = false) (hrefused : o.refused = false)
include hlong hrefused

theorem Dev.portWrite_full (hfull : o.data.length = 2048) :
    d.portWrite q v = (d.portKept q { o with tooLong := true }).bump QRY_OVERSIZE_COUNT := by
  subst hopened
  rw [Dev.portWrite_eq]
  exact (if_neg (by simp [hlong, hrefused])).trans (if_pos hfull)

variable (hroom : o.data.length ≠ 2048)
include hroom

theorem Dev.portWrite_within (hcells : cellsOf (o.data.length + 4) ≤ o.cells) : d.portWrite q v = d.portKept q (o.grown v o.cells) := by
  subst hopened
  rw [Dev.portWrite_eq]
  exact (if_neg (by simp [hlong, hrefused])).trans ((if_neg hroom).trans (if_neg (Nat.not_lt.mpr hcells)))

variable (hcells : o.cells < cellsOf (o.data.length + 4))
include hcells

theorem Dev.portWrite_newCell : d.portWrite q v = d.cellJudged q v o ((d.portKept q o).cellWhy q 0) := by
  subst hopened
  rw [Dev.portWrite_eq]
  exact (if_neg (by simp [hlong, hrefused])).trans ((if_neg hroom).trans (if_pos hcells))

theorem Dev.portWrite_allowed (hwhy : (d.portKept q o).cellWhy q 0 = none) :
    d.portWrite q v = d.portKept q (o.grown v (cellsOf (o.data.length + 4))) :=
  (Dev.portWrite_newCell hopened hlong hrefused hroom hcells).trans (congrArg (d.cellJudged q v o) hwhy)

theorem Dev.portWrite_refused {why : Nat} (hwhy : (d.portKept q o).cellWhy q 0 = some why) :
    d.portWrite q v = (d.portKept q { o with refused := true }).refuse q why :=
  (Dev.portWrite_newCell hopened hlong hrefused hroom hcells).trans (congrArg (d.cellJudged q v o) hwhy)

end

/-- A refusal is counted, with the queue and the reason. -/
theorem Dev.rd_refuse (d : Dev) (q why : Nat) : (d.refuse q why).rd QRY_REFUSE_COUNT = satNat (d.rd QRY_REFUSE_COUNT + 1) m32 ∧
    (d.refuse q why).rd QRY_REFUSE_LAST = (q + 65536 * why) % 2 ^ 32 :=
  ⟨(Dev.rd_wr_other _ _ (by decide)).trans (Dev.rd_bump_same ..), Dev.rd_wr_same ..⟩

/-! ## COMMIT and ABANDON (R162) -/

/-- The tag of a COMMIT lies within the words that were written. -/
def OpenFrame.allowsTag (o : OpenFrame) (tag : Nat) : Prop :=
  let k := (o.data.length - 32 * (lastWord o.data.length - 1)) / 4
  4 * (k - 1) < tag + 1 ∧ tag + 1 ≤ 4 * k

/-- The frame that a COMMIT makes of the open frame. -/
def OpenFrame.cut (o : OpenFrame) (q tag code t fseq : Nat) : Frame where
  data := o.data.take (32 * (lastWord o.data.length - 1) + tag + 1)
  producer := code
  queue := q
  t := t
  tUnc := 0
  fseq := fseq
  holders := [q]
  charged := q

/-- Frame f is new in the quarry, under the next number. -/
def Dev.frameAdded (d : Dev) (f : Frame) : Dev :=
  { d with qry := { d.qry with frames := Assoc.put d.qry.frames d.qry.nextId f, nextId := d.qry.nextId + 1 } }

/-- Queue v with its port free and frame i at its end. -/
def Queue.taken (v : Queue) (i : Nat) : Queue :=
  { v with port := none, ids := v.ids ++ [i], fseq := (v.fseq + 1) % 2 ^ 32, res := qOK }

/-- A frame is added and queue q stored while lanes have other owners. -/
theorem Dev.queueBecomes_frameAdded (d : Dev) (owners : Assoc LaneOwner) (q : Nat) (f : Frame) (w : Queue) (n : Nat) :
    let t := (((d.withOwners owners).frameAdded f).setQueue q w).answer n
    d.QueueBecomes q w t ∧ t.reg = d.reg ∧ t.frame? d.qry.nextId = some f ∧ t.qry.nextId = d.qry.nextId + 1 :=
  ⟨Dev.queueBecomes_of_put rfl rfl rfl, rfl, Dev.frame?_of_put rfl, rfl⟩

section
variable {d : Dev} {r : Requester} {q tag : Nat} (htag : tag < 32)
include htag

theorem Dev.queueCmd_commit : d.queueCmd r q 1 tag = Dev.qResult (d.portCommit q tag (ownerCode r)) q := by
  rw [← Nat.mod_eq_of_lt htag]
  simp [Dev.queueCmd]

theorem Dev.queueCmd_commit_none (hport : (d.queue q).port = none) :
    d.queueCmd r q 1 tag = d.setQueue q { d.queue q with res := qSTATE } := by
  have hstate : d.portCommit q tag (ownerCode r) = (d, qSTATE) := by simp only [Dev.portCommit, hport]
  rw [Dev.queueCmd_commit htag, hstate, Dev.qResult_same]

variable {o : OpenFrame} (hport : (d.queue q).port = some o)
include hport

theorem Dev.queueCmd_commit_refused (hrefused : o.refused = true) :
    d.queueCmd r q 1 tag = d.setQueue q { d.queue q with port := none, res := qREFUSED } := by
  rw [Dev.queueCmd_commit htag, Dev.portCommit]
  simp [hport, hrefused]

variable (hrefused : o.refused = false)
include hrefused

theorem Dev.queueCmd_commit_tooLong (hlong : o.tooLong = true) :
    d.queueCmd r q 1 tag = d.setQueue q { d.queue q with port := none, res := qOVERSIZE } := by
  rw [Dev.queueCmd_commit htag, Dev.portCommit]
  simp [hport, hrefused, hlong]

variable (hlong : o.tooLong = false)
include hlong

theorem Dev.queueCmd_commit_range (hout : ¬ o.allowsTag tag) :
    d.queueCmd r q 1 tag = d.setQueue q { d.queue q with res := qRANGE } := by
  unfold OpenFrame.allowsTag at hout
  have hrange : d.portCommit q tag (ownerCode r) = (d, qRANGE) := by
    simp only [Dev.portCommit, hport, hrefused, hlong, hout, Bool.false_eq_true, if_false]
  rw [Dev.queueCmd_commit htag, hrange, Dev.qResult_same]

theorem Dev.queueCmd_commit_ok (hin : o.allowsTag tag) : d.queueCmd r q 1 tag =
    (d.frameAdded (o.cut q tag (ownerCode r) d.ext (d.queue q).fseq)).setQueue q ((d.queue q).taken d.qry.nextId) := by
  unfold OpenFrame.allowsTag at hin
  rw [Dev.queueCmd_commit htag, Dev.portCommit]
  simp only [hport, hrefused, hlong, hin, Bool.false_eq_true, if_false, and_self, if_true, Dev.addFrame, Dev.qResult_setQueue,
    Dev.queue_setQueue_same]
  simp [Dev.setQueue, Dev.frameAdded, Dev.setFrame, OpenFrame.cut, Queue.taken]

end

theorem Dev.queueCmd_abandon_none {d : Dev} {q : Nat} (r : Requester) (hport : (d.queue q).port = none) :
    d.queueCmd r q 2 0 = d.setQueue q { d.queue q with res := qSTATE } := by
  have hstate : d.portAbandon q = (d, qSTATE) := by simp only [Dev.portAbandon, hport]
  show Dev.qResult (d.portAbandon q) q = _
  rw [hstate, Dev.qResult_same]

theorem Dev.queueCmd_abandon_open {d : Dev} {q : Nat} (r : Requester) (hport : (d.queue q).port ≠ none) :
    d.queueCmd r q 2 0 = d.setQueue q { d.queue q with port := none, res := qOK } := by
  obtain ⟨o, ho⟩ := Option.ne_none_iff_exists'.mp hport
  show Dev.qResult (d.portAbandon q) q = _
  simp [Dev.portAbandon, ho]

/-! ## The statement -/

/-- Settles O36: each command is its equation above, and leaves queue q stored. -/
theorem quarryProducer : Obligations.QuarryProducer := by
  intro s r q d hawake hfence htouch
  obtain ⟨owners, rfl, husable⟩ := Dev.laneUsable_of_touchLane hfence htouch
  have honly (w : Queue) := s.dev.onlyQueue_setQueue owners q w 0
  refine ⟨fun heven hmay x => ?port, fun heven hmay tag => ?frame, fun hmay => ?lease⟩
  case port =>
    intro o need
    have hwrite {e : Dev} {P : Dev → Prop} := completes_qWr (e := e) (P := P) (x := x) hawake husable heven hmay
    have hopened : ((s.dev.withOwners owners).queue q).opened = o := rfl
    refine ⟨fun hclosed => hwrite (Dev.portWrite_closed hopened hclosed) (honly _), fun hlong hrefused hfull => ?_,
      fun hlong hrefused hroom hcells => hwrite (Dev.portWrite_within hopened hlong hrefused hroom hcells) (honly _),
      fun hlong hrefused hroom hcells => ⟨fun hwhy => ?_, fun why hwhy => ?_⟩⟩
    · exact hwrite (Dev.portWrite_full hopened hlong hrefused hfull) ⟨Dev.queueBecomes_of_put rfl rfl rfl, Dev.rd_bump_same ..⟩
    · exact hwrite (Dev.portWrite_allowed hopened hlong hrefused hroom hcells hwhy) (honly _)
    · exact hwrite (Dev.portWrite_refused hopened hlong hrefused hroom hcells hwhy) ⟨Dev.queueBecomes_of_put rfl rfl rfl, Dev.rd_refuse ..⟩
  case frame =>
    have htag : tag.val < 1024 := by omega
    have hcommit {e : Dev} {P : Dev → Prop} := completes_qCmd (i := .qCommit r q tag) (cmd := 1) (arg := tag) (e := e) (P := P) hawake husable rfl hmay
      ⟨fun _ => heven, by omega⟩ (by decide) htag
    have habandon {e : Dev} {P : Dev → Prop} := completes_qCmd (i := .qAbandon r q) (cmd := 2) (arg := 0) (e := e) (P := P)
      hawake husable rfl hmay ⟨fun _ => heven, by omega⟩ (by decide) (by decide)
    refine ⟨fun o hport hrefused hlong => ⟨fun hlow hhigh => ?_, fun hout => ?_⟩, fun o hport hrefused => ?_,
      fun o hport hrefused hlong => ?_, fun hport => ?_, fun hport => ?_, fun hport => ?_⟩
    · exact hcommit (Dev.queueCmd_commit_ok tag.isLt hport hrefused hlong ⟨hlow, hhigh⟩)
        (Dev.queueBecomes_frameAdded ..)
    · exact hcommit (Dev.queueCmd_commit_range tag.isLt hport hrefused hlong hout) (honly _)
    · exact hcommit (Dev.queueCmd_commit_refused tag.isLt hport hrefused) (honly _)
    · exact hcommit (Dev.queueCmd_commit_tooLong tag.isLt hport hrefused hlong) (honly _)
    · exact hcommit (Dev.queueCmd_commit_none tag.isLt hport) (honly _)
    · exact habandon (Dev.queueCmd_abandon_open r hport) (honly _)
    · exact habandon (Dev.queueCmd_abandon_none r hport) (honly _)
  case lease =>
    have hboth {i : Instr} {cmd : Nat} {e : Dev} {P : Dev → Prop} (hexec : exec i s = s.logic (·.poke r (QRY_Q_CMD q) (cmd + 65536 * 0)))
        (hcmd : cmd = 9 ∨ cmd = 10) :=
      completes_qCmd (e := e) (P := P) hawake husable hexec hmay ⟨by omega, by omega⟩ (by omega) (by decide)
    exact ⟨hboth (cmd := 9) rfl (.inl rfl) rfl ⟨honly _, rfl⟩, hboth (cmd := 10) rfl (.inr rfl) rfl (honly _)⟩

end Sys2Proof.Machine
end

section
/-!
SUPPORT. The consumer's side of a queue: the consumer commands, the frames that they free or share, and the reads of the aperture
and of the queue's count.
-/
namespace Sys2Proof.Machine

/-! ## Freeing frames (R159, R166, R167) -/

/-- The device differs from d in live register words, in the quarry's frames and retired cells and in the counter of free values. -/
def Dev.FramesOnly (d t : Dev) : Prop := ∃ live frames retired free,
  t = { d with reg := { d.reg with live := live }, qry := { d.qry with frames := frames, retired := retired }, free := free }

theorem Dev.FramesOnly.refl (d : Dev) : d.FramesOnly d := ⟨_, _, _, _, rfl⟩

theorem Dev.FramesOnly.trans {a b c : Dev} (h : a.FramesOnly b) (k : b.FramesOnly c) : a.FramesOnly c := by
  obtain ⟨_, _, _, _, rfl⟩ := h
  obtain ⟨_, _, _, _, rfl⟩ := k
  exact ⟨_, _, _, _, rfl⟩

theorem Dev.FramesOnly.queue {d t : Dev} (h : d.FramesOnly t) (p : Nat) : t.queue p = d.queue p := by
  obtain ⟨_, _, _, _, rfl⟩ := h
  rfl

theorem Dev.FramesOnly.mem {d t : Dev} (h : d.FramesOnly t) : t.mem = d.mem := by
  obtain ⟨_, _, _, _, rfl⟩ := h
  rfl

theorem Dev.framesOnly_setFrame (d : Dev) (i : Nat) (f : Frame) : d.FramesOnly (d.setFrame i f) := ⟨_, _, _, _, rfl⟩

theorem Dev.framesOnly_retest (d : Dev) (f : Frame) : d.FramesOnly (d.retest f) := by
  refine Dev.each_keeps (P := d.FramesOnly) (fun e x he => he.trans ?_) _ d (.refl d)
  dsimp only
  split
  · exact ⟨_, _, _, _, rfl⟩
  · split
    · exact ⟨_, _, _, _, rfl⟩
    · exact ⟨_, _, _, _, rfl⟩

theorem Dev.framesOnly_dropHolder (d : Dev) (q i : Nat) : d.FramesOnly (d.dropHolder q i).1 := by
  unfold Dev.dropHolder
  split
  · exact .refl d
  · dsimp only
    split
    · exact .trans ⟨_, _, _, _, rfl⟩ (Dev.framesOnly_retest _ _)
    · exact d.framesOnly_setFrame ..

/-- Queue v without its first n frames. -/
def Queue.dropped (v : Queue) (n : Nat) : Queue := { v with ids := v.ids.drop n, mark := v.mark - n, rd := v.rd - n }

/-- The first n frames of queue q leave the queue, and nothing but frames changes beside it. -/
theorem Dev.framesOnly_dropFront (d : Dev) (q n : Nat) : (d.setQueue q ((d.queue q).dropped n)).FramesOnly (d.dropFront q n).1 := by
  have hfold (l : List Nat) : ∀ p : Dev × Nat,
      p.1.FramesOnly (l.foldl (fun (p : Dev × Nat) i => let (d, m) := p.1.dropHolder q i; (d, p.2 + m)) p).1 := by
    induction l with
    | nil => exact fun p => .refl p.1
    | cons i l ih => exact fun p => (p.1.framesOnly_dropHolder q i).trans (ih _)
  exact hfold _ (_, 0)

theorem Dev.queue_dropFront_same (d : Dev) (q n : Nat) : (d.dropFront q n).1.queue q = (d.queue q).dropped n :=
  ((d.framesOnly_dropFront q n).queue q).trans (Dev.queue_setQueue_same ..)

theorem Dev.dropFront_mem (d : Dev) (q n : Nat) : (d.dropFront q n).1.mem = d.mem := (d.framesOnly_dropFront q n).mem

/-! ## The consumer commands (R164, R165) -/

section
variable {d : Dev} {r : Requester} {q arg : Nat} (hen : d.en pQRY = true)
include hen

theorem Dev.queueCmd_advance (hmore : (d.queue q).rd < (d.queue q).ids.length) :
    d.queueCmd r q 3 arg = d.setQueue q { d.queue q with rd := (d.queue q).rd + 1, ap := 0, lat := none, res := qOK } := by
  show Dev.qResult (d.consume q 3 arg) q = _
  simp [Dev.consume, hen, Nat.not_le.mpr hmore]

theorem Dev.queueCmd_advance_end (hend : (d.queue q).ids.length ≤ (d.queue q).rd) :
    d.queueCmd r q 3 arg = d.setQueue q { d.queue q with res := qEMPTY } := by
  show Dev.qResult (d.consume q 3 arg) q = _
  simp [Dev.consume, hen, hend, Dev.qResult_same]

theorem Dev.queueCmd_mark : d.queueCmd r q 4 arg = d.setQueue q { d.queue q with mark := (d.queue q).rd, res := qOK } := by
  show Dev.qResult (d.consume q 4 arg) q = _
  simp [Dev.consume, hen]

theorem Dev.queueCmd_rewind :
    d.queueCmd r q 5 arg = d.setQueue q { d.queue q with rd := (d.queue q).mark, ap := 0, lat := none, res := qOK } := by
  show Dev.qResult (d.consume q 5 arg) q = _
  simp [Dev.consume, hen]

theorem Dev.queueCmd_release_none (hmark : (d.queue q).mark = 0) :
    d.queueCmd r q 6 arg = d.setQueue q { d.queue q with res := qEMPTY } := by
  show Dev.qResult (d.consume q 6 arg) q = _
  simp [Dev.consume, hen, hmark, Dev.qResult_same]

theorem Dev.queueCmd_release (hmark : (d.queue q).mark ≠ 0) :
    d.queueCmd r q 6 arg = Dev.qResult ((d.dropFront q (d.queue q).mark).1, qOK) q := by
  show Dev.qResult (d.consume q 6 arg) q = _
  simp [Dev.consume, hen, hmark]

section
variable {f : Frame} (hcur : (d.queue q).cur.bind d.frame? = some f)
include hcur

theorem Dev.queueCmd_seek (hin : arg % 128 ≤ lastWord f.data.length) :
    d.queueCmd r q 7 arg = d.setQueue q { d.queue q with ap := arg % 128, lat := none, res := qOK } := by
  show Dev.qResult (d.consume q 7 arg) q = _
  simp [Dev.consume, hen, hcur, Nat.not_lt.mpr hin]

theorem Dev.queueCmd_seek_beyond (hout : lastWord f.data.length < arg % 128) :
    d.queueCmd r q 7 arg = d.setQueue q { d.queue q with res := qRANGE } := by
  show Dev.qResult (d.consume q 7 arg) q = _
  simp [Dev.consume, hen, hcur, hout, Dev.qResult_same]

end

/-! ## FORWARD (R166) -/

theorem Dev.queueCmd_forward (harg : arg < 1024) : d.queueCmd r q 8 arg = Dev.qResult (d.forward q arg) q := by
  show Dev.qResult (d.consume q 8 arg) q = _
  simp [Dev.consume, hen, Nat.mod_eq_of_lt harg]

end

/-- Frame f with one holder more. -/
def Frame.sharedWith (f : Frame) (q : Nat) : Frame := { f with holders := f.holders ++ [q], shared := true }

/-- Queue dest holds frame f, number i, too. -/
def Dev.forwarded (d : Dev) (i : Nat) (f : Frame) (dest : Nat) : Dev :=
  (d.setFrame i (f.sharedWith dest)).setQueue dest { d.queue dest with ids := (d.queue dest).ids ++ [i] }

/-- What a FORWARD of frame f, number i, comes to (R166). -/
theorem Dev.forward_eq {d : Dev} {q i : Nat} {f : Frame} (dest : Nat) (hcur : (d.queue q).cur = some i) (hframe : d.frame? i = some f) :
    d.forward q dest =
      if dest % 2 = 1 ∨ f.poisoned then (d, qRANGE)
      else if 4 ≤ f.holders.length then (d, qSTATE)
      else if d.qQuota dest < d.occ dest + f.cells ∨ ¬(d.qCfg dest).testBit 0 then (d, qREFUSED)
      else (d.forwarded i f dest, qOK) := by
  simp only [Dev.forward, hcur, hframe]
  rfl

section
variable {d : Dev} {q i dest : Nat} {f : Frame} (hcur : (d.queue q).cur = some i) (hframe : d.frame? i = some f)
include hcur hframe

theorem Dev.forward_range (hbad : dest % 2 = 1 ∨ f.poisoned = true) : d.forward q dest = (d, qRANGE) :=
  (Dev.forward_eq dest hcur hframe).trans (if_pos hbad)

variable (heven : dest % 2 = 0) (hsound : f.poisoned = false)
include heven hsound

theorem Dev.forward_state (hheld : 4 ≤ f.holders.length) : d.forward q dest = (d, qSTATE) :=
  (Dev.forward_eq dest hcur hframe).trans ((if_neg (by simp [heven, hsound])).trans (if_pos hheld))

variable (hheld : f.holders.length < 4)
include hheld

theorem Dev.forward_refused (hfull : d.qQuota dest < d.occ dest + f.cells ∨ (d.qCfg dest).testBit 0 = false) :
    d.forward q dest = (d, qREFUSED) :=
  (Dev.forward_eq dest hcur hframe).trans ((if_neg (by simp [heven, hsound])).trans
    ((if_neg (Nat.not_le.mpr hheld)).trans (if_pos (hfull.imp_right Bool.eq_false_iff.mp))))

theorem Dev.forward_ok (hroom : d.occ dest + f.cells ≤ d.qQuota dest) (hon : (d.qCfg dest).testBit 0 = true) :
    d.forward q dest = (d.forwarded i f dest, qOK) :=
  (Dev.forward_eq dest hcur hframe).trans ((if_neg (by simp [heven, hsound])).trans
    ((if_neg (Nat.not_le.mpr hheld)).trans (if_neg (not_or.mpr ⟨Nat.not_lt.mpr hroom, not_not_intro hon⟩))))

end

/-- A forwarded frame is held by queue dest too, at its end; the queue it came from shows OK. -/
theorem Dev.forwarded_result (d : Dev) {q dest : Nat} (i : Nat) (f : Frame) (n : Nat) (hne : q ≠ dest) :
    let t := (Dev.qResult (d.forwarded i f dest, qOK) q).answer n
    t.queue q = { d.queue q with res := qOK } ∧ t.queue dest = { d.queue dest with ids := (d.queue dest).ids ++ [i] } ∧
      t.frame? i = some (f.sharedWith dest) ∧ t.reg = d.reg ∧ t.mem = d.mem := by
  have hsource : (d.forwarded i f dest).queue q = d.queue q := Dev.queue_setQueue_other _ _ hne
  have hdest : (d.forwarded i f dest).queue dest = { d.queue dest with ids := (d.queue dest).ids ++ [i] } := Dev.queue_setQueue_same ..
  rw [Dev.qResult_same, hsource]
  exact ⟨Dev.queue_setQueue_same .., (Dev.queue_setQueue_other _ _ hne.symm).trans hdest,
    Dev.frame?_of_put rfl, rfl, rfl⟩

/-! ## Reads of the per-queue array (R165, R169) -/

/-- A read that the rules allow at a word of the per-queue array which no latch holds is what its queue makes of it. -/
theorem Dev.busRead_queueWord {d e : Dev} {r : Requester} {q off v ecc : Nat} {x : RegDesc} {i : Nat} (hq : q < 1024) (hoff : off < 64)
    (haligned : off % 4 = 0) (hrow : findDesc off regsQueue = some (x, i)) (hmarks : x.marks = [])
    (hmay : d.mayRead r (0xE0100000 + 64 * q + off) = true) (hlatch : d.takeLatch (0xE0100000 + 64 * q + off) = none)
    (hcause : qReadCause q off = none) (hfence : d.qFencedRead q off = false) (hread : qRead d q off ecc = some (e, v)) :
    d.busRead r (0xE0100000 + 64 * q + off) 4 ecc = e.tookFree.answer v := by
  have hregion := regionOf_queue hq hoff
  have hnamed := d.named_queue hq hoff hrow
  have hlive : d.readLive x (0xE0100000 + 64 * q + off) ecc = .value e v := by
    simp [Dev.readLive, Dev.liveWord, latchesOf, hregion, hcause, hlatch, hfence, hread, hmarks, Dev.latch]
  have haligned4 : (0xE0100000 + 64 * q + off) % 4 = 0 := by omega
  have hres : d.readRes r (0xE0100000 + 64 * q + off) 4 ecc = .value e v := by
    unfold Dev.mayRead at hmay
    rw [hnamed] at hmay
    unfold Dev.readRes
    simp only [inRegs_queue hq hoff, haligned4, hnamed]
    rw [if_pos hmay]
    simpa using hlive
  unfold Dev.busRead
  rw [hres]

/-- A read of the count latches the bytes of the same instant. -/
theorem qRead_count (d : Dev) (q ecc : Nat) : qRead d q 0x18 ecc = some (d.setQueue q { d.queue q with bytesLatch := some (d.qBytes q) },
    satNat (d.occ q) 0x3FFFF + 0x40000 * satNat (d.queue q).ids.length 16383) := rfl

theorem Dev.apRead_none {d : Dev} {q : Nat} (j ecc : Nat) (hcur : (d.queue q).cur = none) :
    d.apRead q j ecc = (d.setQueue q { d.queue q with res := qEMPTY }, 0) := by
  simp only [Dev.apRead, hcur]

theorem Dev.apRead_latched {d : Dev} {q i j : Nat} {w : Bytes} (ecc : Nat) (hcur : (d.queue q).cur = some i)
    (hlat : (d.queue q).lat = some w) (hj : j ≠ 0) : d.apRead q j ecc = (d, leAt w (4 * j) 4) := by
  simp only [Dev.apRead, hcur, hlat, hj, if_false]

/-- A word that SECDED finds clean is read; offset 0x20 latches it. -/
theorem Dev.apRead_clean {d : Dev} {q i ecc : Nat} {f : Frame} (j : Nat) (hecc : ecc = eccClean) (hcur : (d.queue q).cur = some i)
    (hlat : (d.queue q).lat = none) (hframe : d.frame? i = some f) (hbad : f.bad.contains (d.queue q).ap = false) : d.apRead q j ecc =
      (if j = 0 then d.setQueue q { d.queue q with lat := some (f.word (d.queue q).ap) } else d, leAt (f.word (d.queue q).ap) (4 * j) 4) := by
  subst hecc
  have hword : d.readWord q i (d.queue q).ap eccClean = (d, f.word (d.queue q).ap) := by
    simp only [Dev.readWord, hframe, hbad]
    rfl
  simp only [Dev.apRead, hcur, hlat, hword, Dev.iff, beq_iff_eq]

/-- A read leaves queue q stored. -/
theorem Dev.onlyQueue_read (d : Dev) (q : Nat) (w : Queue) (v : Nat) : d.OnlyQueue q w ((d.setQueue q w).tookFree.answer v) :=
  ⟨Dev.queueBecomes_of_put rfl rfl rfl, rfl, rfl⟩

/-- The parts of OnlyQueue side by side. -/
theorem Dev.OnlyQueue.flat {d t : Dev} {q : Nat} {w : Queue} (h : d.OnlyQueue q w t) :
    t.queue q = w ∧ (∀ p, p ≠ q → t.queue p = d.queue p) ∧ t.mem = d.mem ∧ t.bus.cause = none ∧ t.reg = d.reg ∧
      t.qry.frames = d.qry.frames := by
  obtain ⟨⟨hqueue, hothers, hmem, hcause⟩, hreg, hframes⟩ := h
  exact ⟨hqueue, hothers, hmem, hcause, hreg, hframes⟩

section
variable {s : State} {r : Requester} {q : Fin 1024} {e : Dev} {v : Nat} {P : Dev → Prop} (hawake : Awake s)
include hawake

theorem completes_apertureRead {j : Fin 8} {ecc : Fin 3} (hodd : q.val % 2 = 1) (hunfenced : s.dev.laneFenced (q / 2) = false)
    (hmay : s.dev.mayRead r (QRY_Q_AP q j) = true) (hlatch : s.dev.takeLatch (QRY_Q_AP q j) = none)
    (hread : s.dev.apRead q j ecc = (e, v)) (hp : P (e.tookFree.answer v)) : Completes (.apertureRead r q j ecc) s P := by
  have haddr : QRY_Q_AP q j = 0xE0100000 + 64 * q.val + (0x20 + 4 * j.val) := by unfold QRY_Q_AP; omega
  have hrow : ∀ k : Fin 8, findDesc (0x20 + 4 * k.val) regsQueue = some (⟨0x20, 8, 0x4, .r, .const 0x0, 0xFFFFFFFF, [], [], 1⟩, k.val) := by
    decide
  have hqRead : qRead s.dev q (0x20 + 4 * j.val) ecc = some (e, v) := by
    unfold qRead
    have hindex : (0x20 + 4 * j.val - 0x20) / 4 = j.val := by omega
    simp only [hindex, hread]
    rw [if_neg (by omega), if_neg (by omega), if_neg (by omega), if_neg (by omega), if_neg (by omega), if_pos (by omega)]
  refine completes_logic (·.busRead r (QRY_Q_AP q j) 4 ecc) rfl hawake ?_
  show P (s.dev.busRead r (QRY_Q_AP q j) 4 ecc)
  rw [haddr] at hmay hlatch ⊢
  rwa [Dev.busRead_queueWord q.isLt (by omega) (by omega) (hrow j) rfl hmay hlatch (if_neg (by omega))
    (by simp [Dev.qFencedRead, hunfenced]) hqRead]

theorem completes_qCountRead (hmay : s.dev.mayRead r (QRY_Q_COUNT q) = true) (hlatch : s.dev.takeLatch (QRY_Q_COUNT q) = none)
    (hread : qRead s.dev q 0x18 0 = some (e, v)) (hp : P (e.tookFree.answer v)) : Completes (.qCountRead r q) s P := by
  have haddr : QRY_Q_COUNT q = 0xE0100000 + 64 * q.val + 0x18 := by unfold QRY_Q_COUNT; omega
  refine completes_logic (·.peek r (QRY_Q_COUNT q)) rfl hawake ?_
  show P (s.dev.busRead r (QRY_Q_COUNT q) 4 0)
  rw [haddr] at hmay hlatch ⊢
  rwa [Dev.busRead_queueWord q.isLt (by decide) (by decide) rfl rfl hmay hlatch rfl rfl hread]

end

/-! ## The statement -/

/-- Settles O37: each command is its equation above; a FORWARD goes through the cases of R166 in their order. -/
theorem quarryConsumer : Obligations.QuarryConsumer := by
  intro s r q d hawake hfence hodd htouch
  obtain ⟨owners, rfl, husable⟩ := Dev.laneUsable_of_touchLane hfence htouch
  intro v only
  have honly (w : Queue) : only (((s.dev.withOwners owners).setQueue q w).answer 0) w := (s.dev.onlyQueue_setQueue owners q w 0).flat
  refine ⟨fun hmay hen => ?commands, fun j ecc hmay hlatch => ?aperture, fun hmay hlatch => ?count⟩
  case commands =>
    have hcmd {i : Instr} {cmd arg : Nat} {e : Dev} {P : Dev → Prop} (hexec : exec i s = s.logic (·.poke r (QRY_Q_CMD q) (cmd + 65536 * arg)))
        (hconsumer : 3 ≤ cmd ∧ cmd ≤ 8) (harg : arg < 1024) :=
      completes_qCmd (e := e) (P := P) hawake husable hexec hmay ⟨by omega, fun _ => hodd⟩ (by omega) harg
    have hplain {i : Instr} {cmd : Nat} {e : Dev} {P : Dev → Prop} (hexec : exec i s = s.logic (·.poke r (QRY_Q_CMD q) (cmd + 65536 * 0)))
        (hconsumer : 3 ≤ cmd ∧ cmd ≤ 8) := hcmd (e := e) (P := P) hexec hconsumer (by decide)
    replace hen : (s.dev.withOwners owners).en pQRY = true := hen
    refine ⟨fun hmore => ?advance, fun hend => ?advanceEnd, ?mark, ?rewind, fun hmark => ?releaseNone, fun hmark => ?release,
      fun w f hcur => ⟨fun hin => ?seek, fun hout => ?seekBeyond⟩, fun dest i f hcur hframe => ?forward⟩
    case advance => exact hplain (cmd := 3) rfl (by decide) (Dev.queueCmd_advance hen hmore) (honly _)
    case advanceEnd => exact hplain (cmd := 3) rfl (by decide) (Dev.queueCmd_advance_end hen hend) (honly _)
    case mark => exact hplain (cmd := 4) rfl (by decide) (Dev.queueCmd_mark hen) (honly _)
    case rewind => exact hplain (cmd := 5) rfl (by decide) (Dev.queueCmd_rewind hen) (honly _)
    case releaseNone => exact hplain (cmd := 6) rfl (by decide) (Dev.queueCmd_release_none hen hmark) (honly _)
    case release =>
      refine hplain (cmd := 6) rfl (by decide) (Dev.queueCmd_release hen hmark) ⟨rfl, ?_, Dev.dropFront_mem ..⟩
      refine (Dev.queue_setQueue_same ..).trans ?_
      rw [Dev.queue_dropFront_same, Queue.dropped, Nat.sub_self]
      rfl
    case seek => exact hcmd (cmd := 7) (arg := w) rfl (by decide) w.isLt (Dev.queueCmd_seek hen hcur hin) (honly _)
    case seekBeyond => exact hcmd (cmd := 7) (arg := w) rfl (by decide) w.isLt (Dev.queueCmd_seek_beyond hen hcur hout) (honly _)
    case forward =>
      intro z
      have hforward {x : Dev × Nat} {P : Dev → Prop} (hx : (s.dev.withOwners owners).forward q dest = x) :=
        hcmd (i := .qForward r q dest) (cmd := 8) (arg := dest) (P := P) rfl (by decide) dest.isLt
          ((Dev.queueCmd_forward hen dest.isLt).trans (congrArg (Dev.qResult · q) hx))
      refine ⟨fun hbad => ?_, fun heven hsound hheld => ?_, fun heven hsound hheld hfull => ?_, fun heven hsound hheld hroom hon => ?_⟩
      · exact hforward (Dev.forward_range hcur hframe hbad) (honly _)
      · exact hforward (Dev.forward_state hcur hframe heven hsound hheld) (honly _)
      · exact hforward (Dev.forward_refused hcur hframe heven hsound hheld hfull) (honly _)
      · have hne : q.val ≠ dest.val := fun h => by omega
        exact hforward (Dev.forward_ok hcur hframe heven hsound hheld hroom hon)
          ((s.dev.withOwners owners).forwarded_result i f 0 hne)
  case aperture =>
    have hread {e : Dev} {n : Nat} {P : Dev → Prop} :=
      completes_apertureRead (e := e) (v := n) (P := P) (ecc := ecc) hawake hodd hfence hmay hlatch
    refine ⟨fun hcur => ?_, fun i w hcur hlat hj => ?_, fun i f hcur hlat hframe hecc hbad => ?_⟩
    · exact hread (Dev.apRead_none j ecc hcur) ⟨(s.dev.onlyQueue_read q _ 0).flat, rfl⟩
    · exact hread (Dev.apRead_latched ecc hcur hlat hj) ⟨⟨rfl, fun _ _ => rfl, rfl, rfl, rfl, rfl⟩, rfl⟩
    · refine hread (Dev.apRead_clean j hecc hcur hlat hframe hbad) ⟨rfl, ?_⟩
      by_cases hj : j.val = 0
      · rw [if_pos hj, if_pos hj]
        exact (s.dev.onlyQueue_read q _ _).flat
      · rw [if_neg hj, if_neg hj]
        exact ⟨rfl, fun _ _ => rfl, rfl, rfl, rfl, rfl⟩
  case count => exact completes_qCountRead hawake hmay hlatch (qRead_count ..) ⟨(s.dev.onlyQueue_read q _ _).flat, rfl⟩

end Sys2Proof.Machine
end

section
/-!
SUPPORT. Fences and the sweeper: a lane that is fenced, one that is given back, and the end of a sweep.
-/
namespace Sys2Proof.Machine

/-! ## A lane is fenced (R171, R172) -/

theorem mem_insertNat (n : Nat) (l : List Nat) : n ∈ insertNat n l := by
  induction l with
  | nil => exact List.mem_singleton_self n
  | cons m t ih =>
    unfold insertNat
    split
    · exact List.mem_cons_self
    · exact List.mem_cons_of_mem m ih

/-- The quarry with a lane fenced: its sweep begins, or waits for the one under way. -/
def QrySt.withFenced (z : QrySt) (lane : Nat) : QrySt :=
  match z.sweeping with
  | none => { z with fenced := insertNat lane z.fenced, sweeping := some lane }
  | some _ => { z with fenced := insertNat lane z.fenced, waiting := insertNat lane z.waiting }

/-- Of the lane being fenced t shows: the fence, the sweep that begins or waits, and no frame, queue or byte of memory changed. -/
def Dev.FencesLane (d : Dev) (lane : Nat) (t : Dev) : Prop :=
  lane ∈ t.qry.fenced ∧ t.qry.frames = d.qry.frames ∧ t.qry.queues = d.qry.queues ∧ t.mem = d.mem ∧
    (d.qry.sweeping = none → t.qry.sweeping = some lane ∧ t.qry.waiting = d.qry.waiting) ∧
    (d.qry.sweeping ≠ none → t.qry.sweeping = d.qry.sweeping ∧ lane ∈ t.qry.waiting)

theorem Dev.fencesLane_of_withFenced {d t : Dev} {lane : Nat} (hqry : t.qry = d.qry.withFenced lane) (hmem : t.mem = d.mem) :
    d.FencesLane lane t := by
  unfold Dev.FencesLane
  rw [hqry, hmem]
  cases hsweep : d.qry.sweeping with
  | none => simp [QrySt.withFenced, hsweep, mem_insertNat]
  | some l => simp [QrySt.withFenced, hsweep, mem_insertNat]

section
variable {d : Dev} {lane : Nat} (hopen : d.laneFenced lane = false)
include hopen

theorem Dev.fenceLane_open (expiry : Bool) :
    d.fenceLane lane expiry = ({ d with qry := d.qry.withFenced lane } : Dev).iff expiry (·.bump QRY_FENCE_COUNT) := by
  unfold Dev.fenceLane QrySt.withFenced
  rw [if_neg (by simp [hopen])]
  cases hsweep : d.qry.sweeping with
  | none => cases expiry <;> simp [hsweep] <;> rfl
  | some l => cases expiry <;> simp [hsweep] <;> rfl

/-- A fence of software counts nothing. -/
theorem Dev.fenceLane_command : d.fenceLane lane false = { d with qry := d.qry.withFenced lane } := d.fenceLane_open hopen false

/-- An expiry is counted. -/
theorem Dev.fenceLane_expiry : d.fenceLane lane true = ({ d with qry := d.qry.withFenced lane } : Dev).bump QRY_FENCE_COUNT :=
  d.fenceLane_open hopen true

end

/-! ## LEASE_EXPIRE (R170) -/

theorem Dev.laneFenced_of_leaseOut {d : Dev} {lane : Nat} (h : d.leaseOut lane = true) : d.laneFenced lane = false := by
  unfold Dev.leaseOut at h
  simp only [Bool.and_eq_true, Bool.not_eq_true'] at h
  exact h.1.2

theorem Dev.leaseExpire_out {d : Dev} {lane : Nat} (h : d.leaseOut lane = true) :
    d.leaseExpire lane = ({ d with qry := d.qry.withFenced lane } : Dev).bump QRY_FENCE_COUNT := by
  unfold Dev.leaseExpire
  rw [h, Dev.iff_true, Dev.fenceLane_expiry (Dev.laneFenced_of_leaseOut h)]

theorem Dev.leaseExpire_stands {d : Dev} {lane : Nat} (h : d.leaseOut lane = false) : d.leaseExpire lane = d := by
  unfold Dev.leaseExpire
  rw [h, Dev.iff_false]

/-! ## Writes to QRY_FENCE (R171) -/

/-- A write to QRY_FENCE that the rules allow is what the quarry makes of it. -/
theorem Dev.poke_qryFence {d : Dev} {r : Requester} {v : Nat} {w : WriteRes} (hmay : d.mayWrite r QRY_FENCE = true) (hv : v < 2 ^ 32)
    (hblock : qryWrite d r 0x118 v = w) (hown : w ≠ .plain) : d.poke r QRY_FENCE v = d.written r QRY_FENCE w := by
  have hnamed := d.named_page (p := pQRY) (off := 0x118) (by decide) (by decide) (by decide) rfl
  have hjudged : d.blockWrite r QRY_FENCE (v % 2 ^ 32) = w := by
    rw [Nat.mod_eq_of_lt hv]
    exact hblock
  refine (Dev.poke_l (a := QRY_FENCE) v rfl rfl hnamed hmay rfl rfl rfl).trans ?_
  rw [hjudged]
  cases w with
  | plain => exact absurd rfl hown
  | refuse c => rfl
  | done e => rfl

section
variable {d : Dev} {r : Requester} {lane : Nat} (hlane : lane < 512) (hmay : d.mayWrite r QRY_FENCE = true) (happ : r.role ≠ .app)
  (hext : r.role ≠ .ext)
include hlane hmay happ hext

theorem Dev.poke_laneFence : d.poke r QRY_FENCE (lane + 2 ^ 16) = (d.fenceLane lane false).answer 0 := by
  have hfence : (lane + 2 ^ 16).testBit 16 = true := by rw [Nat.testBit_eq_decide_div_mod_eq]; exact decide_eq_true (by omega)
  have hunfence : (lane + 2 ^ 16).testBit 17 = false := by rw [Nat.testBit_eq_decide_div_mod_eq]; exact decide_eq_false (by omega)
  have hnumber : (lane + 2 ^ 16) % 512 = lane := by omega
  have hblock : qryWrite d r 0x118 (lane + 2 ^ 16) = .done (d.fenceLane lane false) := by
    unfold qryWrite
    rw [if_pos rfl, if_neg (not_or.mpr ⟨happ, hext⟩), hfence, hunfence, hnumber, if_neg (by decide), if_pos rfl]
  rw [Dev.poke_qryFence hmay (by omega) hblock nofun, Dev.written_done]

theorem Dev.poke_laneUnfence {w : WriteRes} (hw : d.unfenceLane lane = w) (hown : w ≠ .plain) :
    d.poke r QRY_FENCE (lane + 2 ^ 17) = d.written r QRY_FENCE w := by
  have hfence : (lane + 2 ^ 17).testBit 16 = false := by rw [Nat.testBit_eq_decide_div_mod_eq]; exact decide_eq_false (by omega)
  have hunfence : (lane + 2 ^ 17).testBit 17 = true := by rw [Nat.testBit_eq_decide_div_mod_eq]; exact decide_eq_true (by omega)
  have hnumber : (lane + 2 ^ 17) % 512 = lane := by omega
  refine Dev.poke_qryFence hmay (by omega) ?_ hown
  unfold qryWrite
  rw [if_pos rfl, if_neg (not_or.mpr ⟨happ, hext⟩), hfence, hunfence, hnumber, if_neg (by decide), if_neg (by decide), hw]

end

/-- A queue with no frame and no open frame, every pointer at the start. -/
def Queue.emptied (v : Queue) : Queue := { v with ids := [], mark := 0, rd := 0, ap := 0, lat := none, port := none }

/-- The device with queue q emptied. -/
def Dev.queueEmptied (d : Dev) (q : Nat) : Dev := d.setQueue q (d.queue q).emptied

/-- A lane is given back: both its queues are empty, it has no owner and no fence. -/
def Dev.laneGivenBack (d : Dev) (lane : Nat) : Dev :=
  let e := (d.queueEmptied (2 * lane)).queueEmptied (2 * lane + 1)
  { e with qry := { e.qry with fenced := d.qry.fenced.erase lane, owners := Assoc.del d.qry.owners lane } }

theorem Dev.unfenceLane_busy {d : Dev} {lane : Nat} (h : d.qry.sweeping = some lane ∨ d.qry.waiting.contains lane = true) :
    d.unfenceLane lane = .refuse ENGINE_BUSY := if_pos h

theorem Dev.unfenceLane_swept {d : Dev} {lane : Nat} (hfenced : d.laneFenced lane = true) (hsweep : d.qry.sweeping ≠ some lane)
    (hwait : d.qry.waiting.contains lane = false) : d.unfenceLane lane = .done (d.laneGivenBack lane) := by
  unfold Dev.unfenceLane
  rw [if_neg (not_or.mpr ⟨hsweep, Bool.eq_false_iff.mp hwait⟩), if_neg (by simp [hfenced])]
  rfl

/-- Both queues of a lane that is given back are emptied. -/
theorem Dev.queue_laneGivenBack (d : Dev) {lane q : Nat} (hq : q = 2 * lane ∨ q = 2 * lane + 1) :
    (d.laneGivenBack lane).queue q = (d.queue q).emptied := by
  have hother : (d.queueEmptied (2 * lane)).queue (2 * lane + 1) = d.queue (2 * lane + 1) := Dev.queue_setQueue_other _ _ (by omega)
  rcases hq with rfl | rfl
  · exact (Dev.queue_setQueue_other _ _ (by omega)).trans (Dev.queue_setQueue_same ..)
  · exact (Dev.queue_setQueue_same ..).trans (congrArg Queue.emptied hother)

/-! ## The end of a sweep (R172) -/

/-- The open frame of queue q is gone. -/
def Dev.portDropped (d : Dev) (q : Nat) : Dev := d.setQueue q { d.queue q with port := none }

/-- Every frame of queue q is freed; the cells that went back beside the device. -/
def Dev.queueDrained (d : Dev) (q : Nat) : Dev × Nat := d.dropFront q (d.queue q).ids.length

/-- The sweeper has told what it freed of its lane: in QRY_RECLAIM_LAST, in the count of cells and by event 25; the next lane's sweep
begins. -/
def Dev.sweepTold (d : Dev) (lane freed : Nat) : Dev :=
  let e := (d.wr QRY_RECLAIM_LAST (lane + 512 * satNat freed 0x3FFFF)).bump QRY_RECLAIM_COUNT freed
  ({ e with qry := { e.qry with sweeping := e.qry.waiting.head?, waiting := e.qry.waiting.tail } } : Dev).raise pQRY 1

theorem Dev.sweepDone_lane {d : Dev} {lane : Nat} (h : d.qry.sweeping = some lane) : d.sweepDone =
    let a := (d.portDropped (2 * lane)).queueDrained (2 * lane)
    let b := a.1.queueDrained (2 * lane + 1)
    b.1.sweepTold lane ((d.queue (2 * lane)).openCells + a.2 + b.2) := by
  simp only [Dev.sweepDone, h]
  rfl

theorem Dev.rd_sweepTold_last (d : Dev) (lane freed : Nat) :
    (d.sweepTold lane freed).rd QRY_RECLAIM_LAST = (lane + 512 * satNat freed 0x3FFFF) % 2 ^ 32 :=
  (Dev.rd_raise_other _ _ _ (by decide)).trans ((Dev.rd_bump_other _ _ (by decide)).trans (Dev.rd_wr_same ..))

theorem Dev.rd_sweepTold_count (d : Dev) (lane freed : Nat) :
    (d.sweepTold lane freed).rd QRY_RECLAIM_COUNT = satNat (d.rd QRY_RECLAIM_COUNT + freed) m32 := by
  refine (Dev.rd_raise_other _ _ _ (by decide)).trans ((Dev.rd_bump_same ..).trans ?_)
  rw [Dev.rd_wr_other _ _ (by decide)]

theorem Dev.evq_sweepTold (d : Dev) (lane freed : Nat) : ∃ e, (d.sweepTold lane freed).evq = d.evq ++ [e] ∧ e.event = 25 := by
  obtain ⟨e, hqueue, hevent, -⟩ := Dev.evq_raise _ pQRY 1
  exact ⟨e, hqueue, hevent⟩

theorem Dev.qry_sweepTold (d : Dev) (lane freed : Nat) :
    (d.sweepTold lane freed).qry = { d.qry with sweeping := d.qry.waiting.head?, waiting := d.qry.waiting.tail } := Dev.raise_qry ..

@[simp] theorem Dev.sweepTold_mem (d : Dev) (lane freed : Nat) : (d.sweepTold lane freed).mem = d.mem := Dev.raise_mem ..

/-! ## The statement -/

/-- Settles O38: a fence is withFenced on the quarry, a lane given back is laneGivenBack, and the end of a sweep is sweepTold on what the
two drained queues leave. -/
theorem leasesFencesAndSweep : Obligations.LeasesFencesAndSweep := by
  intro s r lane hawake
  refine ⟨⟨fun hout => ?expiry, fun hstands => ?stands, fun hmay happ hext => ⟨fun hopen => ?fence, fun hfenced hsweep hwait => ?unfence,
    fun hbusy => ?busy⟩⟩, fun hsweep => ?swept⟩
  case expiry =>
    refine completes_logic (·.leaseExpire lane) rfl hawake ?_
    rw [Dev.leaseExpire_out hout]
    exact ⟨Dev.fencesLane_of_withFenced rfl rfl, Dev.rd_bump_same .., fun a ha => Dev.rd_bump_other _ _ ha⟩
  case stands => exact completes_logic (·.leaseExpire lane) rfl hawake (Dev.leaseExpire_stands hstands)
  case fence =>
    refine completes_logic (·.poke r QRY_FENCE (lane.val + 2 ^ 16)) rfl hawake ?_
    rw [Dev.poke_laneFence lane.isLt hmay happ hext, Dev.fenceLane_command hopen]
    exact ⟨Dev.fencesLane_of_withFenced rfl rfl, rfl, rfl⟩
  case unfence =>
    refine completes_logic (·.poke r QRY_FENCE (lane.val + 2 ^ 17)) rfl hawake ?_
    rw [Dev.poke_laneUnfence lane.isLt hmay happ hext (Dev.unfenceLane_swept hfenced hsweep hwait) nofun, Dev.written_done]
    exact ⟨rfl, rfl, fun q hq => s.dev.queue_laneGivenBack hq, rfl, rfl⟩
  case busy =>
    refine completes_logic (·.poke r QRY_FENCE (lane.val + 2 ^ 17)) rfl hawake ?_
    rw [Dev.poke_laneUnfence lane.isLt hmay happ hext (Dev.unfenceLane_busy hbusy) nofun, Dev.written_refuse]
  case swept =>
    intro tx d a b freed
    refine completes_logic (·.sweepDone) rfl hawake ?_
    have htold : s.dev.sweepDone = b.1.sweepTold lane freed := Dev.sweepDone_lane hsweep
    have hmem : b.1.mem = s.dev.mem := (Dev.dropFront_mem ..).trans (Dev.dropFront_mem ..)
    rw [htold, Dev.qry_sweepTold, Dev.sweepTold_mem, hmem]
    exact ⟨Dev.rd_sweepTold_last .., Dev.rd_sweepTold_count .., Dev.evq_sweepTold .., rfl, rfl, rfl, rfl, rfl⟩

end Sys2Proof.Machine
end
